-- ==== Sys2Proof/Word.lean ====
section
/-! DEFINITION. The words of the SX44 and their plainest arithmetic: the byte that ports carry, the 32-bit
part time (spec 00_scope, "Part time"), and the two ends of a clamp. -/

namespace Sys2Proof

/-- One byte of a frame (R152). -/
abbrev Byte := BitVec 8

/-- Part time: a 32-bit count of milliseconds since the last reset, which wraps (00_scope, "Part time"). -/
abbrev PartTime := BitVec 32

/-- `x` held within `lo` to `hi`: the nearer end when it lies outside (00_scope, "Saturate, clamp and refuse"). -/
def clampInt (lo hi x : Int) : Int := if x < lo then lo else if hi < x then hi else x

/-- `x` held at or below `hi` (a saturating count, or a measurement above its range). -/
def capNat (hi x : Nat) : Nat := if hi < x then hi else x

end Sys2Proof
end

