-- ==== Sys2Proof/Syntax.lean ====
section
/-! DEFINITION. The commands of the SX44: ONE constructor of `Instr` per row of spec/opcode_table.json, with the
operands that the row's frame, request, timer or line brings. -/

namespace Sys2Proof

/-- The two frame ports (R152). -/
inductive Port where
  | station
  | field
  deriving DecidableEq, Repr

/-- A frame received whole or waiting to be sent, less its SYNC, LEN and CRC bytes, which its payload fixes (R152). -/
structure Frame where
  dest : Nat
  src : Nat
  kind : Nat
  payload : List Byte
  deriving DecidableEq, Repr

/-- The four header bytes of a frame as they arrive at a port (R152). -/
structure FrameHeader where
  dest : Byte
  src : Byte
  kind : Byte
  len : Byte
  deriving DecidableEq, Repr

/-- Bytes of a frame arriving at a port, and after them a gap, in ms, before the frame's next byte (R153). -/
structure FramePart where
  bytes : List Byte
  gap : Nat
  deriving DecidableEq, Repr

/-- A pin that carries a debounced input: one of IN0 to IN7, or MAINT (R175). -/
inductive InputPin where
  | line (i : Fin 8)
  | maint
  deriving DecidableEq, Repr

/-- What the part finds at its pins and rails when the holding conditions of a reset end (R177 to R179). -/
structure ResetEnd where
  /-- the value on ADDR1 and ADDR0, read during the reset -/
  addrPins : Fin 4
  /-- VAUX stands above its rising threshold -/
  vauxAbove : Bool
  /-- VHOLD stands below its low threshold -/
  vholdLow : Bool
  deriving DecidableEq, Repr

/-- The commands. Frames carry DEST, SRC and payload; a management request carries the argument bytes that follow
its request code; a per-record timer carries the record's index. -/
inductive Instr where
  | moduleReport (dest src : Nat) (payload : List Byte)
  | stringReport (dest src : Nat) (payload : List Byte)
  | gridSample (dest src : Nat) (payload : List Byte)
  | pcsStatus (dest src : Nat) (payload : List Byte)
  | coolantStatus (dest src : Nat) (payload : List Byte)
  | detectorReport (dest src : Nat) (payload : List Byte)
  | fieldFrame (f : Frame)
  | stationFrame (f : Frame)
  | dispatch (dest src : Nat) (payload : List Byte)
  | readStatus (args : List Byte)
  | readRecords (args : List Byte)
  | scanCells (args : List Byte)
  | readEnvelope (args : List Byte)
  | readTable (args : List Byte)
  | loadTable (args : List Byte)
  | loadEntry (args : List Byte)
  | setParameter (args : List Byte)
  | storeImage (args : List Byte)
  | clearFlags (args : List Byte)
  | clearCounters (args : List Byte)
  | restart (args : List Byte)
  | startRound (args : List Byte)
  | stopRound (args : List Byte)
  | isolateString (args : List Byte)
  | restoreString (args : List Byte)
  | resetString (args : List Byte)
  | releaseGate (args : List Byte)
  | connect (args : List Byte)
  | disconnect (args : List Byte)
  | resetLockout (args : List Byte)
  | resetFire (args : List Byte)
  /-- a request payload with no request code, or with a code the part does not know -/
  | unknownRequest (payload : List Byte)
  /-- the header of a frame arriving on `port`, up to its LEN byte -/
  | lengthError (port : Port) (header : FrameHeader)
  /-- bytes of a frame arriving on `port`, and a gap after them -/
  | truncatedFrame (port : Port) (part : FramePart)
  /-- the last byte of a frame, with the header, payload and CRC as received -/
  | faultyFrameEnd (port : Port) (dest src kind : Byte) (payload : List Byte) (crc : BitVec 16)
  | fieldTransmitStart
  | fieldFrameSent
  | stationTransmitStart
  | stationFrameSent
  | noticeMove
  | intervalExpiry
  | wakeSettleExpiry
  | quietSettleExpiry
  | roundDeadlineExpiry
  | contactorTimerExpiry (string : Fin 4)
  | envelopeTimerExpiry
  | stationSilenceExpiry
  | overshootTimerExpiry
  | stageDelayExpiry (stage : Fin 8)
  | openTimeout
  | closeTimeout
  | reconnectTimerExpiry
  | historyTimerExpiry
  | tripPulseEnd
  | closePulseEnd
  | nodeSilenceExpiry (entry : Fin 64)
  | clearTimerExpiry (zone : Fin 8)
  | fireTimerExpiry
  | releaseCountdownEnd (zone : Fin 8)
  | auxRestoreExpiry
  | scrubTimerExpiry
  /-- the raw level at `pin` becomes `high` -/
  | lineLevelChange (pin : InputPin) (high : Bool)
  | breakerFeedbackChange
  | breakerAdoption
  | fireLineChange (line : Fin 8)
  | releaseHoldChange
  | eStopActive
  | eStopInactive
  | unassignedLineChange (line : Fin 8)
  | maintChange
  | vauxFall
  | vauxRise
  | vauxRestoreDip
  | holdupLowBegin
  | holdupLowEnd
  | brownOut
  | resetnAssert
  | restartReset
  | resetComplete (found : ResetEnd)
  /-- `correct`: the record read back with a correct CRC -/
  | storeRecordWritten (correct : Bool)
  | syncReceived (port : Port)
  deriving DecidableEq, Repr

end Sys2Proof
end

