-- ==== Sys2Proof/Decode.lean ====
section
/-! DEFINITION. Decoding by the bits of spec/opcode_table.json. The part has no instruction words: the table gives bits
to none of its rows, so that no word spells a command. -/

namespace Sys2Proof

/-- The command that a word spells by the table's bits: none, since no row of the table has bits. -/
def decodeTableWord (nbits w : Nat) : Option Instr :=
  match nbits, w with
  | _, _ => none

end Sys2Proof
end

