-- ==== Sys2Proof/Config.lean ====
section
/-! DEFINITION. What the manual leaves open and the model leaves free. None of these has a body: no proof can see
which value it is, so a claim holds for every value (logs 3 to 5, 10 and 21). -/

namespace Sys2Proof

/-- Whether a value of f_nom exactly half way between 50000 and 60000 mHz is clamped to 60000. R82 clamps a value to
"the nearer of the two" and names neither when both are equally near (DESIGN CHOICE: free, log 3). -/
opaque Config.fNominalTieIsHigh : Bool

/-- Whether, at the `n`-th occasion on which the manual lets two blocks act in either order, the Dispatch Gate acts
before the block it meets: before the protection stages at a GRID SAMPLE (R89, R102), and before the Envelope Unit at
an E_STOP (R83, R176). (DESIGN CHOICE: free, log 4.) -/
opaque Config.gateFirst : Nat → Bool

/-- Whether, at the `n`-th such occasion, the calibrations of a close are taken before the envelope evaluation that
the close ends with (R53). (DESIGN CHOICE: free, log 5.) -/
opaque Config.calibrationFirst : Nat → Bool

/-- Whether a contactor feedback byte above 1, which R152 does not name, is taken as CLOSED (DESIGN CHOICE: free,
log 10). -/
opaque Config.unnamedFeedbackIsClosed : Nat → Bool

/-- The PCS state, 0 to 2, that a PCS STATUS with a state byte above 2 is taken to carry (DESIGN CHOICE: free,
log 10). -/
opaque Config.unnamedPcsState : Nat → Fin 3

/-- The chiller state, 0 to 2, that a COOLANT STATUS with a state byte above 2 is taken to carry (DESIGN CHOICE:
free, log 10). -/
opaque Config.unnamedChillerState : Nat → Fin 3

/-- Whether a SCAN CELLS with a direction byte above 1, which R168 neither names nor refuses, steps up (DESIGN
CHOICE: free, log 10). -/
opaque Config.unnamedDirectionIsUp : Nat → Bool

/-- The scope, 0 ALL, 1 STRING or 2 MODULE, of a START ROUND with a scope byte above 2, which R4 neither names nor
refuses (DESIGN CHOICE: free, log 10). -/
opaque Config.unnamedScope : Nat → Fin 3

/-- Whether a START ROUND with a quiet option byte above 1 asks for a quiet round (DESIGN CHOICE: free, log 10). -/
opaque Config.unnamedQuietOption : Nat → Bool

/-- The number that a field of a response carries, by its width in bytes, where the record holds no value: R152 gives
an absent cell reading 65535 and a notice without subject 255, and no other absent value a number (DESIGN CHOICE: free,
log 21). -/
opaque Config.absentField : Nat → Nat

/-- The byte that carries END as the stop index of SCAN CELLS, to which R168 gives no number (DESIGN CHOICE: free,
log 21). -/
opaque Config.scanEnd : Nat

/-- The number, of four bytes, that a field of a response carries for a charge which four bytes cannot hold (R43, R152;
DESIGN CHOICE: free, log 21). -/
opaque Config.wideCharge : Nat → Nat

end Sys2Proof
end

