-- ==== Sys2Proof/Machine/Tables.lean ====
section
/-! DEFINITION. The settings of the SX44: tables T1 to T16 with their built-in defaults, and the operating
parameters with theirs. Each type names the rule that gives its fields, ranges and defaults. -/

namespace Sys2Proof.Machine

/-- Cell voltage limits, mV (R19). -/
structure VoltageLimits where
  minHard : Nat
  minWarn : Nat
  maxWarn : Nat
  maxHard : Nat
  hardPersist : Nat
  deriving DecidableEq, Repr

def VoltageLimits.builtIn : VoltageLimits := ⟨2800, 3000, 3550, 3650, 2⟩

/-- T2, half-degrees (R19). -/
structure TemperatureLimits where
  tMaxHard : Int
  deriving DecidableEq, Repr

def TemperatureLimits.builtIn : TemperatureLimits := ⟨120⟩

/-- T3 to T7: breakpoints `(x, y)` in order of `x` (R60). -/
abbrev Curve := List (Int × Int)

/-- The built-in default of T3 and T4 (R60). -/
def Curve.temperatureDefault : Curve := [(-80, 0), (250, 0)]

/-- The built-in default of T5 and T6 (R60). -/
def Curve.socDefault : Curve := [(0, 0), (1024, 0)]

/-- The built-in default of T7 (R60). -/
def Curve.frequencyDefault : Curve := [(-5000, 0), (5000, 0)]

/-- The quantity a protection stage compares (R104). -/
inductive Quantity where
  | vMin | vMax | freq | rocof
  deriving DecidableEq, Repr

inductive Direction where
  | under | over
  deriving DecidableEq, Repr

inductive StageAction where
  | trip | notify
  deriving DecidableEq, Repr

/-- One entry of T8 (R104). -/
structure StageEntry where
  inUse : Bool
  quantity : Quantity
  direction : Direction
  trip : Nat
  restore : Nat
  delay : Nat
  action : StageAction
  deriving DecidableEq, Repr

/-- The built-in T8, drawn for a 50 Hz feeder (R104). Stage 7 is not in use; the fields of an entry not in use
are not given, and stand at the first named value and 0 (DESIGN CHOICE, log 6). -/
def StageEntry.builtIns : List StageEntry :=
  [⟨true, .vMin, .under, 850, 900, 2000, .trip⟩,
   ⟨true, .vMin, .under, 500, 900, 150, .trip⟩,
   ⟨true, .vMax, .over, 1100, 1080, 1000, .trip⟩,
   ⟨true, .vMax, .over, 1200, 1100, 100, .trip⟩,
   ⟨true, .freq, .under, 47500, 47700, 500, .trip⟩,
   ⟨true, .freq, .over, 52000, 51800, 500, .trip⟩,
   ⟨true, .rocof, .over, 2000, 1500, 500, .trip⟩,
   ⟨false, .vMin, .under, 0, 0, 0, .trip⟩]

/-- T9, the connection settings (R108). `reconnectTime` and `tripWindow` are in seconds, the other times in ms. -/
structure ConnectionSettings where
  vWindowLow : Nat
  vWindowHigh : Nat
  fWindowLow : Nat
  fWindowHigh : Nat
  reconnectTime : Nat
  autoReconnect : Bool
  tripLimit : Nat
  tripWindow : Nat
  openTimeout : Nat
  closeTimeout : Nat
  tripPulse : Nat
  closePulse : Nat
  importCap : Nat
  exportCap : Nat
  deriving DecidableEq, Repr

def ConnectionSettings.builtIn : ConnectionSettings :=
  ⟨950, 1050, 49900, 50100, 300, true, 3, 3600, 200, 500, 200, 200, 4000, 4000⟩

inductive StalePolicy where
  | string | container
  deriving DecidableEq, Repr

/-- One string's entry of T10 (R18). -/
structure StringEntry where
  inUse : Bool
  modules : Nat
  cells : Nat
  stalePolicy : StalePolicy
  capacityAh : Nat
  ratedKw : Nat
  deriving DecidableEq, Repr

/-- T10, the string settings (R18). -/
structure StringSettings where
  entries : List StringEntry
  rejoinWindow : Nat
  contactorTime : Nat
  deriving DecidableEq, Repr

def StringEntry.builtIn : StringEntry := ⟨true, 12, 16, .string, 280, 625⟩

def StringSettings.builtIn : StringSettings := ⟨List.replicate 4 StringEntry.builtIn, 50, 500⟩

/-- One zone's entry of T11 (R120). -/
structure ZoneEntry where
  tSet : Int
  hyst : Nat
  k : Nat
  base : Nat
  deriving DecidableEq, Repr

/-- T11, the zone settings (R120). -/
structure ZoneSettings where
  entries : List ZoneEntry
  fallbackCode : Nat
  prealarmCode : Nat
  holdupCap : Nat
  supplyLimit : Int
  supplyRestore : Int
  flowMin : Nat
  flowHyst : Nat
  deriving DecidableEq, Repr

def ZoneEntry.builtIn : ZoneEntry := ⟨60, 6, 8, 40⟩

def ZoneSettings.builtIn : ZoneSettings :=
  ⟨List.replicate 8 ZoneEntry.builtIn, 160, 200, 96, 48, 44, 200, 20⟩

inductive DetectorType where
  | smoke | gas | heat
  deriving DecidableEq, Repr

/-- One entry of T12 (R135). -/
structure DetectorEntry where
  inUse : Bool
  type : DetectorType
  zone : Nat
  preLevel : Int
  alarmLevel : Int
  persist : Nat
  mask : Bool
  deriving DecidableEq, Repr

def DetectorEntry.builtIn : DetectorEntry := ⟨false, .smoke, 0, 0, 0, 3, false⟩

/-- T13, the fire response settings (R136). `clearTime` and `releaseDelay` are in seconds. -/
structure FireSettings where
  prealarmFactor : Nat
  unwatchedFactor : Nat
  clearTime : Nat
  releaseEnable : List Bool
  releaseDelay : Nat
  riseWindow : Nat
  riseThreshold : Int
  tFire : Int
  deriving DecidableEq, Repr

def FireSettings.builtIn : FireSettings := ⟨0, 512, 60, List.replicate 8 false, 30, 4, 10, 160⟩

/-- What a field node is (R154). -/
inductive Role where
  | moduleMonitor | stringMonitor | pcs | chiller | firePanel | meter | other
  deriving DecidableEq, Repr

/-- Which of a node's frames go to the station (R154, R158). -/
inductive ForwardPolicy where
  | all
  | none
  | everyN (n : Nat)
  deriving DecidableEq, Repr

/-- A held entry of T14 (R154). `timeout` is in ms, 0 for a node that is not supervised. -/
structure NodeEntry where
  address : Nat
  role : Role
  recordIndex : Nat
  policy : ForwardPolicy
  timeout : Nat
  deriving DecidableEq, Repr

/-- The function of an input line (R174). -/
inductive LineFunction where
  | none | breakerClosed | manualCall | panelFire | releaseHold | eStop
  deriving DecidableEq, Repr

inductive Polarity where
  | activeHigh | activeLow
  deriving DecidableEq, Repr

/-- One entry of T15 (R174). -/
structure LineEntry where
  function : LineFunction
  zone : Nat
  polarity : Polarity
  debounce : Nat
  deriving DecidableEq, Repr

def LineEntry.builtIn : LineEntry := ⟨.none, 15, .activeHigh, 20⟩

/-- The built-in T16: slot `m` lies in zone `m div 6` (R20). -/
def zoneMapDefault : List Nat := (List.range 48).map (· / 6)

/-- Tables T1 to T16. -/
structure Tables where
  t1 : VoltageLimits
  t2 : TemperatureLimits
  t3 : Curve
  t4 : Curve
  t5 : Curve
  t6 : Curve
  t7 : Curve
  t8 : List StageEntry
  t9 : ConnectionSettings
  t10 : StringSettings
  t11 : ZoneSettings
  t12 : List DetectorEntry
  t13 : FireSettings
  t14 : List (Option NodeEntry)
  t15 : List LineEntry
  t16 : List Nat
  deriving DecidableEq, Repr

/-- Every table at the built-in default its chapter gives. -/
def Tables.builtIn : Tables where
  t1 := .builtIn
  t2 := .builtIn
  t3 := Curve.temperatureDefault
  t4 := Curve.temperatureDefault
  t5 := Curve.socDefault
  t6 := Curve.socDefault
  t7 := Curve.frequencyDefault
  t8 := StageEntry.builtIns
  t9 := .builtIn
  t10 := .builtIn
  t11 := .builtIn
  t12 := List.replicate 16 .builtIn
  t13 := .builtIn
  t14 := List.replicate 64 none
  t15 := List.replicate 8 .builtIn
  t16 := zoneMapDefault

/-- The contents of one table, as a load brings them and a read returns them (R169). -/
inductive TableContents where
  | t1 (c : VoltageLimits)
  | t2 (c : TemperatureLimits)
  | t3 (c : Curve)
  | t4 (c : Curve)
  | t5 (c : Curve)
  | t6 (c : Curve)
  | t7 (c : Curve)
  | t8 (c : List StageEntry)
  | t9 (c : ConnectionSettings)
  | t10 (c : StringSettings)
  | t11 (c : ZoneSettings)
  | t12 (c : List DetectorEntry)
  | t13 (c : FireSettings)
  | t14 (c : List (Option NodeEntry))
  | t15 (c : List LineEntry)
  | t16 (c : List Nat)
  deriving DecidableEq, Repr

/-- The operating parameters, in the order of their identities 1 to 39 (R165): the order in which the manual first
gives their ranges. -/
structure Params where
  /-- ms, R2 -/
  roundInterval : Nat
  /-- s, R2 -/
  holdupInterval : Nat
  /-- R3 -/
  quietEvery : Nat
  /-- ms, R6 -/
  wakeSettle : Nat
  /-- ms, R7 -/
  quietSettle : Nat
  /-- ms, R8 -/
  roundDeadline : Nat
  /-- R13 -/
  missLimit : Nat
  /-- mV, R37 -/
  onDelta : Nat
  /-- mV, R37 -/
  offDelta : Nat
  /-- cells, R37 -/
  maxBleed : Nat
  /-- 0.1 A, R37 -/
  balanceCurrentLimit : Nat
  /-- half-degrees, R37 -/
  balanceTempLimit : Int
  /-- ms, R47 -/
  sampleInterval : Nat
  /-- trim_0 to trim_3, 1/65536, R48 -/
  trims : List Int
  /-- R49 -/
  uncalFactor : Nat
  /-- mV, R50 -/
  fullLevel : Int
  fullRearm : Int
  emptyLevel : Int
  emptyRearm : Int
  /-- R68 -/
  degradedFactor : Nat
  lostFactor : Nat
  /-- mHz, R82 -/
  fNom : Int
  /-- kW/s, R82 -/
  dispatchRamp : Nat
  /-- kW/s, R82 -/
  frRamp : Nat
  /-- kW, R82 -/
  frStep : Nat
  /-- kvar, R82 -/
  qMax : Nat
  /-- s, R82 -/
  stationTimeout : Nat
  /-- kW, R82 -/
  failsafeP : Int
  /-- R82 -/
  failsafeFr : Bool
  /-- kW, R82 -/
  overshootTol : Nat
  /-- ms, R82 -/
  overshootTime : Nat
  /-- R103 -/
  rocofWindow : Nat
  /-- ms, R103 -/
  gridSampleInterval : Nat
  /-- R157 -/
  forwardUnknown : Bool
  /-- s, R177 -/
  auxRestoreDelay : Nat
  /-- s, R180 -/
  scrubPeriod : Nat
  deriving DecidableEq, Repr

/-- Every operating parameter at its default. -/
def Params.builtIn : Params where
  roundInterval := 1000
  holdupInterval := 10
  quietEvery := 4
  wakeSettle := 20
  quietSettle := 10
  roundDeadline := 50
  missLimit := 3
  onDelta := 30
  offDelta := 10
  maxBleed := 4
  balanceCurrentLimit := 200
  balanceTempLimit := 90
  sampleInterval := 10
  trims := [0, 0, 0, 0]
  uncalFactor := 768
  fullLevel := 3450
  fullRearm := 3400
  emptyLevel := 2950
  emptyRearm := 3050
  degradedFactor := 768
  lostFactor := 256
  fNom := 50000
  dispatchRamp := 200
  frRamp := 2000
  frStep := 10
  qMax := 1000
  stationTimeout := 5
  failsafeP := 0
  failsafeFr := true
  overshootTol := 100
  overshootTime := 2000
  rocofWindow := 5
  gridSampleInterval := 20
  forwardUnknown := true
  auxRestoreDelay := 5
  scrubPeriod := 10

/-- The image: the non-volatile copy of the tables, the parameters and the strings' SOC, in eighteen records (R170).
`ok` says of each record, in the order T1 to T16, parameters, SOC, whether its stored CRC matches its contents. -/
structure Image where
  tables : Tables
  params : Params
  soc : List Nat
  ok : List Bool
  deriving DecidableEq, Repr

/-- The image of a part on which nothing has been stored: every record correct, every setting at its default, every
SOC at 512 (DESIGN CHOICE, log 2). -/
def Image.initial : Image := ⟨.builtIn, .builtIn, [512, 512, 512, 512], List.replicate 18 true⟩

end Sys2Proof.Machine
end

