-- ==== Sys2Proof/Machine/Records.lean ====
section
/-! DEFINITION. The records that the blocks of the SX44 keep, as plain data. Each type names the rule that lists its
fields. A running timer is held by its end time, and a stopped one as `none`. -/

namespace Sys2Proof.Machine

/-! ### Rounds (R1) -/

/-- The modules a round calls (R1). -/
inductive Scope where
  | all
  | string (s : Nat)
  | module (m : Nat)
  deriving DecidableEq, Repr

inductive RoundPhase where
  | idle | waking | quietSettle | collecting | suspended
  deriving DecidableEq, Repr

/-- The fields of R1 marked "open round". `quiet` says that the mode is QUIET. `serial` and `cameSuspended` are the
model's: which round placed a frame (R8), and the state the round was begun from (R9, R15). -/
structure OpenRound where
  scope : Scope
  quiet : Bool
  expected : List Nat
  reported : List Nat
  quietValid : List Nat
  holdupSeen : Bool
  phaseTimer : Option PartTime
  serial : Nat
  cameSuspended : Bool
  deriving DecidableEq, Repr

/-- The round context and its interval timer (R1, R2). `serial` is the model's count of rounds begun (log 7). -/
structure Rounds where
  phase : RoundPhase
  tag : Nat
  wakePending : Bool
  quietCounter : Nat
  openRound : Option OpenRound
  intervalEnd : PartTime
  serial : Nat
  deriving DecidableEq, Repr

/-! ### Cells, modules and strings (R21, R22, R28, R43) -/

inductive Quality where
  | never | fresh | stale
  deriving DecidableEq, Repr

inductive Band where
  | lowHard | lowWarn | normal | highWarn | highHard | unknown
  deriving DecidableEq, Repr

/-- The contents of T1 and T2 that are in effect: those of the last close, or of the reset if none has been since. A taken
load of either takes effect at the next close (R19, R24). -/
structure CloseLimits where
  t1 : VoltageLimits
  t2 : TemperatureLimits
  deriving DecidableEq, Repr

/-- The limits of these tables. -/
def Tables.closeLimits (t : Tables) : CloseLimits := ⟨t.t1, t.t2⟩

/-- A cell record (R22). Its `bleed` is read from its module's mask. -/
structure CellRec where
  latest : Option Nat
  quiet : Option Nat
  band : Band
  hardCount : Nat
  absentRun : Nat
  deriving DecidableEq, Repr

/-- A module record with its sixteen cell records (R21, R22). `mask` lists the bleeding cell positions in rising
order; the max and min temperatures are read from `temps` (R23). -/
structure ModuleRec where
  quality : Quality
  missCount : Nat
  lastTag : Option Nat
  temps : List Int
  history : List Int
  zone : Nat
  mask : List Nat
  resend : Bool
  cells : List CellRec
  deriving DecidableEq, Repr

inductive StringState where
  | awaiting | inService | isolating | restoring | isolated | lockedOut | welded
  deriving DecidableEq, Repr

/-- The isolation causes (R29). -/
inductive IsolationCause where
  | cellHard | tempHard | moduleStale | monitorSilent | fire | eStop | request | start | external
  deriving DecidableEq, Repr

/-- A contactor's or a breaker's position as it is fed back (R28, R108). -/
inductive Feedback where
  | unknown | isOpen | closed
  deriving DecidableEq, Repr

/-- The retained condition of a string (R28, R42). -/
inductive Retained where
  | none
  | locked (cause : IsolationCause)
  | welded
  deriving DecidableEq, Repr

/-- A string's extremes (R27). A voltage stands with its cell index. -/
structure Extremes where
  vMax : Option (Nat × Nat)
  vMin : Option (Nat × Nat)
  tMax : Option Int
  tMin : Option Int
  deriving DecidableEq, Repr

/-- The last calibration taken (R52, R53): whether FULL, when, and Q just before. -/
structure Calibration where
  full : Bool
  time : PartTime
  before : Nat
  deriving DecidableEq, Repr

/-- A charge record (R43). -/
structure ChargeRec where
  q : Nat
  qCap : Nat
  soc : Nat
  batchSum : Int
  batchCount : Nat
  residue : Int
  fullArmed : Bool
  emptyArmed : Bool
  uncalibrated : Bool
  lastSeq : Option Nat
  lastCurrent : Option Int
  lastTime : Option PartTime
  lastCalibration : Option Calibration
  overrange : Nat
  filled : Nat
  gaps : Nat
  deriving DecidableEq, Repr

/-- A string record (R28) with its charge record (R43), whose `lastSeq` is the last sample sequence. -/
structure StringRec where
  state : StringState
  cause : Option IsolationCause
  pendingCause : Option IsolationCause
  current : Option Int
  voltage : Option Nat
  feedback : Feedback
  extremes : Extremes
  timer : Option PartTime
  retained : Retained
  charge : ChargeRec
  deriving DecidableEq, Repr

/-! ### The envelope (R59) -/

/-- The container factors in their fixed order (R76). -/
inductive ContainerFactor where
  | grid | fire | coolant | cells | config | eStop
  deriving DecidableEq, Repr

/-- What limits a string (R76). -/
inductive StringFactor where
  | noReadings | temperature | soc | voltage
  deriving DecidableEq, Repr

/-- A limiting cause (R76). -/
inductive LimitCause where
  | noString
  | none
  | importCap
  | exportCap
  | container (f : ContainerFactor)
  | string (s : Nat) (f : StringFactor)
  deriving DecidableEq, Repr

/-- The per-string fields of the envelope record (R59). -/
structure StringEnvelope where
  counts : Bool
  ftChg : Nat
  ftDis : Nat
  fsocChg : Nat
  fsocDis : Nat
  fvChg : Nat
  fvDis : Nat
  fChg : Nat
  fDis : Nat
  pChg : Nat
  pDis : Nat
  deriving DecidableEq, Repr

/-- The envelope record (R59). -/
structure EnvelopeRec where
  pChgLim : Nat
  pDisLim : Nat
  fc : Nat
  fGrid : Nat
  fFire : Nat
  fCoolant : Nat
  fCells : Nat
  fConfig : Nat
  fEstop : Nat
  strings : List StringEnvelope
  ratingSum : Nat
  sumChg : Nat
  sumDis : Nat
  causeChg : LimitCause
  causeDis : LimitCause
  number : Nat
  time : PartTime
  deriving DecidableEq, Repr

/-- The Envelope Unit: its record and its 1000 ms timer (R59, R78). -/
structure EnvelopeUnit where
  record : EnvelopeRec
  timerEnd : PartTime
  deriving DecidableEq, Repr

/-! ### The gate (R82) -/

inductive GateState where
  | held | passing | failsafe
  deriving DecidableEq, Repr

inductive HeldCause where
  | start | restart | eStop
  deriving DecidableEq, Repr

inductive PcsState where
  | run | stop | fault
  deriving DecidableEq, Repr

/-- A PCS STATUS as stored (R98). -/
structure PcsStatus where
  p : Int
  q : Int
  state : PcsState
  deriving DecidableEq, Repr

/-- The gate record (R82). `silenceEnd` is `none` once the silence timer has expired. -/
structure GateRec where
  state : GateState
  heldCause : Option HeldCause
  pReqLast : Int
  qReqLast : Int
  frParticipation : Bool
  number : Nat
  pPrev : Int
  qPrev : Int
  pFrApplied : Int
  lastFrame : Option PartTime
  silenceEnd : Option PartTime
  lastPcs : Option PcsStatus
  overshootEnd : Option PartTime
  overshootArmed : Bool
  deriving DecidableEq, Repr

/-! ### Grid and connection (R101, R104, R108) -/

inductive StageState where
  | clear | pickedUp | operated
  deriving DecidableEq, Repr

/-- The record of a protection stage (R104). -/
structure StageRec where
  state : StageState
  timer : Option PartTime
  pickUp : Option PartTime
  deriving DecidableEq, Repr

/-- The latest-sample record, the frequency history and the stage records (R101, R104). -/
structure GridRec where
  lastSeq : Option Nat
  vA : Option Nat
  vB : Option Nat
  vC : Option Nat
  vMin : Option Nat
  vMax : Option Nat
  f : Option Int
  arrival : Option PartTime
  stale : Bool
  history : List Int
  rocof : Option Int
  stages : List StageRec
  deriving DecidableEq, Repr

inductive ConnState where
  | openLocked | openWait | reconnectTiming | closing | connected | rideThrough | opening
  deriving DecidableEq, Repr

/-- What holds the connection open (R108). -/
inductive Lockout where
  | none | fire | welded | breakerFail | history
  deriving DecidableEq, Repr

/-- Why the breaker is or was opened: a cause of R110, EXTERNAL of R114, or the lockout that a trip enforces (R114). -/
inductive TripCause where
  | stage (i : Nat)
  | fire
  | welded
  | eStop
  | pcsOvershoot
  | meterLost
  | disconnect
  | external
  | enforces (l : Lockout)
  deriving DecidableEq, Repr

/-- The state taken when the breaker opens (R108). -/
inductive OpenTarget where
  | openWait | openLocked
  deriving DecidableEq, Repr

inductive ConnectRequest where
  | none | connect | disconnect
  deriving DecidableEq, Repr

/-- One entry of the trip history (R108). -/
structure Trip where
  time : PartTime
  cause : TripCause
  deriving DecidableEq, Repr

/-- The connection record (R108). A pulsing output is held by its end time. -/
structure ConnRec where
  state : ConnState
  feedback : Feedback
  tripCause : Option TripCause
  target : Option OpenTarget
  lockout : Lockout
  history : List Trip
  request : ConnectRequest
  startAdopted : Bool
  reconnectEnd : Option PartTime
  breakerEnd : Option PartTime
  historyEnd : PartTime
  tripOut : Option PartTime
  closeOut : Option PartTime
  deriving DecidableEq, Repr

/-! ### Thermal (R120, R126, R128) -/

/-- A zone record of the Thermal Controller (R120). -/
structure ZoneRec where
  inUse : Bool
  temp : Option Int
  cooling : Bool
  demand : Nat
  valveCode : Nat
  valveDuty : Nat
  deriving DecidableEq, Repr

inductive CommandOutcome where
  | queued | dropped | unaddressed
  deriving DecidableEq, Repr

/-- The command record (R126). `run` says that the run request is RUN. -/
structure CommandRec where
  run : Bool
  fanCode : Nat
  fanDuty : Nat
  time : PartTime
  outcome : CommandOutcome
  deriving DecidableEq, Repr

inductive CoolantState where
  | ok | degraded | lost
  deriving DecidableEq, Repr

inductive ChillerState where
  | run | standby | fault
  deriving DecidableEq, Repr

/-- The last chiller status (R128). -/
structure ChillerStatus where
  state : ChillerState
  supply : Int
  returnTemp : Int
  flow : Nat
  time : PartTime
  deriving DecidableEq, Repr

/-- The Thermal Controller (R120, R126, R128, R129). -/
structure Thermal where
  zones : List ZoneRec
  coolant : CoolantState
  lastStatus : Option ChillerStatus
  command : CommandRec
  deriving DecidableEq, Repr

/-! ### Fire (R137, R143) -/

inductive LoopState where
  | normal | isOpen | short | silent
  deriving DecidableEq, Repr

inductive Grade where
  | none | pre | alarm
  deriving DecidableEq, Repr

/-- A detector record (R137). -/
structure DetectorRec where
  node : Option Nat
  slot : Option Nat
  reading : Option Int
  loop : LoopState
  grade : Grade
  openRun : Nat
  shortRun : Nat
  normalRun : Nat
  preRun : Nat
  alarmRun : Nat
  clearRun : Nat
  reports : Nat
  loopFaults : Nat
  lastTime : Option PartTime
  deriving DecidableEq, Repr

/-- A zone's fire stage (R143). -/
inductive FireStage where
  | normal | watch | preAlarm | fire | releaseDelay | released
  deriving DecidableEq, Repr

/-- A release countdown: running to an end time, or paused with what remains, in ms (R143, R147). -/
inductive Countdown where
  | running (ends : PartTime)
  | paused (remaining : Nat)
  deriving DecidableEq, Repr

/-- A running clear timer with its clear ceiling (R143). -/
structure ClearTimer where
  ends : PartTime
  ceiling : FireStage
  deriving DecidableEq, Repr

/-- A zone fire record (R143). `target` is one of NORMAL, WATCH, PRE_ALARM and FIRE. -/
structure FireZone where
  stage : FireStage
  target : FireStage
  cellGrade : Grade
  lineIndication : Bool
  unwatched : Bool
  clearTimer : Option ClearTimer
  countdown : Option Countdown
  fireTime : Option PartTime
  deriving DecidableEq, Repr

/-- The Fire Supervisor: detectors, zones, the 1000 ms fire timer and the RELEASE_OUT level (R137, R143, R148). -/
structure FireUnit where
  detectors : List DetectorRec
  zones : List FireZone
  timerEnd : PartTime
  releaseOut : Bool
  deriving DecidableEq, Repr

/-! ### Traffic and ports (R155, R160, R162) -/

inductive NodeState where
  | unseen | live | silent
  deriving DecidableEq, Repr

/-- What the Traffic Table keeps for a T14 entry beside its fields (R155). -/
structure NodeRec where
  state : NodeState
  silenceEnd : Option PartTime
  forwardCounter : Nat
  taken : Nat
  forwarded : Nat
  deriving DecidableEq, Repr

/-- A frame placed in a Field transmit queue. `round` is the serial of the round that placed it, for the frames of
the Round Controller (R8). -/
structure Placed where
  frame : Frame
  round : Option Nat
  deriving DecidableEq, Repr

/-- The two Field transmit queues (R160). -/
inductive FieldQueue where
  | urgent | normal
  deriving DecidableEq, Repr

/-- The Field Port: its receive slot, its queues of waiting frames, oldest first, and the frame in transmission with
the queue whose place it holds (R153, R160, R161). The slot holds the bytes taken since the SYNC byte of the frame that
is arriving, and is `none` while the side hunts. -/
structure FieldPort where
  slot : Option (List Byte)
  urgent : List Placed
  normal : List Placed
  sending : Option (Placed × FieldQueue)
  deriving DecidableEq, Repr

/-! ### Notices (R172) -/

inductive Severity where
  | info | warning | alarm | trip
  deriving DecidableEq, Repr

/-- The notice kinds, in the order that numbers them from 1 (R152, R172). -/
inductive NoticeKind where
  | cellHard | tempHard | connectionTripped | fire | fireReleasePending | fireReleased
  | contactorFail | gateHeld | pcsOvershoot | breakerFail | coolantLost | detectorFault | firePreAlarm | configFault
  | moduleStale | stringIsolated | contactorExternal | socUncalibrated | calibrationConflict | gateFailsafe
  | pcsFault | stageOperated | breakerExternal | coolantDegraded | zoneUnwatched | nodeSilent | usurpedKind
  | storeFailed
  | stringInService | calibrated | gatePassing | dispatchCorrected | rideThrough | connected | coolantOk
  | detectorRestored | zoneWatched | fireWatch | fireCleared | nodeLive | storeDone
  | started | supplyHoldup | supplyNormal | holdupLow | holdupRecovered
  deriving DecidableEq, Repr

/-- A notice (R172); its severity is that of its kind. -/
structure Notice where
  kind : NoticeKind
  subject : Option Nat
  repeats : Nat
  first : PartTime
  deriving DecidableEq, Repr

/-! ### Counters (R1, R23, R30, R40, R82, R101, R108, R127, R138, R164, R172) -/

/-- The receive error counters of one port (R153). -/
structure PortCounters where
  crcErrors : Nat := 0
  lengthErrors : Nat := 0
  addressErrors : Nat := 0
  truncatedFrames : Nat := 0
  malformedFrames : Nat := 0
  deriving DecidableEq, Repr

/-- Every counter that CLEAR COUNTERS clears, but for those kept in charge and detector records (R171). -/
structure Counters where
  roundsSkipped : Nat := 0
  roundsAborted : Nat := 0
  roundFramesLost : Nat := 0
  staleReports : Nat := 0
  reportShapeErrors : Nat := 0
  bleedFramesLost : Nat := 0
  contactorUnaddressed : Nat := 0
  dispatchMisdirected : Nat := 0
  dispatchSuperseded : Nat := 0
  dispatchFramesLost : Nat := 0
  dispatchUnaddressed : Nat := 0
  gridDuplicates : Nat := 0
  gridGaps : Nat := 0
  trips : Nat := 0
  rideThroughs : Nat := 0
  coolantFramesLost : Nat := 0
  coolantUnaddressed : Nat := 0
  detectorPairsUnmapped : Nat := 0
  stationPort : PortCounters := {}
  fieldPort : PortCounters := {}
  ringReturns : Nat := 0
  unknownSources : Nat := 0
  unknownDropped : Nat := 0
  kindMismatches : Nat := 0
  fieldSuperseded : Nat := 0
  fieldNormalRefused : Nat := 0
  fieldForwardLost : Nat := 0
  stationForeignSrc : Nat := 0
  usurpedFrames : Nat := 0
  stationMisaddressed : Nat := 0
  stationForwardLost : Nat := 0
  resultsEvicted : Nat := 0
  resultsLost : Nat := 0
  requestsDiscarded : Nat := 0
  noticesLost : Nat := 0
  deriving DecidableEq, Repr

/-! ### Lines, supply, system and engine (R170, R175, R177, R179) -/

inductive LineState where
  | unknown | active | inactive
  deriving DecidableEq, Repr

/-- An input line record: the raw level at the pin, since when it has stood or its debounce been started afresh, and
the debounced state (R175). Its T15 entry stands in the working table. -/
structure LineRec where
  high : Bool
  since : PartTime
  state : LineState
  deriving DecidableEq, Repr

/-- The MAINT input, active low (R175). -/
structure MaintRec where
  high : Bool
  since : PartTime
  active : Bool
  deriving DecidableEq, Repr

/-- The Line Interface's inputs (R175). -/
structure Lines where
  inputs : List LineRec
  maint : MaintRec
  deriving DecidableEq, Repr

inductive SupplyMode where
  | normal | holdup
  deriving DecidableEq, Repr

/-- The Supply Monitor (R177, R178). -/
structure Supply where
  mode : SupplyMode
  restoreEnd : Option PartTime
  holdupLow : Bool
  deriving DecidableEq, Repr

inductive ResetCause where
  | powerOn | resetLine | restart
  deriving DecidableEq, Repr

/-- A reset in progress: whether brown-out or RESETN has occurred during it (R179). -/
structure ResetHold where
  brownOut : Bool
  resetn : Bool
  deriving DecidableEq, Repr

/-- Whether the part is held in reset, the cause of the last reset, and its own address (R179). -/
structure Sys where
  hold : Option ResetHold
  cause : ResetCause
  address : Nat
  deriving DecidableEq, Repr

/-- A store in the state WRITING: the snapshot, the number 1 to 18 of the record being written, when that record is
done, and the first record that failed (R170). -/
structure StoreWrite where
  tables : Tables
  params : Params
  soc : List Nat
  record : Nat
  due : PartTime
  failed : Option Nat
  deriving DecidableEq, Repr

/-- The Management Engine (R170, R171). `store` is `none` in the store operation state IDLE. -/
structure Engine where
  store : Option StoreWrite
  dirty : Bool
  restartPending : Bool
  deriving DecidableEq, Repr

/-- The Configuration Store: working tables, recorded CRCs and config faults of T1 to T16, parameters, and the scrub
timer (R169, R179, R180). -/
structure ConfigStore where
  tables : Tables
  crcs : List (BitVec 16)
  faulted : List Bool
  params : Params
  scrubEnd : PartTime
  deriving DecidableEq, Repr

/-- The latched flags (bit `i` for the `i`-th flag of R171's table, from 0) and the ALERT output (R171, R173). -/
structure FlagRec where
  latched : BitVec 16
  alert : Bool
  deriving DecidableEq, Repr

/-! ### Requests and responses (R165 to R171) -/

inductive Status where
  | ok | clamped | refusedMaint | refusedInvalid | refusedState | refusedBusy | unknownRequest
  deriving DecidableEq, Repr

/-- The reasons a RESTORE STRING is refused for (R33). -/
inductive RestoreReason where
  | notIsolated | fireStage | causePresent | voltageUnknown | voltageMismatch
  deriving DecidableEq, Repr

/-- The record classes of READ RECORDS, in the order that numbers them (R167). -/
inductive RecordClass where
  | cell | module | string | zone | detector | node | stage
  deriving DecidableEq, Repr

/-- A release countdown as it is read: what remains of it, in ms, and whether it is running or paused (R143). -/
structure CountdownView where
  remaining : Nat
  running : Bool
  deriving DecidableEq, Repr

/-- A zone's fire record as READ RECORDS returns it (R134). -/
structure FireZoneView where
  stage : FireStage
  target : FireStage
  cellGrade : Grade
  lineIndication : Bool
  unwatched : Bool
  countdown : Option CountdownView
  fireTime : Option PartTime
  deriving DecidableEq, Repr

/-- A record as READ RECORDS returns it (R167). -/
inductive RecordView where
  | cell (c : CellRec) (bleed : Bool)
  | module (m : ModuleRec)
  | string (s : StringRec)
  | zone (z : ZoneRec) (entry : ZoneEntry) (fire : FireZoneView)
  | detector (d : DetectorRec)
  | node (entry : Option NodeEntry) (n : NodeRec)
  | stage (s : StageRec) (entry : StageEntry)
  deriving DecidableEq, Repr

/-- What READ STATUS returns (R166). -/
structure StatusView where
  cause : ResetCause
  time : PartTime
  mode : SupplyMode
  holdupLow : Bool
  roundPhase : RoundPhase
  roundTag : Nat
  worstString : StringState
  uncalibrated : List Nat
  gate : GateRec
  connState : ConnState
  tripCause : Option TripCause
  target : Option OpenTarget
  lockout : Lockout
  request : ConnectRequest
  feedback : Feedback
  /-- each trip with its age in seconds -/
  trips : List (Nat × TripCause)
  grid : GridRec
  coolant : CoolantState
  command : CommandRec
  /-- the last chiller status (R128) -/
  chiller : Option ChillerStatus
  worstZone : FireStage
  writing : Bool
  dirty : Bool
  flags : BitVec 16
  counters : Counters
  /-- overrange count, filled samples and gaps of each string -/
  chargeCounts : List (Nat × Nat × Nat)
  /-- reports and loop faults of each detector -/
  detectorCounts : List (Nat × Nat)
  /-- frames taken and frames forwarded of each node entry -/
  nodeCounts : List (Nat × Nat)
  noticesWaiting : Nat
  lines : List (LineFunction × LineState)
  maintActive : Bool
  deriving DecidableEq, Repr

/-- The result data of a response. -/
inductive ResultData where
  | none
  | status (v : StatusView)
  | records (items : List (Nat × RecordView)) (number next : Nat)
      (thermal : Option (CommandRec × Option ChillerStatus))
  | scan (stop : Option Nat) (examined remaining : Nat)
  | envelope (e : EnvelopeRec)
  | table (c : TableContents) (crc : BitVec 16) (faulted : Bool)
  | crc (c : BitVec 16)
  | parameter (value : Int)
  | flags (latched : BitVec 16)
  | round (scope : Scope) (quiet : Bool)
  | restore (reason : RestoreReason)
  | gate (g : GateState)
  | connection (c : ConnState)
  | fireStage (f : FireStage)
  deriving DecidableEq, Repr

/-- A MANAGEMENT RESPONSE: the request code echoed, the status and the result data (R165). -/
structure Response where
  code : Nat
  status : Status
  result : ResultData
  deriving DecidableEq, Repr

/-- A DISPATCH RESULT (R94). `flags` holds the limit flags as bits 0 to 9 of R152. -/
structure DispatchResult where
  number : Nat
  pOut : Int
  qOut : Int
  flags : Nat
  gate : GateState
  queued : Bool
  deriving DecidableEq, Repr

/-- A frame in the Station transmit queue (R162). -/
inductive StationFrame where
  | forwarded (f : Frame)
  | result (r : DispatchResult)
  | response (r : Response)
  | notice (n : Notice)
  deriving DecidableEq, Repr

/-- The Station Port: its receive slot, the frames waiting, oldest first, the places reserved for responses, and the
frame in transmission (R153, R162, R163). The slot is that of `FieldPort`. -/
structure StationPort where
  slot : Option (List Byte)
  queue : List StationFrame
  reserved : Nat
  sending : Option StationFrame
  deriving DecidableEq, Repr

end Sys2Proof.Machine
end

