-- ==== Sys2Proof/Machine/Bytes.lean ====
section
/-! DEFINITION. Byte order and the CRC of the ports: fields high byte first, signed fields in two's complement
(R152), and the CRC-16 of R153. -/

namespace Sys2Proof.Machine

/-- A field of one byte (R152). -/
def put8 (n : Nat) : List Byte := [BitVec.ofNat 8 n]

/-- An unsigned field of two bytes, high byte first (R152). -/
def put16 (n : Nat) : List Byte := [BitVec.ofNat 8 (n / 256), BitVec.ofNat 8 n]

/-- An unsigned field of four bytes, high byte first (R152). -/
def put32 (n : Nat) : List Byte := put16 (n / 65536) ++ put16 (n % 65536)

/-- A signed field of two bytes, two's complement (R152). -/
def putSigned16 (x : Int) : List Byte := put16 (BitVec.ofInt 16 x).toNat

/-- A signed field of four bytes, two's complement (R152). -/
def putSigned32 (x : Int) : List Byte := put32 (BitVec.ofInt 32 x).toNat

/-- A yes / no or enabled / disabled field: 1 for yes and enabled (R152). -/
def putFlag (b : Bool) : List Byte := put8 (if b then 1 else 0)

/-- A set of positions below `width` as the sum of its bits, bit `c` for position `c` (R152). -/
def bitsOf (positions : List Nat) : Nat := positions.foldl (fun acc c => acc + 2 ^ c) 0

/-- The positions whose bit is set among the low `width` bits of `w`. -/
def positionsOf (width w : Nat) : List Nat := (List.range width).filter (fun c => w.testBit c)

/-- A number of 16 bits read as two's complement. -/
def toSigned16 (n : Nat) : Int := if n < 32768 then n else (n : Int) - 65536

/-- A number of 32 bits read as two's complement. -/
def toSigned32 (n : Nat) : Int := if n < 2147483648 then n else (n : Int) - 4294967296

/-- A reader of fields: it takes bytes off the front, and fails when they run out or a named value is unknown. -/
abbrev Reader := StateT (List Byte) Option

def get8 : Reader Nat := fun bs =>
  match bs with
  | [] => none
  | b :: rest => some (b.toNat, rest)

def get16 : Reader Nat := fun bs =>
  match bs with
  | hi :: lo :: rest => some (hi.toNat * 256 + lo.toNat, rest)
  | _ => none

def get32 : Reader Nat := fun bs =>
  match bs with
  | a :: b :: c :: d :: rest => some (((a.toNat * 256 + b.toNat) * 256 + c.toNat) * 256 + d.toNat, rest)
  | _ => none

def getSigned16 : Reader Int := fun bs => (get16 bs).map fun p => (toSigned16 p.1, p.2)

def getSigned32 : Reader Int := fun bs => (get32 bs).map fun p => (toSigned32 p.1, p.2)

/-- A one-byte field decoded by `f`, which fails on a value that names nothing. -/
def getNamed {α : Type} (f : Nat → Option α) : Reader α := fun bs =>
  (get8 bs).bind fun p => (f p.1).map fun a => (a, p.2)

/-- The value of a yes / no field: 0 and 1 only (R152). -/
def flagOf (n : Nat) : Option Bool :=
  match n with
  | 0 => some false
  | 1 => some true
  | _ => none

def getFlag : Reader Bool := getNamed flagOf

/-- `n` fields of one form, one after another. -/
def getMany {α : Type} (r : Reader α) : Nat → Reader (List α)
  | 0 => pure []
  | n + 1 => do
    let a ← r
    let rest ← getMany r n
    pure (a :: rest)

/-- What a reader finds in bytes that it must use up exactly. -/
def readAll {α : Type} (r : Reader α) (bs : List Byte) : Option α :=
  match r bs with
  | some (a, []) => some a
  | _ => none

/-- One bit of the CRC: shift left, and take the polynomial 1021h in when a 1 leaves (R153). -/
def crcBit (c : BitVec 16) : BitVec 16 := if c.msb then (c <<< 1) ^^^ 0x1021#16 else c <<< 1

/-- One byte of the CRC (R153). -/
def crcByte (c : BitVec 16) (b : Byte) : BitVec 16 :=
  Nat.repeat crcBit 8 (c ^^^ ((b.setWidth 16) <<< 8))

/-- The CRC of R153: polynomial 1021h, initial value FFFFh, no reflection. -/
def crc16 (bs : List Byte) : BitVec 16 := bs.foldl crcByte 0xFFFF#16

end Sys2Proof.Machine
end

