-- ==== Sys2Proof/Machine/TableCodec.lean ====
section
/-! DEFINITION. The contents of a table as bytes (R152), the length they must have, the fields they hold, and the
checks of each table's chapter that need no state (R18 to R20, R61, R104, R108, R120, R135, R136, R154, R174). -/

namespace Sys2Proof.Machine

def Quantity.code : Quantity → Nat
  | .vMin => 0
  | .vMax => 1
  | .freq => 2
  | .rocof => 3

def Quantity.named (n : Nat) : Option Quantity :=
  match n with
  | 0 => some .vMin
  | 1 => some .vMax
  | 2 => some .freq
  | 3 => some .rocof
  | _ => none

def Direction.code : Direction → Nat
  | .under => 0
  | .over => 1

def Direction.named (n : Nat) : Option Direction :=
  match n with
  | 0 => some .under
  | 1 => some .over
  | _ => none

def StageAction.code : StageAction → Nat
  | .trip => 0
  | .notify => 1

def StageAction.named (n : Nat) : Option StageAction :=
  match n with
  | 0 => some .trip
  | 1 => some .notify
  | _ => none

def StalePolicy.code : StalePolicy → Nat
  | .string => 0
  | .container => 1

def StalePolicy.named (n : Nat) : Option StalePolicy :=
  match n with
  | 0 => some .string
  | 1 => some .container
  | _ => none

def DetectorType.code : DetectorType → Nat
  | .smoke => 0
  | .gas => 1
  | .heat => 2

def DetectorType.named (n : Nat) : Option DetectorType :=
  match n with
  | 0 => some .smoke
  | 1 => some .gas
  | 2 => some .heat
  | _ => none

def Role.code : Role → Nat
  | .moduleMonitor => 0
  | .stringMonitor => 1
  | .pcs => 2
  | .chiller => 3
  | .firePanel => 4
  | .meter => 5
  | .other => 6

def Role.named (n : Nat) : Option Role :=
  match n with
  | 0 => some .moduleMonitor
  | 1 => some .stringMonitor
  | 2 => some .pcs
  | 3 => some .chiller
  | 4 => some .firePanel
  | 5 => some .meter
  | 6 => some .other
  | _ => none

def LineFunction.code : LineFunction → Nat
  | .none => 0
  | .breakerClosed => 1
  | .manualCall => 2
  | .panelFire => 3
  | .releaseHold => 4
  | .eStop => 5

def LineFunction.named (n : Nat) : Option LineFunction :=
  match n with
  | 0 => some .none
  | 1 => some .breakerClosed
  | 2 => some .manualCall
  | 3 => some .panelFire
  | 4 => some .releaseHold
  | 5 => some .eStop
  | _ => none

def Polarity.code : Polarity → Nat
  | .activeHigh => 0
  | .activeLow => 1

def Polarity.named (n : Nat) : Option Polarity :=
  match n with
  | 0 => some .activeHigh
  | 1 => some .activeLow
  | _ => none

/-! ### T1 and T2 (R19) -/

def VoltageLimits.bytes (t : VoltageLimits) : List Byte :=
  put16 t.minHard ++ put16 t.minWarn ++ put16 t.maxWarn ++ put16 t.maxHard ++ put8 t.hardPersist

def VoltageLimits.read : Reader VoltageLimits := do
  return ⟨← get16, ← get16, ← get16, ← get16, ← get8⟩

/-- T1 is refused on a field out of range or levels out of order (R19). -/
def VoltageLimits.valid (t : VoltageLimits) : Bool :=
  t.minHard < t.minWarn && t.minWarn < t.maxWarn && t.maxWarn < t.maxHard && t.maxHard ≤ 5000 &&
    1 ≤ t.hardPersist && t.hardPersist ≤ 4

def TemperatureLimits.bytes (t : TemperatureLimits) : List Byte := putSigned16 t.tMaxHard

def TemperatureLimits.read : Reader TemperatureLimits := do
  return ⟨← getSigned16⟩

/-- A temperature in half-degrees lies within −40 °C to +125 °C (00_scope, "Units and ranges"). -/
def inTemperatureRange (x : Int) : Bool := -80 ≤ x && x ≤ 250

def TemperatureLimits.valid (t : TemperatureLimits) : Bool := inTemperatureRange t.tMaxHard

/-! ### T3 to T7 (R60, R61) -/

def Curve.bytes (t : Curve) : List Byte :=
  put8 t.length ++ t.flatMap (fun p => putSigned16 p.1 ++ putSigned16 p.2)

def Curve.read : Reader Curve := do
  let n ← get8
  getMany (do return (← getSigned16, ← getSigned16)) n

/-- Each x is strictly greater than the one before it (R61). -/
def Curve.rising : Curve → Bool
  | [] => true
  | [_] => true
  | p :: q :: rest => decide (p.1 < q.1) && Curve.rising (q :: rest)

/-- The checks of R61, with the table's x and y ranges of R60. -/
def Curve.valid (xLo xHi yLo yHi : Int) (t : Curve) : Bool :=
  2 ≤ t.length && t.length ≤ 12 && t.rising &&
    t.all (fun p => xLo ≤ p.1 && p.1 ≤ xHi && yLo ≤ p.2 && p.2 ≤ yHi)

/-! ### T8 (R104) -/

def StageEntry.bytes (e : StageEntry) : List Byte :=
  putFlag e.inUse ++ put8 e.quantity.code ++ put8 e.direction.code ++ put32 e.trip ++ put32 e.restore ++
    put16 e.delay ++ put8 e.action.code

def StageEntry.read : Reader StageEntry := do
  return ⟨← getFlag, ← getNamed Quantity.named, ← getNamed Direction.named, ← get32, ← get32, ← get16,
    ← getNamed StageAction.named⟩

/-- The range of a level of this quantity (R104). -/
def Quantity.inRange (q : Quantity) (level : Nat) : Bool :=
  match q with
  | .vMin => level ≤ 2000
  | .vMax => level ≤ 2000
  | .freq => 40000 ≤ level && level ≤ 70000
  | .rocof => level ≤ 20000

/-- The checks of R104: the field ranges of every entry, and for an entry in use the side its restore level lies on
and the direction a ROCOF stage may have. A level of an entry not in use is held to the range of its quantity, as its
field range (DEDUCED, log 67). -/
def StageEntry.valid (e : StageEntry) : Bool :=
  e.quantity.inRange e.trip && e.quantity.inRange e.restore && e.delay ≤ 60000 &&
    (!e.inUse ||
      ((match e.direction with
        | .under => decide (e.trip < e.restore)
        | .over => decide (e.restore < e.trip)) &&
       !(e.quantity == .rocof && e.direction == .under)))

/-! ### T9 (R108) -/

def ConnectionSettings.bytes (t : ConnectionSettings) : List Byte :=
  put16 t.vWindowLow ++ put16 t.vWindowHigh ++ put32 t.fWindowLow ++ put32 t.fWindowHigh ++
    put16 t.reconnectTime ++ putFlag t.autoReconnect ++ put8 t.tripLimit ++ put32 t.tripWindow ++
    put16 t.openTimeout ++ put16 t.closeTimeout ++ put16 t.tripPulse ++ put16 t.closePulse ++
    put16 t.importCap ++ put16 t.exportCap

def ConnectionSettings.read : Reader ConnectionSettings := do
  return ⟨← get16, ← get16, ← get32, ← get32, ← get16, ← getFlag, ← get8, ← get32, ← get16, ← get16, ← get16,
    ← get16, ← get16, ← get16⟩

/-- The ranges of R108, and each low window bound strictly below its high bound. -/
def ConnectionSettings.valid (t : ConnectionSettings) : Bool :=
  t.vWindowLow < t.vWindowHigh && t.vWindowHigh ≤ 2000 &&
    40000 ≤ t.fWindowLow && t.fWindowLow < t.fWindowHigh && t.fWindowHigh ≤ 70000 &&
    10 ≤ t.reconnectTime && t.reconnectTime ≤ 900 && 1 ≤ t.tripLimit && t.tripLimit ≤ 8 &&
    600 ≤ t.tripWindow && t.tripWindow ≤ 86400 && 50 ≤ t.openTimeout && t.openTimeout ≤ 2000 &&
    100 ≤ t.closeTimeout && t.closeTimeout ≤ 5000 && 50 ≤ t.tripPulse && t.tripPulse ≤ 1000 &&
    50 ≤ t.closePulse && t.closePulse ≤ 1000 && t.importCap ≤ 4000 && t.exportCap ≤ 4000

/-! ### T10 (R18) -/

def StringEntry.bytes (e : StringEntry) : List Byte :=
  putFlag e.inUse ++ put8 e.modules ++ put8 e.cells ++ put8 e.stalePolicy.code ++ put16 e.capacityAh ++
    put16 e.ratedKw

def StringEntry.read : Reader StringEntry := do
  return ⟨← getFlag, ← get8, ← get8, ← getNamed StalePolicy.named, ← get16, ← get16⟩

def StringEntry.valid (e : StringEntry) : Bool :=
  1 ≤ e.modules && e.modules ≤ 12 && 1 ≤ e.cells && e.cells ≤ 16 && 1 ≤ e.capacityAh && e.capacityAh ≤ 2000 &&
    e.ratedKw ≤ 2000

def StringSettings.bytes (t : StringSettings) : List Byte :=
  t.entries.flatMap StringEntry.bytes ++ put16 t.rejoinWindow ++ put16 t.contactorTime

def StringSettings.read : Reader StringSettings := do
  return ⟨← getMany StringEntry.read 4, ← get16, ← get16⟩

def StringSettings.valid (t : StringSettings) : Bool :=
  t.entries.all StringEntry.valid && t.rejoinWindow ≤ 1000 && 100 ≤ t.contactorTime && t.contactorTime ≤ 2000

/-! ### T11 (R120) -/

def ZoneEntry.bytes (e : ZoneEntry) : List Byte := putSigned16 e.tSet ++ put8 e.hyst ++ put8 e.k ++ put8 e.base

def ZoneEntry.read : Reader ZoneEntry := do
  return ⟨← getSigned16, ← get8, ← get8, ← get8⟩

def ZoneEntry.valid (e : ZoneEntry) : Bool :=
  inTemperatureRange e.tSet && 1 ≤ e.hyst && e.hyst ≤ 20 && 1 ≤ e.k && e.k ≤ 32 && 1 ≤ e.base && e.base ≤ 255

def ZoneSettings.bytes (t : ZoneSettings) : List Byte :=
  t.entries.flatMap ZoneEntry.bytes ++ put8 t.fallbackCode ++ put8 t.prealarmCode ++ put8 t.holdupCap ++
    putSigned16 t.supplyLimit ++ putSigned16 t.supplyRestore ++ put16 t.flowMin ++ put16 t.flowHyst

def ZoneSettings.read : Reader ZoneSettings := do
  return ⟨← getMany ZoneEntry.read 8, ← get8, ← get8, ← get8, ← getSigned16, ← getSigned16, ← get16, ← get16⟩

/-- The ranges of R120, supply_restore strictly below supply_limit, and flow_min + flow_hyst at most 65535. -/
def ZoneSettings.valid (t : ZoneSettings) : Bool :=
  t.entries.all ZoneEntry.valid && t.fallbackCode ≤ 255 && t.prealarmCode ≤ 255 && t.holdupCap ≤ 255 &&
    inTemperatureRange t.supplyLimit && inTemperatureRange t.supplyRestore && t.supplyRestore < t.supplyLimit &&
    t.flowMin + t.flowHyst ≤ 65535

/-! ### T12 (R135) -/

def DetectorEntry.bytes (e : DetectorEntry) : List Byte :=
  putFlag e.inUse ++ put8 e.type.code ++ put8 e.zone ++ putSigned32 e.preLevel ++ putSigned32 e.alarmLevel ++
    put8 e.persist ++ putFlag e.mask

def DetectorEntry.read : Reader DetectorEntry := do
  return ⟨← getFlag, ← getNamed DetectorType.named, ← get8, ← getSigned32, ← getSigned32, ← get8, ← getFlag⟩

/-- The range of a level of this type (R135). -/
def DetectorType.inRange (t : DetectorType) (level : Int) : Bool :=
  match t with
  | .smoke => 0 ≤ level && level ≤ 65533
  | .gas => 0 ≤ level && level ≤ 65533
  | .heat => inTemperatureRange level

/-- The checks of R135: the field ranges, and for an entry in use an alarm level not below its pre level. -/
def DetectorEntry.valid (e : DetectorEntry) : Bool :=
  e.zone ≤ 7 && e.type.inRange e.preLevel && e.type.inRange e.alarmLevel && 1 ≤ e.persist && e.persist ≤ 8 &&
    (!e.inUse || decide (e.preLevel ≤ e.alarmLevel))

/-! ### T13 (R136) -/

def FireSettings.bytes (t : FireSettings) : List Byte :=
  put16 t.prealarmFactor ++ put16 t.unwatchedFactor ++ put16 t.clearTime ++ t.releaseEnable.flatMap putFlag ++
    put8 t.releaseDelay ++ put8 t.riseWindow ++ put8 t.riseThreshold.toNat ++ putSigned16 t.tFire

def FireSettings.read : Reader FireSettings := do
  return ⟨← get16, ← get16, ← get16, ← getMany getFlag 8, ← get8, ← get8, ((← get8 : Nat) : Int), ← getSigned16⟩

def FireSettings.valid (t : FireSettings) : Bool :=
  t.prealarmFactor ≤ 1024 && t.unwatchedFactor ≤ 1024 && 10 ≤ t.clearTime && t.clearTime ≤ 600 &&
    t.releaseDelay ≤ 120 && 1 ≤ t.riseWindow && t.riseWindow ≤ 8 && 1 ≤ t.riseThreshold &&
    t.riseThreshold ≤ 100 && inTemperatureRange t.tFire

/-! ### T14 (R154) -/

/-- A forward policy is followed by one byte holding N, 0 for ALL and NONE (R152). -/
def ForwardPolicy.bytes : ForwardPolicy → List Byte
  | .all => put8 0 ++ put8 0
  | .none => put8 1 ++ put8 0
  | .everyN n => put8 2 ++ put8 n

def ForwardPolicy.read : Reader ForwardPolicy := do
  let p ← get8
  let n ← get8
  match p, n with
  | 0, 0 => return .all
  | 1, 0 => return .none
  | 2, 0 => failure
  | 2, n => return .everyN n
  | _, _ => failure

/-- An entry begins with one byte, 1 when it holds fields and 0 when it is empty (R152). -/
def nodeEntryBytes (e : Option NodeEntry) : List Byte :=
  match e with
  | none => List.replicate 8 0#8
  | some e =>
    put8 1 ++ put8 e.address ++ put8 e.role.code ++ put8 e.recordIndex ++ e.policy.bytes ++ put16 e.timeout

def readNodeEntry : Reader (Option NodeEntry) := do
  match ← getFlag with
  | false =>
    let rest ← getMany get8 7
    if rest.all (· == 0) then return none else failure
  | true => return some ⟨← get8, ← getNamed Role.named, ← get8, ← ForwardPolicy.read, ← get16⟩

/-- The range of an entry's record index, by its role (R154). -/
def Role.indexInRange (r : Role) (i : Nat) : Bool :=
  match r with
  | .moduleMonitor => i ≤ 47
  | .stringMonitor => i ≤ 3
  | .firePanel => i ≤ 15
  | .pcs => i == 0
  | .chiller => i == 0
  | .meter => i == 0
  | .other => i == 0

def NodeEntry.inRange (e : NodeEntry) : Bool :=
  1 ≤ e.address && e.address ≤ 119 && e.role.indexInRange e.recordIndex &&
    (e.timeout == 0 || (100 ≤ e.timeout && e.timeout ≤ 60000))

/-- Two entries clash by an address they share, or by the monitor of one module or string that both would be
(R154). -/
def NodeEntry.clashes (a b : NodeEntry) : Bool :=
  a.address == b.address ||
    (a.role == b.role && a.recordIndex == b.recordIndex &&
      (a.role == .moduleMonitor || a.role == .stringMonitor))

/-- No entry of the list clashes with a later one. -/
def noClash : List NodeEntry → Bool
  | [] => true
  | e :: rest => !(rest.any e.clashes) && noClash rest

def countRole (r : Role) (es : List NodeEntry) : Nat := (es.filter (fun e => e.role == r)).length

/-- The checks of R154 on the table that would result. -/
def nodeTableValid (t : List (Option NodeEntry)) : Bool :=
  let es := t.filterMap id
  es.all NodeEntry.inRange && noClash es && countRole .pcs es ≤ 1 && countRole .chiller es ≤ 1 &&
    countRole .meter es ≤ 1 && countRole .firePanel es ≤ 2

/-! ### T15 and T16 (R174, R20) -/

def LineEntry.bytes (e : LineEntry) : List Byte :=
  put8 e.function.code ++ put8 e.zone ++ put8 e.polarity.code ++ put16 e.debounce

def LineEntry.read : Reader LineEntry := do
  return ⟨← getNamed LineFunction.named, ← get8, ← getNamed Polarity.named, ← get16⟩

/-- A line's zone is 0 to 7, or 15 for all zones; its debounce 1 to 500 ms (R174). -/
def LineEntry.valid (e : LineEntry) : Bool :=
  (e.zone ≤ 7 || e.zone == 15) && 1 ≤ e.debounce && e.debounce ≤ 500

def countFunction (f : LineFunction) (t : List LineEntry) : Nat := (t.filter (fun e => e.function == f)).length

/-- The checks of R174, at most one line each for BREAKER_CLOSED, RELEASE_HOLD and E_STOP among them. -/
def lineTableValid (t : List LineEntry) : Bool :=
  t.all LineEntry.valid && countFunction .breakerClosed t ≤ 1 && countFunction .releaseHold t ≤ 1 &&
    countFunction .eStop t ≤ 1

def zoneMapValid (t : List Nat) : Bool := t.all (· ≤ 7)

/-! ### All tables -/

/-- The contents of a table encoded as in a LOAD TABLE, without the table number (R152, R169). -/
def TableContents.bytes : TableContents → List Byte
  | .t1 c => c.bytes
  | .t2 c => c.bytes
  | .t3 c => Curve.bytes c
  | .t4 c => Curve.bytes c
  | .t5 c => Curve.bytes c
  | .t6 c => Curve.bytes c
  | .t7 c => Curve.bytes c
  | .t8 c => c.flatMap StageEntry.bytes
  | .t9 c => c.bytes
  | .t10 c => c.bytes
  | .t11 c => c.bytes
  | .t12 c => c.flatMap DetectorEntry.bytes
  | .t13 c => c.bytes
  | .t14 c => c.flatMap nodeEntryBytes
  | .t15 c => c.flatMap LineEntry.bytes
  | .t16 c => c.flatMap put8

/-- A table's CRC, computed over its encoded contents (R169). -/
def TableContents.crc (c : TableContents) : BitVec 16 := crc16 c.bytes

/-- The number, 1 to 16, of the table that the contents belong to. -/
def TableContents.number : TableContents → Nat
  | .t1 _ => 1
  | .t2 _ => 2
  | .t3 _ => 3
  | .t4 _ => 4
  | .t5 _ => 5
  | .t6 _ => 6
  | .t7 _ => 7
  | .t8 _ => 8
  | .t9 _ => 9
  | .t10 _ => 10
  | .t11 _ => 11
  | .t12 _ => 12
  | .t13 _ => 13
  | .t14 _ => 14
  | .t15 _ => 15
  | .t16 _ => 16

/-- The contents of table number `n`, 1 to 16. -/
def Tables.get (t : Tables) (n : Nat) : Option TableContents :=
  match n with
  | 1 => some (.t1 t.t1)
  | 2 => some (.t2 t.t2)
  | 3 => some (.t3 t.t3)
  | 4 => some (.t4 t.t4)
  | 5 => some (.t5 t.t5)
  | 6 => some (.t6 t.t6)
  | 7 => some (.t7 t.t7)
  | 8 => some (.t8 t.t8)
  | 9 => some (.t9 t.t9)
  | 10 => some (.t10 t.t10)
  | 11 => some (.t11 t.t11)
  | 12 => some (.t12 t.t12)
  | 13 => some (.t13 t.t13)
  | 14 => some (.t14 t.t14)
  | 15 => some (.t15 t.t15)
  | 16 => some (.t16 t.t16)
  | _ => none

/-- The tables with one of them replaced whole. -/
def Tables.put (t : Tables) (c : TableContents) : Tables :=
  match c with
  | .t1 c => { t with t1 := c }
  | .t2 c => { t with t2 := c }
  | .t3 c => { t with t3 := c }
  | .t4 c => { t with t4 := c }
  | .t5 c => { t with t5 := c }
  | .t6 c => { t with t6 := c }
  | .t7 c => { t with t7 := c }
  | .t8 c => { t with t8 := c }
  | .t9 c => { t with t9 := c }
  | .t10 c => { t with t10 := c }
  | .t11 c => { t with t11 := c }
  | .t12 c => { t with t12 := c }
  | .t13 c => { t with t13 := c }
  | .t14 c => { t with t14 := c }
  | .t15 c => { t with t15 := c }
  | .t16 c => { t with t16 := c }

/-- The tables of `t`, with table `n` taken from `u`. -/
def Tables.copy (t u : Tables) (n : Nat) : Tables :=
  match u.get n with
  | some c => t.put c
  | none => t

/-- The CRC of each of T1 to T16, in order. -/
def Tables.crcs (t : Tables) : List (BitVec 16) :=
  (List.range 16).map fun i => ((t.get (i + 1)).map TableContents.crc).getD 0

/-- Whether the bytes have the length that the contents of table `n` have (R152). -/
def tableLengthOk (n : Nat) (bs : List Byte) : Bool :=
  match n with
  | 1 => bs.length == 9
  | 2 => bs.length == 2
  | 3 | 4 | 5 | 6 | 7 => 1 ≤ bs.length && bs.length == 1 + 4 * ((bs.headD 0).toNat)
  | 8 => bs.length == 112
  | 9 => bs.length == 32
  | 10 => bs.length == 36
  | 11 => bs.length == 51
  | 12 => bs.length == 208
  | 13 => bs.length == 19
  | 14 => bs.length == 512
  | 15 => bs.length == 40
  | 16 => bs.length == 48
  | _ => false

/-- The contents that the bytes hold for table `n`; none where a named value is unknown. -/
def parseTable (n : Nat) (bs : List Byte) : Option TableContents :=
  match n with
  | 1 => (readAll VoltageLimits.read bs).map .t1
  | 2 => (readAll TemperatureLimits.read bs).map .t2
  | 3 => (readAll Curve.read bs).map .t3
  | 4 => (readAll Curve.read bs).map .t4
  | 5 => (readAll Curve.read bs).map .t5
  | 6 => (readAll Curve.read bs).map .t6
  | 7 => (readAll Curve.read bs).map .t7
  | 8 => (readAll (getMany StageEntry.read 8) bs).map .t8
  | 9 => (readAll ConnectionSettings.read bs).map .t9
  | 10 => (readAll StringSettings.read bs).map .t10
  | 11 => (readAll ZoneSettings.read bs).map .t11
  | 12 => (readAll (getMany DetectorEntry.read 16) bs).map .t12
  | 13 => (readAll FireSettings.read bs).map .t13
  | 14 => (readAll (getMany readNodeEntry 64) bs).map .t14
  | 15 => (readAll (getMany LineEntry.read 8) bs).map .t15
  | 16 => (readAll (getMany get8 48) bs).map .t16
  | _ => none

/-- The checks of the table's chapter that need no state. -/
def TableContents.valid : TableContents → Bool
  | .t1 c => c.valid
  | .t2 c => c.valid
  | .t3 c => Curve.valid (-80) 250 0 1024 c
  | .t4 c => Curve.valid (-80) 250 0 1024 c
  | .t5 c => Curve.valid 0 1024 0 1024 c
  | .t6 c => Curve.valid 0 1024 0 1024 c
  | .t7 c => Curve.valid (-5000) 5000 (-4000) 4000 c
  | .t8 c => c.all StageEntry.valid
  | .t9 c => c.valid
  | .t10 c => c.valid
  | .t11 c => c.valid
  | .t12 c => c.all DetectorEntry.valid
  | .t13 c => c.valid
  | .t14 c => nodeTableValid c
  | .t15 c => lineTableValid c
  | .t16 c => zoneMapValid c

end Sys2Proof.Machine
end

