-- ==== Sys2Proof/Machine/State.lean ====
section
/-! DEFINITION. The state of the SX44 as plain data, the reasons a step can stop, and the state right after a
POWER_ON reset. -/

namespace Sys2Proof.Machine

/-- Everything the manual gives the part, and the queue of commands that wait to be taken, first in, first out. -/
structure State where
  /-- the commands waiting: the model's own -/
  pending : List Instr
  /-- part time (00_scope) -/
  time : PartTime
  /-- reset in progress, reset cause, own address (R179) -/
  sys : Sys
  /-- R1, R2 -/
  rounds : Rounds
  /-- 48 module records, each with its 16 cell records (R21, R22) -/
  modules : List ModuleRec
  /-- 4 string records (R28, R43) -/
  strings : List StringRec
  /-- the cells hold indication (R26) -/
  cellsHold : Bool
  /-- T1 and T2 as in effect since the last close (R19) -/
  limits : CloseLimits
  /-- R59, R78 -/
  envelope : EnvelopeUnit
  /-- R82 -/
  gate : GateRec
  /-- R101, R104 -/
  grid : GridRec
  /-- R108 -/
  conn : ConnRec
  /-- R120, R126, R128 -/
  thermal : Thermal
  /-- R137, R143, R148 -/
  fire : FireUnit
  /-- 64 node records, beside the entries of T14 (R155) -/
  nodes : List NodeRec
  /-- R153, R160, R161 -/
  fieldPort : FieldPort
  /-- R153, R162, R163 -/
  stationPort : StationPort
  /-- R170, R171 -/
  engine : Engine
  /-- the Notice Queue, in the order in which the notices entered (R172) -/
  notices : List Notice
  /-- R171, R173 -/
  flags : FlagRec
  /-- R169, R180 -/
  config : ConfigStore
  /-- the non-volatile image (R170, R179) -/
  image : Image
  /-- R175 -/
  lines : Lines
  /-- R177, R178 -/
  supply : Supply
  /-- R164 and the chapters it gathers -/
  counters : Counters
  /-- how many free orders have been taken: the model's own (logs 4 and 5) -/
  choices : Nat
  deriving DecidableEq, Repr

/-- The reasons the part could stop with a fault: none. The manual gives every event an effect, so no meaning of this
model raises a fault (safe: the type is empty). -/
inductive Fault where
  deriving DecidableEq, Repr

/-- The reasons a command is not executed. -/
inductive Refusal where
  /-- Raised only by an arm of `exec` that has no meaning yet; no arm raises it now (safe). -/
  | notModelled (mnemonic : String)
  deriving DecidableEq, Repr

/-! ### Reset values -/

/-- A cell record after every reset (R22). -/
def CellRec.atReset : CellRec := ⟨none, none, .unknown, 0, 0⟩

/-- A module record after every reset, its zone taken from T16 (R21). -/
def ModuleRec.atReset (zone : Nat) : ModuleRec :=
  ⟨.never, 0, none, [], [], zone, [], false, List.replicate 16 CellRec.atReset⟩

def Extremes.absent : Extremes := ⟨none, none, none, none⟩

/-- Q_cap of a string of the given capacity (R43). -/
def chargeCap (capacityAh : Nat) : Nat := capacityAh * 36000000

/-- SOC = floor(Q × 1024 / Q_cap) (R49). A Q_cap of 0 cannot arise from T10, whose capacity is at least 1. -/
def socOf (q qCap : Nat) : Nat := q * 1024 / qCap

/-- A charge record formed at POWER_ON from a stored SOC (R58). -/
def ChargeRec.atPowerOn (storedSoc capacityAh : Nat) : ChargeRec :=
  let cap := chargeCap capacityAh
  let q := storedSoc * cap / 1024
  ⟨q, cap, socOf q cap, 0, 0, 0, true, true, true, none, none, none, none, 0, 0, 0⟩

/-- A string record after every reset, less what a RESET_LINE or RESTART retains (R42). -/
def StringRec.atReset (charge : ChargeRec) : StringRec :=
  ⟨.awaiting, none, none, none, none, .unknown, .absent, none, .none, charge⟩

def StringEnvelope.zero : StringEnvelope := ⟨false, 0, 0, 0, 0, 0, 0, 0, 0, 0, 0⟩

/-- The envelope record after every reset (R81). -/
def EnvelopeRec.atReset : EnvelopeRec :=
  ⟨0, 0, 0, 0, 0, 0, 0, 0, 0, List.replicate 4 .zero, 0, 0, 0, .noString, .noString, 0, 0⟩

def StageRec.atReset : StageRec := ⟨.clear, none, none⟩

/-- The grid record after every reset (R101, R104). -/
def GridRec.atReset : GridRec :=
  ⟨none, none, none, none, none, none, none, none, false, [], none, List.replicate 8 .atReset⟩

def DetectorRec.atReset : DetectorRec :=
  ⟨none, none, none, .normal, .none, 0, 0, 0, 0, 0, 0, 0, 0, none⟩

/-- A zone fire record after POWER_ON, and after any reset of a zone that is not fire-confirmed (R151). -/
def FireZone.atReset : FireZone := ⟨.normal, .normal, .none, false, false, none, none, none⟩

def NodeRec.atReset : NodeRec := ⟨.unseen, none, 0, 0, 0⟩

def FieldPort.atReset : FieldPort := ⟨none, [], [], none⟩

def StationPort.atReset : StationPort := ⟨none, [], 0, none⟩

/-- A zone record before the initial making, with the demand code of R133. -/
def ZoneRec.atReset (inUse : Bool) (fallbackCode : Nat) : ZoneRec :=
  ⟨inUse, none, false, if inUse then fallbackCode else 0, 0, 0⟩

/-- Each block at its reset value after POWER_ON, on the settings of `Image.initial`, before the Dispatch Gate makes
its initial zero frame, the Thermal Controller its initial command, and the notices of start-up are raised (R179 step
4 and 5). Supply, raw levels and ADDR pins stand as log 2 says. -/
def State.atReset : State where
  pending := []
  time := 0
  sys := ⟨none, .powerOn, 120⟩
  rounds := ⟨.idle, 0, true, 0, none, 1000, 0⟩
  modules := zoneMapDefault.map ModuleRec.atReset
  strings := List.replicate 4 (.atReset (.atPowerOn 512 280))
  cellsHold := false
  limits := Tables.builtIn.closeLimits
  envelope := ⟨.atReset, 1000⟩
  gate := ⟨.held, some .start, 0, 0, false, 0, 0, 0, 0, none, some 5000, none, none, true⟩
  grid := .atReset
  conn := ⟨.openWait, .isOpen, none, none, .none, [], .none, true, none, none, 1000, none, none⟩
  thermal := ⟨List.replicate 8 (.atReset true 160), .ok, none, ⟨false, 0, 0, 0, .unaddressed⟩⟩
  fire := ⟨List.replicate 16 .atReset, List.replicate 8 .atReset, 1000, false⟩
  nodes := List.replicate 64 .atReset
  fieldPort := .atReset
  stationPort := .atReset
  engine := ⟨none, false, false⟩
  notices := []
  flags := ⟨0, false⟩
  config := ⟨.builtIn, Tables.builtIn.crcs, List.replicate 16 false, .builtIn, 10000⟩
  image := .initial
  lines := ⟨List.replicate 8 ⟨false, 0, .unknown⟩, ⟨true, 0, false⟩⟩
  supply := ⟨.normal, none, false⟩
  counters := {}
  choices := 0

/-- The part right after a POWER_ON reset (R179) with `Image.initial`, log 2. Against `State.atReset` it holds what
the end of the reset brings: the evaluation made for the initial zero frame, which is not sent because the built-in
T14 holds no PCS entry (R83, R92); the initial coolant command, which has no chiller to go to (R127, R133); the notice
SOC_UNCALIBRATED of each string in use (R58) and the notice STARTED (R179). -/
def State.reset : State :=
  { State.atReset with
    envelope := ⟨{ EnvelopeRec.atReset with
        fFire := 1024, fCoolant := 1024, fCells := 1024, fConfig := 1024, fEstop := 1024, number := 1 }, 1000⟩
    thermal := ⟨List.replicate 8 ⟨true, none, false, 160, 160, 512⟩, .ok, none, ⟨true, 160, 512, 0, .unaddressed⟩⟩
    notices :=
      [⟨.socUncalibrated, some 0, 1, 0⟩, ⟨.socUncalibrated, some 1, 1, 0⟩, ⟨.socUncalibrated, some 2, 1, 0⟩,
       ⟨.socUncalibrated, some 3, 1, 0⟩, ⟨.started, some 0, 1, 0⟩]
    counters := { dispatchUnaddressed := 1, coolantUnaddressed := 1 } }

end Sys2Proof.Machine
end

