-- ==== Sys2Proof/Machine/Ops.lean ====
section
/-! DEFINITION. The operations that every block shares: replacing one record of the state, part time and timers,
saturating counts, the Notice Queue (R172), looking up a node (R154), and placing frames in the Field and Station
queues (R160, R162). -/

namespace Sys2Proof.Machine

/-! ### Replacing one record -/

def State.setPending (s : State) (x : List Instr) : State := { s with pending := x }
def State.setTime (s : State) (x : PartTime) : State := { s with time := x }
def State.setSys (s : State) (x : Sys) : State := { s with sys := x }
def State.setRounds (s : State) (x : Rounds) : State := { s with rounds := x }
def State.setModules (s : State) (x : List ModuleRec) : State := { s with modules := x }
def State.setStrings (s : State) (x : List StringRec) : State := { s with strings := x }
def State.setCellsHold (s : State) (x : Bool) : State := { s with cellsHold := x }
def State.setLimits (s : State) (x : CloseLimits) : State := { s with limits := x }
def State.setEnvelope (s : State) (x : EnvelopeUnit) : State := { s with envelope := x }
def State.setGate (s : State) (x : GateRec) : State := { s with gate := x }
def State.setGrid (s : State) (x : GridRec) : State := { s with grid := x }
def State.setConn (s : State) (x : ConnRec) : State := { s with conn := x }
def State.setThermal (s : State) (x : Thermal) : State := { s with thermal := x }
def State.setFire (s : State) (x : FireUnit) : State := { s with fire := x }
def State.setNodes (s : State) (x : List NodeRec) : State := { s with nodes := x }
def State.setFieldPort (s : State) (x : FieldPort) : State := { s with fieldPort := x }
def State.setStationPort (s : State) (x : StationPort) : State := { s with stationPort := x }
def State.setEngine (s : State) (x : Engine) : State := { s with engine := x }
def State.setNotices (s : State) (x : List Notice) : State := { s with notices := x }
def State.setFlags (s : State) (x : FlagRec) : State := { s with flags := x }
def State.setConfig (s : State) (x : ConfigStore) : State := { s with config := x }
def State.setImage (s : State) (x : Image) : State := { s with image := x }
def State.setLines (s : State) (x : Lines) : State := { s with lines := x }
def State.setSupply (s : State) (x : Supply) : State := { s with supply := x }
def State.setCounters (s : State) (x : Counters) : State := { s with counters := x }
def State.setChoices (s : State) (x : Nat) : State := { s with choices := x }

/-! ### Reading records -/

/-- The operating parameters in force. -/
def State.params (s : State) : Params := s.config.params

/-- The working tables. -/
def State.tables (s : State) : Tables := s.config.tables

def State.moduleAt (s : State) (m : Nat) : ModuleRec := s.modules.getD m (.atReset 0)

/-- A string index beyond the four records names none; the record then read is that of a part just reset. -/
def State.stringAt (s : State) (i : Nat) : StringRec := s.strings.getD i (.atReset (.atPowerOn 0 1))

def State.fireZone (s : State) (z : Nat) : FireZone := s.fire.zones.getD z .atReset

def State.stageAt (s : State) (i : Nat) : StageRec := s.grid.stages.getD i .atReset

def State.nodeAt (s : State) (i : Nat) : NodeRec := s.nodes.getD i .atReset

def State.lineAt (s : State) (i : Nat) : LineRec := s.lines.inputs.getD i ⟨false, 0, .unknown⟩

/-- The T10 entry of a string; an index beyond the table names a string not in use. -/
def State.stringEntry (s : State) (i : Nat) : StringEntry :=
  s.tables.t10.entries.getD i { StringEntry.builtIn with inUse := false }

def State.lineEntry (s : State) (i : Nat) : LineEntry := s.tables.t15.getD i .builtIn

/-! ### Changing one entry of a list of records -/

def State.modModule (s : State) (m : Nat) (f : ModuleRec → ModuleRec) : State :=
  s.setModules (s.modules.modify m f)

def State.modString (s : State) (i : Nat) (f : StringRec → StringRec) : State :=
  s.setStrings (s.strings.modify i f)

def State.modCharge (s : State) (i : Nat) (f : ChargeRec → ChargeRec) : State :=
  s.modString i fun r => { r with charge := f r.charge }

def State.modFireZone (s : State) (z : Nat) (f : FireZone → FireZone) : State :=
  s.setFire { s.fire with zones := s.fire.zones.modify z f }

def State.modDetector (s : State) (i : Nat) (f : DetectorRec → DetectorRec) : State :=
  s.setFire { s.fire with detectors := s.fire.detectors.modify i f }

def State.modStage (s : State) (i : Nat) (f : StageRec → StageRec) : State :=
  s.setGrid { s.grid with stages := s.grid.stages.modify i f }

def State.modNode (s : State) (i : Nat) (f : NodeRec → NodeRec) : State :=
  s.setNodes (s.nodes.modify i f)

def State.modLine (s : State) (i : Nat) (f : LineRec → LineRec) : State :=
  s.setLines { s.lines with inputs := s.lines.inputs.modify i f }

/-- `f` for each of the indices, in order. -/
def State.forEach (s : State) (is : List Nat) (f : Nat → State → State) : State :=
  is.foldl (fun s i => f i s) s

/-! ### Time -/

/-- The part time `ms` milliseconds from now. -/
def State.after (s : State) (ms : Nat) : PartTime := s.time + BitVec.ofNat 32 ms

/-- The age of `t`: a difference of two part times (00_scope, "Part time"). -/
def State.age (s : State) (t : PartTime) : Nat := (s.time - t).toNat

/-- A running timer whose end time has been reached. The difference is read as one of less than half the wrap period,
which every timer of the manual is (log 1). -/
def State.due (s : State) (timer : Option PartTime) : Bool :=
  match timer with
  | some e => decide ((s.time - e).toNat < 2147483648)
  | none => false

/-! ### Counts -/

/-- A count that saturates at 65535. -/
def inc16 (n : Nat) : Nat := capNat 65535 (n + 1)

/-- A count that saturates at 255. -/
def inc8 (n : Nat) : Nat := capNat 255 (n + 1)

/-- A count that saturates at 65535, advanced `k` times. -/
def add16 (n k : Nat) : Nat := capNat 65535 (n + k)

def State.count (s : State) (f : Counters → Counters) : State := s.setCounters (f s.counters)

/-- A change of one port's receive error counters (R153). -/
def State.countPort (s : State) (p : Port) (f : PortCounters → PortCounters) : State :=
  s.count fun c =>
    match p with
    | .station => { c with stationPort := f c.stationPort }
    | .field => { c with fieldPort := f c.fieldPort }

/-! ### Notices (R172) -/

/-- The rank of a severity, in rising order. -/
def Severity.rank : Severity → Nat
  | .info => 0
  | .warning => 1
  | .alarm => 2
  | .trip => 3

/-- The one severity of each kind (R172; R177 to R179 for the start-up and supply notices). -/
def NoticeKind.severity : NoticeKind → Severity
  | .cellHard | .tempHard | .connectionTripped | .fire | .fireReleasePending | .fireReleased => .trip
  | .contactorFail | .gateHeld | .pcsOvershoot | .breakerFail | .coolantLost | .detectorFault | .firePreAlarm
  | .configFault | .holdupLow => .alarm
  | .moduleStale | .stringIsolated | .contactorExternal | .socUncalibrated | .calibrationConflict | .gateFailsafe
  | .pcsFault | .stageOperated | .breakerExternal | .coolantDegraded | .zoneUnwatched | .nodeSilent | .usurpedKind
  | .storeFailed | .supplyHoldup => .warning
  | .stringInService | .calibrated | .gatePassing | .dispatchCorrected | .rideThrough | .connected | .coolantOk
  | .detectorRestored | .zoneWatched | .fireWatch | .fireCleared | .nodeLive | .storeDone | .started
  | .supplyNormal | .holdupRecovered => .info

def Notice.rank (n : Notice) : Nat := n.kind.severity.rank

/-- Whether a waiting notice has this identity. -/
def Notice.isOf (k : NoticeKind) (subject : Option Nat) (n : Notice) : Bool := n.kind == k && n.subject == subject

/-- The least severity rank present, or 4 in an empty queue. -/
def lowestRank (q : List Notice) : Nat := q.foldl (fun r n => min r n.rank) 4

/-- The greatest severity rank present, or 0 in an empty queue. -/
def highestRank (q : List Notice) : Nat := q.foldl (fun r n => max r n.rank) 0

/-- The queue after a notice is raised (R172 steps 1 to 3). -/
def enterNotice (q : List Notice) (n : Notice) : List Notice :=
  if q.any (Notice.isOf n.kind n.subject) then
    q.map fun w => if w.isOf n.kind n.subject then { w with repeats := inc8 w.repeats } else w
  else if q.length < 24 then q ++ [n]
  else if lowestRank q ≤ n.rank then q.eraseP (fun w => w.rank == lowestRank q) ++ [n]
  else q

/-- Whether raising the notice loses one: the queue is full and holds none of its identity (R172 step 3). -/
def losesNotice (q : List Notice) (n : Notice) : Bool :=
  !(q.any (Notice.isOf n.kind n.subject)) && 24 ≤ q.length

/-- Raise a notice (R172). -/
def State.raise (s : State) (k : NoticeKind) (subject : Option Nat) : State :=
  let n : Notice := ⟨k, subject, 1, s.time⟩
  let s' := s.setNotices (enterNotice s.notices n)
  if losesNotice s.notices n then s'.count fun c => { c with noticesLost := inc16 c.noticesLost } else s'

/-- The notice that the queue offers: of the highest severity present, the one that entered first (R172). -/
def offered (q : List Notice) : Option Notice := q.find? (fun n => n.rank == highestRank q)

/-- The queue once the offered notice has left it. -/
def withoutOffered (q : List Notice) : List Notice := q.eraseP (fun n => n.rank == highestRank q)

/-! ### Nodes (R154) -/

/-- The index of the first entry of T14 that satisfies `p`. -/
def State.nodeIndex (s : State) (p : NodeEntry → Bool) : Option Nat := s.tables.t14.findIdx? (fun e => e.any p)

def State.nodeEntry (s : State) (i : Nat) : Option NodeEntry := (s.tables.t14.getD i none)

/-- The entry that feeds a record: of this role, with this record index. -/
def State.roleIndex (s : State) (r : Role) (record : Nat) : Option Nat :=
  s.nodeIndex fun e => e.role == r && e.recordIndex == record

/-- The address of the entry of this role and record index, if the node table holds one. -/
def State.addressOf (s : State) (r : Role) (record : Nat) : Option Nat :=
  ((s.roleIndex r record).bind s.nodeEntry).map (·.address)

/-- The state of the node of this role and record index: UNSEEN where the table holds no such entry (R154). -/
def State.nodeStateOf (s : State) (r : Role) (record : Nat) : NodeState :=
  match s.roleIndex r record with
  | some i => (s.nodeAt i).state
  | none => .unseen

/-! ### Frame kinds (00_scope, "Frame kinds") -/

def kindModuleReport : Nat := 0x01
def kindStringReport : Nat := 0x02
def kindGridSample : Nat := 0x03
def kindPcsStatus : Nat := 0x04
def kindCoolantStatus : Nat := 0x05
def kindDetectorReport : Nat := 0x06
def kindDispatch : Nat := 0x20
def kindDispatchResult : Nat := 0x21
def kindSampleCall : Nat := 0x30
def kindBleedHold : Nat := 0x31
def kindBleedSet : Nat := 0x32
def kindSleepCall : Nat := 0x33
def kindWakeCall : Nat := 0x34
def kindCoolantCommand : Nat := 0x35
def kindContactorCommand : Nat := 0x36
def kindManagementRequest : Nat := 0x40
def kindManagementResponse : Nat := 0x41
def kindNotice : Nat := 0x42

/-- The broadcast address (00_scope, "Frame kinds"). -/
def broadcast : Nat := 127

/-! ### The Field queues (R160) -/

/-- The four kinds whose waiting frames a newer one replaces (R160). -/
def supersedable (kind : Nat) : Bool :=
  kind == kindDispatch || kind == kindCoolantCommand || kind == kindBleedSet || kind == kindContactorCommand

/-- Whether a waiting frame has the kind and destination of `p`. -/
def Placed.matches (p w : Placed) : Bool := w.frame.kind == p.frame.kind && w.frame.dest == p.frame.dest

/-- Put `p` in the place of each waiting frame of its kind and destination; a queue holds at most one. -/
def replaceIn (p : Placed) (q : List Placed) : List Placed := q.map fun w => if p.matches w then p else w

/-- Count `n` replacements or removals, for the Gate as well when a DISPATCH is replaced or removed (R160, R97). -/
def State.countSuperseded (s : State) (kind n : Nat) : State :=
  s.count fun c =>
    { c with
      fieldSuperseded := add16 c.fieldSuperseded n
      dispatchSuperseded := if kind == kindDispatch then add16 c.dispatchSuperseded n else c.dispatchSuperseded }

/-- The places used in the NORMAL queue: the waiting frames, and the one in transmission that came from it (R160). -/
def FieldPort.normalUsed (p : FieldPort) : Nat :=
  p.normal.length + (match p.sending with
    | some (_, .normal) => 1
    | _ => 0)

/-- Place a frame in URGENT: it replaces a waiting frame of its kind and destination there, removes each such frame
waiting in NORMAL, and is always admitted (R160; log 8). -/
def State.placeUrgent (s : State) (p : Placed) : State :=
  let replaced := s.fieldPort.urgent.any p.matches
  let removed := (s.fieldPort.normal.filter p.matches).length
  (s.setFieldPort { s.fieldPort with
      urgent := if replaced then replaceIn p s.fieldPort.urgent else s.fieldPort.urgent ++ [p]
      normal := s.fieldPort.normal.filter fun w => !(p.matches w) }).countSuperseded p.frame.kind
    ((if replaced then 1 else 0) + removed)

/-- Whether a frame placed in NORMAL is admitted (R160). -/
def FieldPort.admits (port : FieldPort) (p : Placed) : Bool :=
  (supersedable p.frame.kind && port.normal.any p.matches) || port.normalUsed < 32

/-- Place a frame in NORMAL (R160): a supersedable one replaces a waiting frame of its kind and destination, even in
a full queue; otherwise the frame joins the end, or is refused when no place is free. `FieldPort.admits` says
beforehand whether it is admitted. -/
def State.placeNormal (s : State) (p : Placed) : State :=
  if supersedable p.frame.kind && s.fieldPort.normal.any p.matches then
    (s.setFieldPort { s.fieldPort with normal := replaceIn p s.fieldPort.normal }).countSuperseded p.frame.kind 1
  else if s.fieldPort.normalUsed < 32 then
    s.setFieldPort { s.fieldPort with normal := s.fieldPort.normal ++ [p] }
  else s.count fun c => { c with fieldNormalRefused := inc16 c.fieldNormalRefused }

/-- A frame of the part's own, to `dest`. -/
def State.ownFrame (s : State) (kind dest : Nat) (payload : List Byte) : Placed :=
  ⟨⟨dest, s.sys.address, kind, payload⟩, none⟩

/-! ### The Station queue (R162, R163) -/

/-- The places used: waiting frames, places reserved for responses, and the frame in transmission (R162). -/
def StationPort.used (p : StationPort) : Nat :=
  p.queue.length + p.reserved + (if p.sending.isSome then 1 else 0)

def StationFrame.isResult : StationFrame → Bool
  | .result _ => true
  | _ => false

/-- Put a frame at the end of the Station queue. -/
def State.stationJoin (s : State) (f : StationFrame) : State :=
  s.setStationPort { s.stationPort with queue := s.stationPort.queue ++ [f] }

/-- Whether a forwarded frame is admitted: fewer than 28 places are used (R162). -/
def StationPort.admitsForwarded (p : StationPort) : Bool := p.used < 28

/-- Offer a forwarded field frame to the Station queue (R162). -/
def State.offerForwarded (s : State) (f : Frame) : State :=
  if s.stationPort.admitsForwarded then s.stationJoin (.forwarded f)
  else s.count fun c => { c with stationForwardLost := inc16 c.stationForwardLost }

/-- Place a DISPATCH RESULT: it takes a free place, or evicts the oldest result still waiting, or is lost (R162). -/
def State.placeResult (s : State) (r : DispatchResult) : State :=
  if s.stationPort.used < 32 then s.stationJoin (.result r)
  else if s.stationPort.queue.any StationFrame.isResult then
    (s.setStationPort { s.stationPort with
        queue := s.stationPort.queue.eraseP StationFrame.isResult ++ [.result r] }).count
      fun c => { c with resultsEvicted := inc16 c.resultsEvicted }
  else s.count fun c => { c with resultsLost := inc16 c.resultsLost }

/-! ### Outcomes -/

/-- A command's effect while the part runs. While a reset holds the part, no frame is received, no timer runs and no
line is debounced, so that the command changes nothing (R179; log 9). -/
def State.whileRunning (s : State) (f : State → State) : Host.Outcome State Fault Refusal :=
  if s.sys.hold.isNone then .next (f s) else .next s

end Sys2Proof.Machine
end

