-- ==== Sys2Proof/Machine/Flags.lean ====
section
/-! DEFINITION. The latched flags and the ALERT output (R171, R173), and the limit flags of a dispatch frame (R91,
R152). -/

namespace Sys2Proof.Machine

/-- The latched flags, in the order of R171's table read row by row. -/
inductive Flag where
  | cellHard | tempHard | contactorFail | pcsOvershoot | lockout | breakerFail | coolantLost | detectorFault
  | fire | release | nodeSilent | configFault | holdupLow
  deriving DecidableEq, Repr

/-- The bit of a flag in a set of flags (R165). -/
def Flag.bit : Flag → Nat
  | .cellHard => 0
  | .tempHard => 1
  | .contactorFail => 2
  | .pcsOvershoot => 3
  | .lockout => 4
  | .breakerFail => 5
  | .coolantLost => 6
  | .detectorFault => 7
  | .fire => 8
  | .release => 9
  | .nodeSilent => 10
  | .configFault => 11
  | .holdupLow => 12

/-- The flags of severity ALARM or TRIP: every flag but NODE_SILENT, which is a WARNING (R171, R173). -/
def alertMask : BitVec 16 := 0x1BFF

/-- ALERT is active while any latched flag of severity ALARM or TRIP is set (R173). -/
def alertOf (latched : BitVec 16) : Bool := (latched &&& alertMask) != 0

def FlagRec.of (latched : BitVec 16) : FlagRec := ⟨latched, alertOf latched⟩

/-- The flags with one more latched. -/
def withFlag (latched : BitVec 16) (f : Flag) : BitVec 16 := latched ||| ((1 : BitVec 16) <<< f.bit)

/-- Latch a flag; ALERT follows at once (R173). -/
def State.latch (s : State) (f : Flag) : State := s.setFlags (.of (withFlag s.flags.latched f))

def State.isLatched (s : State) (f : Flag) : Bool := s.flags.latched.getLsbD f.bit

/-- Clear the named flags and ignore the others (R171). -/
def State.clearFlags (s : State) (named : BitVec 16) : State := s.setFlags (.of (s.flags.latched &&& ~~~named))

/-- The limit flags of a dispatch frame (R91). -/
structure LimitFlags where
  clampDis : Bool := false
  clampChg : Bool := false
  ramp : Bool := false
  rideFreeze : Bool := false
  frAdded : Bool := false
  qClamp : Bool := false
  held : Bool := false
  failsafe : Bool := false
  autonomous : Bool := false
  corrective : Bool := false
  deriving DecidableEq, Repr

/-- The limit flags as bits 0 to 9 of their two bytes (R152). -/
def LimitFlags.word (f : LimitFlags) : Nat :=
  let bit (b : Bool) (n : Nat) : Nat := if b then 2 ^ n else 0
  bit f.clampDis 0 + bit f.clampChg 1 + bit f.ramp 2 + bit f.rideFreeze 3 + bit f.frAdded 4 + bit f.qClamp 5 +
    bit f.held 6 + bit f.failsafe 7 + bit f.autonomous 8 + bit f.corrective 9

end Sys2Proof.Machine
end

