-- ==== Sys2Proof/Machine/Operands.lean ====
section
/-! DEFINITION. The operands of frames: the payload layouts of R152 for the frames the part takes, the test for a
malformed frame of R153, and the payloads of the frames the part makes. -/

namespace Sys2Proof.Machine

/-! ### Frames taken -/

/-- A MODULE REPORT (R152). -/
structure ModuleReport where
  tag : Nat
  quietEcho : Bool
  /-- the positions the open-wire mask marks -/
  openWire : List Nat
  voltages : List Nat
  temps : List Int
  deriving DecidableEq, Repr

/-- A MODULE REPORT's payload of `n` cells and `t` temperatures, read in the order of its layout (R152). -/
def ModuleReport.read : Reader ModuleReport := do
  let tag ← get8
  let flags ← get8
  let n ← get8
  let t ← get8
  let mask ← get16
  let voltages ← getMany get16 n
  let temps ← getMany getSigned16 t
  return ⟨tag, flags.testBit 0, positionsOf 16 mask, voltages, temps⟩

/-- A STRING REPORT (R152). -/
structure StringReport where
  seq : Nat
  current : Int
  voltage : Nat
  closed : Bool
  deriving DecidableEq, Repr

/-- The contactor feedback: 0 OPEN, 1 CLOSED, and any other byte free (log 10). -/
def feedbackOf (n : Nat) : Bool :=
  match n with
  | 0 => false
  | 1 => true
  | n => Config.unnamedFeedbackIsClosed n

def StringReport.read : Reader StringReport := do
  let seq ← get8
  let current ← getSigned16
  let voltage ← get16
  let fb ← get8
  return ⟨seq, current, voltage, feedbackOf fb⟩

/-- A GRID SAMPLE (R152). -/
structure GridSample where
  seq : Nat
  vA : Nat
  vB : Nat
  vC : Nat
  f : Nat
  deriving DecidableEq, Repr

def GridSample.read : Reader GridSample := do
  return ⟨← get8, ← get16, ← get16, ← get16, ← get32⟩

def pcsStateOfFin (n : Fin 3) : PcsState :=
  match n with
  | 0 => .run
  | 1 => .stop
  | 2 => .fault

/-- The PCS state: 0 RUN, 1 STOP, 2 FAULT, and any other byte free (log 10). -/
def pcsStateOf (n : Nat) : PcsState :=
  match n with
  | 0 => .run
  | 1 => .stop
  | 2 => .fault
  | n => pcsStateOfFin (Config.unnamedPcsState n)

/-- A PCS STATUS as it arrives (R152). -/
def PcsStatus.read : Reader PcsStatus := do
  let p ← getSigned16
  let q ← getSigned16
  let state ← get8
  return ⟨p, q, pcsStateOf state⟩

/-- A COOLANT STATUS (R152). -/
structure CoolantStatus where
  state : ChillerState
  supply : Int
  returnTemp : Int
  flow : Nat
  deriving DecidableEq, Repr

def chillerStateOfFin (n : Fin 3) : ChillerState :=
  match n with
  | 0 => .run
  | 1 => .standby
  | 2 => .fault

/-- The chiller state: 0 RUN, 1 STANDBY, 2 FAULT, and any other byte free (log 10). -/
def chillerStateOf (n : Nat) : ChillerState :=
  match n with
  | 0 => .run
  | 1 => .standby
  | 2 => .fault
  | n => chillerStateOfFin (Config.unnamedChillerState n)

def CoolantStatus.read : Reader CoolantStatus := do
  let state ← get8
  return ⟨chillerStateOf state, ← getSigned16, ← getSigned16, ← get16⟩

/-- One pair of a DETECTOR REPORT: a slot and a reading code (R152). -/
def readPair : Reader (Nat × Nat) := do
  return (← get8, ← get16)

/-- The pairs of a DETECTOR REPORT, in order (R152). -/
def detectorPairs (payload : List Byte) : Option (List (Nat × Nat)) :=
  readAll (getMany readPair (payload.length / 3)) payload

/-- A station DISPATCH: its number, request and FR participation (R152). -/
structure DispatchOrder where
  number : Nat
  p : Int
  q : Int
  fr : Bool
  deriving DecidableEq, Repr

/-- The first six bytes of a DISPATCH; bytes 6 and 7 of a station frame are ignored (R152). -/
def DispatchOrder.read : Reader DispatchOrder := do
  let number ← get8
  let p ← getSigned16
  let q ← getSigned16
  let control ← get8
  return ⟨number, p, q, control.testBit 0⟩

/-! ### Malformed frames (R153) -/

/-- Whether a MODULE REPORT's length and counts fit its layout (R152, R153). -/
def moduleReportFits (payload : List Byte) : Bool :=
  let n := (payload.getD 2 0).toNat
  let t := (payload.getD 3 0).toNat
  6 ≤ payload.length && 1 ≤ n && n ≤ 16 && t ≤ 4 && payload.length == 6 + 2 * n + 2 * t

/-- Whether a table number lies within T1 to T16. -/
def isTable (n : Nat) : Bool := 1 ≤ n && n ≤ 16

/-- Whether an entry has the length of an entry of its table (R152); a table without entry loads sets none. -/
def entryLengthOk (n : Nat) (bytes : List Byte) : Bool :=
  match n with
  | 8 => bytes.length == 14
  | 12 => bytes.length == 13
  | 14 => bytes.length == 8
  | _ => true

/-- Whether the arguments of a request code have the length that R165 gives them. A code that the part does not know,
and a load of a table outside T1 to T16, have no layout to differ from. -/
def argumentsFit (code : Nat) (args : List Byte) : Bool :=
  match code with
  | 1 | 4 | 9 | 11 | 12 | 14 | 18 | 19 | 20 | 21 => args.isEmpty
  | 2 => args.length == 4
  | 3 => args.length == 8
  | 5 | 15 | 16 | 17 | 22 => args.length == 1
  | 6 =>
    match args with
    | [] => false
    | b :: bytes => !isTable b.toNat || tableLengthOk b.toNat bytes
  | 7 =>
    match args with
    | [] => false
    | [b] => !isTable b.toNat
    | b :: _ :: bytes => !isTable b.toNat || entryLengthOk b.toNat bytes
  | 8 => args.length == 5
  | 10 => args.length == 2
  | 13 => args.length == 3
  | _ => true

/-- Whether a MANAGEMENT REQUEST has the length of its layout: a request code and that code's arguments (R152, R165). -/
def requestFits (payload : List Byte) : Bool :=
  match payload with
  | [] => false
  | code :: args => argumentsFit code.toNat args

/-- Whether a payload fits the layout that R152 gives its kind. A kind with no layout is never malformed.
A MANAGEMENT RESPONSE that arrives fits with any result data: their length is not judged by its request code and status,
since R165 to R171 give it for what the part sends and R152 only adds it to 2 (DEDUCED, log 16). -/
def payloadFits (kind : Nat) (payload : List Byte) : Bool :=
  let n := payload.length
  if kind == kindModuleReport then moduleReportFits payload
  else if kind == kindStringReport then n == 6
  else if kind == kindGridSample then n == 11
  else if kind == kindPcsStatus then n == 5
  else if kind == kindCoolantStatus then n == 7
  else if kind == kindDetectorReport then n % 3 == 0 && 1 ≤ n / 3 && n / 3 ≤ 16
  else if kind == kindDispatch then n == 6 || n == 8
  else if kind == kindDispatchResult then n == 9
  else if kind == kindSampleCall then n == 4
  else if kind == kindBleedHold || kind == kindSleepCall || kind == kindWakeCall then n == 0
  else if kind == kindBleedSet then n == 2
  else if kind == kindCoolantCommand then n == 19
  else if kind == kindContactorCommand then n == 1
  else if kind == kindManagementRequest then requestFits payload
  else if kind == kindManagementResponse then 2 ≤ n
  else if kind == kindNotice then n == 8
  else true

/-- Whether a frame received whole is malformed (R153). -/
def isMalformed (f : Frame) : Bool := !(payloadFits f.kind f.payload)

/-! ### Frames made -/

/-- A part-made DISPATCH (R92, R152). -/
def dispatchPayload (number : Nat) (p q : Int) (fr : Bool) (flags : LimitFlags) : List Byte :=
  put8 number ++ putSigned16 p ++ putSigned16 q ++ putFlag fr ++ put16 flags.word

def Scope.code : Scope → Nat
  | .all => 0
  | .string _ => 1
  | .module _ => 2

/-- The string or module index of a scope, 0 for ALL (R152). -/
def Scope.index : Scope → Nat
  | .all => 0
  | .string s => s
  | .module m => m

/-- A SAMPLE CALL (R8, R152). -/
def sampleCallPayload (tag : Nat) (quiet : Bool) (scope : Scope) : List Byte :=
  put8 tag ++ putFlag quiet ++ put8 scope.code ++ put8 scope.index

/-- A BLEED SET (R40, R152). -/
def bleedSetPayload (mask : List Nat) : List Byte := put16 (bitsOf mask)

/-- A COOLANT COMMAND (R125, R152). -/
def coolantCommandPayload (run : Bool) (valves : List Nat) (fan : Nat) : List Byte :=
  putFlag run ++ (valves.map put16).flatten ++ put16 fan

/-- The number of a reset cause (R166, R179). -/
def ResetCause.code : ResetCause → Nat
  | .powerOn => 0
  | .resetLine => 1
  | .restart => 2

/-- A CONTACTOR COMMAND (R30, R33, R152). -/
def contactorPayload (close : Bool) : List Byte := putFlag close

def GateState.code : GateState → Nat
  | .held => 0
  | .passing => 1
  | .failsafe => 2

/-- The payload of a DISPATCH RESULT (R94, R152). -/
def DispatchResult.payload (r : DispatchResult) : List Byte :=
  put8 r.number ++ putSigned16 r.pOut ++ putSigned16 r.qOut ++ put16 r.flags ++ put8 r.gate.code ++
    put8 (if r.queued then 0 else 1)

/-- The number of a notice kind: from 1 in the order of R172's table, then the five of R177 to R179 (R152). -/
def NoticeKind.code : NoticeKind → Nat
  | .cellHard => 1
  | .tempHard => 2
  | .connectionTripped => 3
  | .fire => 4
  | .fireReleasePending => 5
  | .fireReleased => 6
  | .contactorFail => 7
  | .gateHeld => 8
  | .pcsOvershoot => 9
  | .breakerFail => 10
  | .coolantLost => 11
  | .detectorFault => 12
  | .firePreAlarm => 13
  | .configFault => 14
  | .moduleStale => 15
  | .stringIsolated => 16
  | .contactorExternal => 17
  | .socUncalibrated => 18
  | .calibrationConflict => 19
  | .gateFailsafe => 20
  | .pcsFault => 21
  | .stageOperated => 22
  | .breakerExternal => 23
  | .coolantDegraded => 24
  | .zoneUnwatched => 25
  | .nodeSilent => 26
  | .usurpedKind => 27
  | .storeFailed => 28
  | .stringInService => 29
  | .calibrated => 30
  | .gatePassing => 31
  | .dispatchCorrected => 32
  | .rideThrough => 33
  | .connected => 34
  | .coolantOk => 35
  | .detectorRestored => 36
  | .zoneWatched => 37
  | .fireWatch => 38
  | .fireCleared => 39
  | .nodeLive => 40
  | .storeDone => 41
  | .started => 42
  | .supplyHoldup => 43
  | .supplyNormal => 44
  | .holdupLow => 45
  | .holdupRecovered => 46

/-- The payload of a NOTICE (R152). -/
def Notice.payload (n : Notice) : List Byte :=
  put8 n.kind.code ++ put8 n.rank ++ put8 (n.subject.getD 255) ++ put8 n.repeats ++ put32 n.first.toNat

end Sys2Proof.Machine
end

