-- ==== Sys2Proof/Machine/Envelope.lean ====
section
/-! DEFINITION. The Envelope Unit (R59 to R81): breakpoint tables, string limits, container factors, the limiting
cause, and the evaluation that rewrites the envelope record. -/

namespace Sys2Proof.Machine

/-! ### Breakpoint tables -/

/-- The value at `x` of the segments that begin at the breakpoint `(xi, yi)`, for `x ≥ xi` (R62). -/
def segmentsAt (x xi yi : Int) : List (Int × Int) → Int
  | [] => yi
  | (xj, yj) :: rest =>
    if x < xj then yi + ((yj - yi) * (x - xi)).tdiv (xj - xi) else segmentsAt x xj yj rest

/-- The value of a breakpoint table at `x` (R62). An empty table, which no load admits (R61), gives 0. -/
def Curve.at (c : Curve) (x : Int) : Int :=
  match c with
  | [] => 0
  | (x1, y1) :: rest => if x ≤ x1 then y1 else segmentsAt x x1 y1 rest

/-- Whether table `n`, 1 to 16, is config-faulted. -/
def State.isFaulted (s : State) (n : Nat) : Bool := s.config.faulted.getD (n - 1) false

/-- A table of T3 to T7 as it is evaluated: its default while it is config-faulted (R63). -/
def State.curve (s : State) (n : Nat) (working default : Curve) : Curve := if s.isFaulted n then default else working

/-- A derate table's factor at `x`. -/
def factorAt (c : Curve) (x : Int) : Nat := (c.at x).toNat

/-! ### String limits -/

/-- A string counts while it is in use and IN_SERVICE (R59). -/
def State.stringCounts (s : State) (i : Nat) : Bool :=
  (s.stringEntry i).inUse && (s.stringAt i).state == .inService

/-- The temperature factor of a table over a string's temperature range, 0 without readings (R64). -/
def temperatureFactor (c : Curve) (e : Extremes) : Nat :=
  match e.tMax, e.tMin with
  | some hi, some lo => min (factorAt c hi) (factorAt c lo)
  | _, _ => 0

/-- The SOC factor, capped at uncal_factor while the string is uncalibrated (R65). -/
def socFactor (c : Curve) (charge : ChargeRec) (uncalFactor : Nat) : Nat :=
  if charge.uncalibrated then min (factorAt c charge.soc) uncalFactor else factorAt c charge.soc

/-- Fv_chg (R66). -/
def voltageFactorChg (t : VoltageLimits) (e : Extremes) : Nat :=
  match e.vMax with
  | none => 0
  | some (v, _) =>
    if v ≤ t.maxWarn then 1024 else if t.maxHard ≤ v then 0 else 1024 * (t.maxHard - v) / (t.maxHard - t.maxWarn)

/-- Fv_dis (R66). -/
def voltageFactorDis (t : VoltageLimits) (e : Extremes) : Nat :=
  match e.vMin with
  | none => 0
  | some (v, _) =>
    if t.minWarn ≤ v then 1024 else if v ≤ t.minHard then 0 else 1024 * (v - t.minHard) / (t.minWarn - t.minHard)

/-- The per-string fields of the envelope record (R64 to R67). The voltage factors take the levels of the working T1 from
its load on, as R77 has an evaluation take up a loaded table, although R19 has a T1 load take effect at the next close
(DESIGN CHOICE, log 53). -/
def State.stringEnvelope (s : State) (i : Nat) : StringEnvelope :=
  if s.stringCounts i then
    let r := s.stringAt i
    let t := s.tables
    let ftChg := temperatureFactor (s.curve 3 t.t3 Curve.temperatureDefault) r.extremes
    let ftDis := temperatureFactor (s.curve 4 t.t4 Curve.temperatureDefault) r.extremes
    let fsocChg := socFactor (s.curve 5 t.t5 Curve.socDefault) r.charge s.params.uncalFactor
    let fsocDis := socFactor (s.curve 6 t.t6 Curve.socDefault) r.charge s.params.uncalFactor
    let fvChg := voltageFactorChg t.t1 r.extremes
    let fvDis := voltageFactorDis t.t1 r.extremes
    let fChg := min ftChg (min fsocChg fvChg)
    let fDis := min ftDis (min fsocDis fvDis)
    let rated := (s.stringEntry i).ratedKw
    ⟨true, ftChg, ftDis, fsocChg, fsocDis, fvChg, fvDis, fChg, fDis, rated * fChg / 1024, rated * fDis / 1024⟩
  else .zero

/-! ### Container factors -/

/-- Whether a line of the given function is debounced ACTIVE (R175). -/
def State.lineIsActive (s : State) (f : LineFunction) : Bool :=
  (List.range 8).any fun i => (s.lineEntry i).function == f && (s.lineAt i).state == .active

/-- F_GRID (R69). -/
def ConnState.gridFactor : ConnState → Nat
  | .connected | .rideThrough => 1024
  | .opening | .openWait | .openLocked | .reconnectTiming | .closing => 0

/-- Of a zone: in stage FIRE, RELEASE_DELAY or RELEASED (00_scope, "fire-confirmed"). -/
def FireStage.confirmed : FireStage → Bool
  | .fire | .releaseDelay | .released => true
  | .normal | .watch | .preAlarm => false

/-- A zone's contribution to F_FIRE (R70). -/
def zoneFactor (t : FireSettings) (z : FireZone) : Nat :=
  min
    (match z.stage with
      | .normal | .watch => 1024
      | .preAlarm => t.prealarmFactor
      | .fire | .releaseDelay | .released => 0)
    (if z.unwatched then t.unwatchedFactor else 1024)

/-- F_FIRE (R70). -/
def State.fireFactor (s : State) : Nat := s.fire.zones.foldl (fun f z => min f (zoneFactor s.tables.t13 z)) 1024

/-- F_COOLANT (R71). -/
def State.coolantFactor (s : State) : Nat :=
  match s.thermal.coolant with
  | .ok => 1024
  | .degraded => s.params.degradedFactor
  | .lost => s.params.lostFactor

/-- Whether any of T1 to T16 is config-faulted (R73). -/
def State.anyFault (s : State) : Bool := s.config.faulted.any id

/-- F_CELLS, F_CONFIG and F_ESTOP are 0 while their condition holds (R72 to R74). -/
def factorUnless (holds : Bool) : Nat := if holds then 0 else 1024

/-! ### The limiting cause -/

/-- The first container factor, in the fixed order, whose value equals Fc (R76). -/
def containerCause (e : EnvelopeRec) : ContainerFactor :=
  if e.fGrid == e.fc then .grid
  else if e.fFire == e.fc then .fire
  else if e.fCoolant == e.fc then .coolant
  else if e.fCells == e.fc then .cells
  else if e.fConfig == e.fc then .config
  else .eStop

/-- Of the candidates `(string, combined factor)`, the first with the lowest combined factor (R76). -/
def lowestFactor : List (Nat × Nat) → Option (Nat × Nat)
  | [] => none
  | c :: rest =>
    match lowestFactor rest with
    | none => some c
    | some d => if d.2 < c.2 then some d else some c

/-- Whether none of a string's four extremes is present (R76; log 11). -/
def Extremes.isAbsent (e : Extremes) : Bool :=
  e.vMax.isNone && e.vMin.isNone && e.tMax.isNone && e.tMin.isNone

/-- The cause STRING: the counting string below its rating with the lowest combined factor, and the factor that
equals it (R76). -/
def State.stringCause (s : State) (limit combined ft fsoc : Nat → Nat) (counts : Nat → Bool) : LimitCause :=
  let below := (List.range 4).filter fun i => counts i && decide (limit i < (s.stringEntry i).ratedKw)
  match lowestFactor (below.map fun i => (i, combined i)) with
  | none => .none
  | some (i, f) =>
    .string i
      (if (s.stringAt i).extremes.isAbsent then .noReadings
      else if ft i == f then .temperature
      else if fsoc i == f then .soc
      else .voltage)

/-- The cause of one direction's limit, by the first row of R76 that applies. -/
def limitCause (anyCounts : Bool) (limit rating scaled cap fc : Nat) (capCause : LimitCause)
    (container : ContainerFactor) (string : LimitCause) : LimitCause :=
  if !anyCounts then .noString
  else if limit == rating then .none
  else if cap < scaled then capCause
  else if fc < 1024 then .container container
  else string

/-! ### Evaluation -/

def sumOf (l : List StringEnvelope) (f : StringEnvelope → Nat) : Nat := l.foldl (fun a e => a + f e) 0

/-- The envelope record that an evaluation writes, its inputs as they stand (R64 to R77). -/
def State.evaluation (s : State) : EnvelopeRec :=
  let strings := (List.range 4).map s.stringEnvelope
  let string (i : Nat) : StringEnvelope := strings.getD i .zero
  let fGrid := s.conn.state.gridFactor
  let fFire := s.fireFactor
  let fCoolant := s.coolantFactor
  let fCells := factorUnless s.cellsHold
  let fConfig := factorUnless s.anyFault
  let fEstop := factorUnless (s.lineIsActive .eStop)
  let fc := min fGrid (min fFire (min fCoolant (min fCells (min fConfig fEstop))))
  let rating := (List.range 4).foldl (fun a i => if (string i).counts then a + (s.stringEntry i).ratedKw else a) 0
  let sumChg := sumOf strings (·.pChg)
  let sumDis := sumOf strings (·.pDis)
  let caps := s.tables.t9
  let pChg := min (sumChg * fc / 1024) caps.importCap
  let pDis := min (sumDis * fc / 1024) caps.exportCap
  let any := strings.any (·.counts)
  let limits : EnvelopeRec :=
    { pChgLim := pChg, pDisLim := pDis, fc, fGrid, fFire, fCoolant, fCells, fConfig, fEstop, strings
      ratingSum := rating, sumChg, sumDis, causeChg := .noString, causeDis := .noString
      number := (s.envelope.record.number + 1) % 65536, time := s.time }
  let counts (i : Nat) : Bool := (string i).counts
  { limits with
    causeChg := limitCause any pChg rating (sumChg * fc / 1024) caps.importCap fc .importCap (containerCause limits)
      (s.stringCause (fun i => (string i).pChg) (fun i => (string i).fChg) (fun i => (string i).ftChg)
        (fun i => (string i).fsocChg) counts)
    causeDis := limitCause any pDis rating (sumDis * fc / 1024) caps.exportCap fc .exportCap (containerCause limits)
      (s.stringCause (fun i => (string i).pDis) (fun i => (string i).fDis) (fun i => (string i).ftDis)
        (fun i => (string i).fsocDis) counts) }

/-- An evaluation replaces the whole record (R77). -/
def State.evaluate (s : State) : State := s.setEnvelope { s.envelope with record := s.evaluation }

end Sys2Proof.Machine
end

