-- ==== Sys2Proof/Machine/Gate.lean ====
section
/-! DEFINITION. The Dispatch Gate (R82 to R100): the making of dispatch frames, the corrective check, station
dispatches, station silence, PCS status and the overshoot check. -/

namespace Sys2Proof.Machine

/-! ### Making a dispatch frame -/

/-- Active and reactive power saturate to −4000…+4000 (R93, R98). -/
def saturatePower (x : Int) : Int := clampInt (-4000) 4000 x

/-- Whether frequency response applies (R87). -/
def State.frApplies (s : State) : Bool :=
  match s.gate.state with
  | .held => false
  | .passing => s.gate.frParticipation
  | .failsafe => s.params.failsafeFr

/-- The frequency-response term (R87). A frequency is available while the sample is not stale (R101). -/
def State.frTerm (s : State) : Int :=
  if s.frApplies && s.nodeStateOf .meter 0 == .live && !s.grid.stale then
    match s.grid.f with
    | some f =>
      (s.curve 7 s.tables.t7 Curve.frequencyDefault).at (clampInt (-5000) 5000 (f - s.params.fNom))
    | none => 0
  else 0

/-- The allowance A of the ramp (R89). -/
def State.rampAllowance (s : State) (rate : Nat) : Int :=
  if s.conn.state == .rideThrough then 0
  else
    let elapsed :=
      match s.gate.lastFrame with
      | some t => min (s.age t) 10000
      | none => 10000
    ((rate * elapsed / 1000 : Nat) : Int)

/-- The output moved from `prev` toward the clamped target `t` with allowance `a` (R89). -/
def ramped (prev t a : Int) : Int :=
  if t == 0 then 0
  else if prev.sign == t.sign then
    if t.natAbs ≤ prev.natAbs then t else prev + t.sign * min ((t.natAbs : Int) - prev.natAbs) a
  else t.sign * min (t.natAbs : Int) a

/-- Whether the connection carries reactive power: CONNECTED or RIDE_THROUGH (R90). -/
def ConnState.carries (c : ConnState) : Bool := c.gridFactor == 1024

/-- The types of dispatch frame (R91 to R96). -/
inductive FrameType where
  | station | autonomous | corrective | failsafe | initialZero
  deriving DecidableEq, Repr

/-- Corrective frames and the initial zero frame go into URGENT (R92). -/
def FrameType.urgent : FrameType → Bool
  | .corrective | .initialZero => true
  | .station | .autonomous | .failsafe => false

/-- The ramp rate of a frame type (R89). -/
def State.rampRate (s : State) (t : FrameType) : Nat :=
  match t with
  | .autonomous => s.params.frRamp
  | .station | .corrective | .failsafe | .initialZero => s.params.dispatchRamp

/-- What the making procedure computes: the outputs, the FR term used and the limit flags. -/
structure Making where
  p : Int
  q : Int
  fr : Int
  flags : LimitFlags
  deriving DecidableEq, Repr

/-- Target, clamp, ramp, reactive limit and HELD override, on the envelope record as it stands (R87 to R91). -/
def State.making (s : State) (type : FrameType) (pReq qReq : Int) : Making :=
  let env := s.envelope.record
  let fr := s.frTerm
  let target := pReq + fr
  let clamped := clampInt (-(env.pChgLim : Int)) env.pDisLim target
  let p := ramped s.gate.pPrev clamped (s.rampAllowance (s.rampRate type))
  let q := if s.conn.state.carries then clampInt (-(s.params.qMax : Int)) s.params.qMax qReq else 0
  let marks : LimitFlags :=
    { held := s.gate.state == .held
      failsafe := s.gate.state == .failsafe
      autonomous := type == .autonomous
      corrective := type == .corrective || type == .initialZero }
  if s.gate.state == .held then ⟨0, 0, fr, marks⟩
  else
    ⟨p, q, fr,
      { marks with
        clampDis := decide ((env.pDisLim : Int) < target)
        clampChg := decide (target < -(env.pChgLim : Int))
        ramp := p != clamped && s.conn.state != .rideThrough
        rideFreeze := p != clamped && s.conn.state == .rideThrough
        frAdded := fr != 0
        qClamp := q != qReq }⟩

/-- The gate record once a frame is made (R92). -/
def GateRec.made (g : GateRec) (m : Making) (now : PartTime) : GateRec :=
  { g with pPrev := m.p, qPrev := m.q, pFrApplied := m.fr, lastFrame := some now }

/-- The DISPATCH to the PCS at `address` that carries a making (R92). -/
def State.dispatchFrame (s : State) (address : Nat) (m : Making) : Placed :=
  s.ownFrame kindDispatch address (dispatchPayload s.gate.number m.p m.q false m.flags)

/-- Place a made frame and update the gate record if it is admitted (R92). -/
def State.placeDispatch (s : State) (type : FrameType) (address : Nat) (m : Making) : State :=
  let p := s.dispatchFrame address m
  if type.urgent then (s.placeUrgent p).setGate (s.gate.made m s.time)
  else if s.fieldPort.admits p then (s.placeNormal p).setGate (s.gate.made m s.time)
  else (s.placeNormal p).count fun c => { c with dispatchFramesLost := inc16 c.dispatchFramesLost }

/-- The address of the node table's PCS entry. -/
def State.pcsAddress (s : State) : Option Nat := s.addressOf .pcs 0

/-- Make a dispatch frame from the request in force (R87 to R92). The envelope is evaluated for it; without a PCS
entry no frame is made. -/
def State.makeFrame (s : State) (type : FrameType) : State :=
  let s := s.evaluate
  match s.pcsAddress with
  | none => s.count fun c => { c with dispatchUnaddressed := inc16 c.dispatchUnaddressed }
  | some a => s.placeDispatch type a (s.making type s.gate.pReqLast s.gate.qReqLast)

/-! ### The corrective check -/

/-- Whether a corrective frame is due after a change-group evaluation (R96). -/
def State.correctiveDue (s : State) : Bool :=
  decide ((s.envelope.record.pDisLim : Int) < s.gate.pPrev) || decide ((s.envelope.record.pChgLim : Int) < -s.gate.pPrev) ||
    (s.gate.qPrev != 0 && !s.conn.state.carries)

/-- Make a corrective frame; one made in PASSING or FAILSAFE raises DISPATCH_CORRECTED (R96). Without a PCS entry
none is made, and no notice is raised. -/
def State.correct (s : State) : State :=
  let s' := s.makeFrame .corrective
  if s.gate.state != .held && s.pcsAddress.isSome then s'.raise .dispatchCorrected none else s'

/-- A change-group evaluation, followed by the corrective check (R77, R79). -/
def State.changeEval (s : State) : State :=
  let s := s.evaluate
  if s.correctiveDue then s.correct else s

/-! ### Station frames, silence and the gate's states -/

/-- A valid station frame restarts the silence timer, and returns a FAILSAFE gate to PASSING (R85, R86). -/
def State.stationHeard (s : State) : State :=
  let timed := s.setGate { s.gate with silenceEnd := some (s.after (s.params.stationTimeout * 1000)) }
  if s.gate.state == .failsafe then
    (timed.setGate { timed.gate with state := .passing }).raise .gatePassing none
  else timed

/-- The gate enters HELD with cause ESTOP (R83). -/
def State.holdForEStop (s : State) : State :=
  if s.gate.state == .held then s.setGate { s.gate with heldCause := some .eStop }
  else
    let held := (s.setGate { s.gate with state := .held, heldCause := some .eStop }).raise .gateHeld none
    if s.gate.pPrev != 0 || s.gate.qPrev != 0 then held.correct else held

/-- A station DISPATCH (R93, R94). -/
def State.takeDispatch (s : State) (dest : Nat) (o : DispatchOrder) : State :=
  if s.pcsAddress == some dest then
    let s := (s.setGate { s.gate with
      pReqLast := saturatePower o.p, qReqLast := saturatePower o.q, frParticipation := o.fr
      number := o.number }).evaluate
    let m := s.making .station s.gate.pReqLast s.gate.qReqLast
    let queued := s.fieldPort.admits (s.dispatchFrame dest m)
    (s.placeDispatch .station dest m).placeResult ⟨o.number, m.p, m.q, m.flags.word, s.gate.state, queued⟩
  else s.count fun c => { c with dispatchMisdirected := inc16 c.dispatchMisdirected }

/-- The silence timer expires (R85). -/
def State.stationSilent (s : State) : State :=
  let s := s.setGate { s.gate with silenceEnd := none }
  if s.gate.state == .passing then
    ((s.setGate { s.gate with state := .failsafe, pReqLast := s.params.failsafeP, qReqLast := 0 }).raise
      .gateFailsafe none).makeFrame .failsafe
  else s

/-- An autonomous frame is made from a grid sample when the FR term has moved by fr_step or more (R95). -/
def State.gateSample (s : State) : State :=
  if s.frApplies && decide (s.params.frStep ≤ (s.frTerm - s.gate.pFrApplied).natAbs) then s.makeFrame .autonomous
  else s

/-! ### PCS status and overshoot -/

/-- Whether a PCS STATUS is in excess of the last order (R99). -/
def State.inExcess (s : State) (p : Int) : Bool := decide (s.gate.pPrev.natAbs + s.params.overshootTol < p.natAbs)

/-- A PCS STATUS is stored and applied to the overshoot check (R98, R99). The check compares the actual P as R98 saturates
and stores it (DEDUCED, log 64). -/
def State.takePcsStatus (s : State) (r : PcsStatus) : State :=
  let p := saturatePower r.p
  let stored := s.setGate { s.gate with lastPcs := some ⟨p, saturatePower r.q, r.state⟩ }
  let noticed :=
    if r.state == .fault && (s.gate.lastPcs.map (·.state)) != some .fault then stored.raise .pcsFault none
    else stored
  if s.inExcess p then
    if s.gate.overshootEnd.isNone && s.gate.overshootArmed then
      noticed.setGate { noticed.gate with overshootEnd := some (s.after s.params.overshootTime) }
    else noticed
  else noticed.setGate { noticed.gate with overshootEnd := none, overshootArmed := true }

/-- The PCS node becomes SILENT (R98). -/
def State.pcsSilent (s : State) : State := s.setGate { s.gate with overshootEnd := none }

end Sys2Proof.Machine
end

