-- ==== Sys2Proof/Machine/Connection.lean ====
section
/-! DEFINITION. The Connection Controller (R108 to R119): trips and lockouts, ride-through, breaker movements,
reconnection, and the adoption of the breaker after a reset. -/

namespace Sys2Proof.Machine

/-! ### What the conditions read -/

def State.stageEntry (s : State) (i : Nat) : StageEntry :=
  s.tables.t8.getD i ⟨false, .vMin, .under, 0, 0, 0, .trip⟩

/-- The stages, in index order, that are in use with action TRIP and stand in state `x`. -/
def State.tripStages (s : State) (x : StageState) : List Nat :=
  (List.range 8).filter fun i =>
    (s.stageEntry i).inUse && (s.stageEntry i).action == .trip && (s.stageAt i).state == x

def State.anyTripPickedUp (s : State) : Bool := !(s.tripStages .pickedUp).isEmpty

/-- Whether any zone is fire-confirmed. -/
def State.anyConfirmed (s : State) : Bool := s.fire.zones.any (·.stage.confirmed)

/-- Whether any zone is in PRE_ALARM or fire-confirmed (R115). -/
def State.anyPreAlarm (s : State) : Bool := s.fire.zones.any fun z => z.stage == .preAlarm || z.stage.confirmed

/-- The trip condition that stands, if any: the first of STAGE, ESTOP and METER_LOST (R114). A stage is named by
the lowest index (log 12). -/
def State.standingTrip (s : State) : Option TripCause :=
  match s.tripStages .operated with
  | i :: _ => some (.stage i)
  | [] =>
    if s.lineIsActive .eStop then some .eStop
    else if s.nodeStateOf .meter 0 == .silent then some .meterLost
    else none

/-! ### Changing the connection state -/

/-- A change of connection state causes an evaluation as part of the change (R77). -/
def State.connTo (s : State) (c : ConnState) : State := (s.setConn { s.conn with state := c }).changeEval

/-- TRIP_OUT is pulsed: a CLOSE_OUT pulse ends, and the breaker timer starts for open_timeout (R110, R112). -/
def State.pulseTrip (s : State) : State :=
  s.setConn { s.conn with
    closeOut := none
    tripOut := some (s.after s.tables.t9.tripPulse)
    breakerEnd := some (s.after s.tables.t9.openTimeout) }

/-- The closed state that the stages call for (R114, R116, R119). -/
def State.closedState (s : State) : ConnState := if s.anyTripPickedUp then .rideThrough else .connected

/-! ### Trips and lockouts -/

/-- The lockout a locking cause brings (R110). -/
def TripCause.lockout : TripCause → Lockout
  | .fire => .fire
  | .welded => .welded
  | .stage _ | .eStop | .pcsOvershoot | .meterLost | .disconnect | .external | .enforces _ => .none

def TripCause.locks (c : TripCause) : Bool := c.lockout != .none

/-- A lockout already held is kept, except that FIRE or WELDED replaces HISTORY (R110). -/
def Lockout.combine (held new : Lockout) : Lockout :=
  match held with
  | .none => new
  | .history => if new == .fire || new == .welded then new else .history
  | .fire | .welded | .breakerFail => held

/-- The lockout that BREAKER_FAIL leaves: FIRE and WELDED are kept (R112). -/
def Lockout.breakerFailed : Lockout → Lockout
  | .fire => .fire
  | .welded => .welded
  | .none | .breakerFail | .history => .breakerFail

/-- Take a lockout, and latch flag LOCKOUT (R110). -/
def State.lockOut (s : State) (l : Lockout) : State :=
  (s.setConn { s.conn with lockout := s.conn.lockout.combine l }).latch .lockout

/-- The entries younger than trip_window (R113). -/
def State.prunedHistory (s : State) : List Trip :=
  s.conn.history.filter fun t => decide (s.age t.time < s.tables.t9.tripWindow * 1000)

/-- The history gains an entry, after pruning, and trips increments (R110, R113, R114). -/
def State.recordTrip (s : State) (c : TripCause) : State :=
  (s.setConn { s.conn with history := s.prunedHistory ++ [⟨s.time, c⟩] }).count
    fun k => { k with trips := inc16 k.trips }

/-- Whether the history holds trip_limit entries or more. -/
def State.historyFull (s : State) : Bool := decide (s.tables.t9.tripLimit ≤ s.conn.history.length)

/-- The subject of CONNECTION_TRIPPED: the stage index for STAGE (R110). -/
def TripCause.subject : TripCause → Option Nat
  | .stage i => some i
  | .fire | .welded | .eStop | .pcsOvershoot | .meterLost | .disconnect | .external | .enforces _ => none

/-- Open the breaker for a cause, whatever the state was (R110). -/
def State.tripOpen (s : State) (c : TripCause) : State :=
  let s := s.recordTrip c
  let locked := c.locks || s.historyFull
  let s := if locked then s.lockOut (if c.locks then c.lockout else .history) else s
  let s := s.pulseTrip
  let s := s.setConn { s.conn with
    state := .opening, tripCause := some c, target := some (if locked then .openLocked else .openWait)
    reconnectEnd := none }
  (s.raise .connectionTripped c.subject).changeEval

/-- Stop the reconnect timer and return to OPEN_WAIT (R111, R115). -/
def State.stopReconnect (s : State) : State := (s.setConn { s.conn with reconnectEnd := none }).connTo .openWait

/-- A trip cause is handed to the Connection Controller (R110, R111). -/
def State.trip (s : State) (c : TripCause) : State :=
  match s.conn.state with
  | .connected | .rideThrough | .closing => s.tripOpen c
  | .opening =>
    if c.locks then
      (s.setConn { s.conn with target := some .openLocked }).lockOut c.lockout
    else s
  | .openWait => if c.locks then (s.lockOut c.lockout).connTo .openLocked else s
  | .reconnectTiming =>
    if c.locks then ((s.setConn { s.conn with reconnectEnd := none }).lockOut c.lockout).connTo .openLocked
    else s.stopReconnect
  | .openLocked =>
    if c.locks && s.conn.lockout == .history then s.setConn { s.conn with lockout := c.lockout } else s

/-! ### Riding through -/

/-- The Connection Controller follows the TRIP stages (R109). -/
def State.followStages (s : State) : State :=
  match s.conn.state with
  | .connected =>
    if s.anyTripPickedUp && (s.tripStages .operated).isEmpty then
      (((s.setConn { s.conn with state := .rideThrough }).count
        fun c => { c with rideThroughs := inc16 c.rideThroughs }).raise .rideThrough none).changeEval
    else s
  | .rideThrough => if s.anyTripPickedUp then s else s.connTo .connected
  | .openLocked | .openWait | .reconnectTiming | .closing | .opening => s

/-- A closed breaker is taken up: CONNECTED, or RIDE_THROUGH, which counts as an entry to it (R108, R114, R116). -/
def State.takeClosed (s : State) : State :=
  let s :=
    if s.anyTripPickedUp then s.count fun c => { c with rideThroughs := inc16 c.rideThroughs } else s
  s.connTo s.closedState

/-! ### Reconnection -/

/-- The window condition, for the latest sample (R115). -/
def State.inWindow (s : State) : Bool :=
  match s.grid.vMin, s.grid.vMax, s.grid.f with
  | some lo, some hi, some f =>
    let t := s.tables.t9
    decide (t.vWindowLow ≤ lo) && decide (hi ≤ t.vWindowHigh) && decide ((t.fWindowLow : Int) ≤ f) &&
      decide (f ≤ t.fWindowHigh)
  | _, _, _ => false

/-- The reconnection conditions but for the window (R115). -/
def State.reconnectAllowed (s : State) : Bool :=
  (s.conn.request == .connect || (s.conn.request == .none && s.tables.t9.autoReconnect)) &&
  s.nodeStateOf .meter 0 == .live &&
  !(s.lineIsActive .eStop) &&
  !s.anyPreAlarm &&
  !s.anyTripPickedUp && (s.tripStages .operated).isEmpty &&
  s.conn.feedback == .isOpen &&
  s.conn.startAdopted

/-- The reconnection conditions are tested at a sample taken (R115). -/
def State.reconnectSample (s : State) : State :=
  let holds := s.reconnectAllowed && s.inWindow
  match s.conn.state with
  | .openWait =>
    if holds then
      (s.setConn { s.conn with reconnectEnd := some (s.after (s.tables.t9.reconnectTime * 1000)) }).connTo
        .reconnectTiming
    else s
  | .reconnectTiming => if holds then s else s.stopReconnect
  | .openLocked | .closing | .connected | .rideThrough | .opening => s

/-- A condition other than the window is watched at the event that changes it (R115). -/
def State.watchReconnect (s : State) : State :=
  if s.conn.state == .reconnectTiming && !s.reconnectAllowed then s.stopReconnect else s

/-- The reconnect timer expires: CLOSE_OUT is pulsed and the breaker timer starts (R115). -/
def State.beginClose (s : State) : State :=
  (s.setConn { s.conn with
    reconnectEnd := none
    tripOut := none
    closeOut := some (s.after s.tables.t9.closePulse)
    breakerEnd := some (s.after s.tables.t9.closeTimeout) }).connTo .closing

/-! ### Breaker movements -/

/-- TRIP_OUT is pulsed against a closed breaker, with no history entry (R114, R119). -/
def State.enforceOpen (s : State) : State :=
  let cause : TripCause := if s.anyConfirmed then .fire else .enforces s.conn.lockout
  let s := s.pulseTrip
  (s.setConn { s.conn with tripCause := some cause, target := some .openLocked }).connTo .opening

/-- A breaker found closed in an open state (R114, R119); `byHand` says that it closed without command, which is
noticed when the close is taken up. -/
def State.foundClosed (s : State) (byHand : Bool) : State :=
  let s := s.setConn { s.conn with reconnectEnd := none }
  if s.conn.lockout != .none || s.anyConfirmed then s.enforceOpen
  else
    match s.standingTrip with
    | some c => s.tripOpen c
    | none => (if byHand then s.raise .breakerExternal none else s).takeClosed

/-- The breaker has opened without command (R114). -/
def State.externalOpen (s : State) : State :=
  let s := s.recordTrip .external
  let full := s.historyFull
  let s := if full then s.lockOut .history else s
  (s.raise .connectionTripped none).connTo (if full then .openLocked else .openWait)

/-- The breaker has opened in OPENING: the state becomes the target (R112). -/
def State.openedAsTold (s : State) : State :=
  let target : ConnState := if s.conn.target == some .openLocked then .openLocked else .openWait
  (s.setConn { s.conn with breakerEnd := none, tripCause := none, target := none }).connTo target

/-- The breaker has closed in CLOSING (R116). -/
def State.closedAsTold (s : State) : State :=
  let request : ConnectRequest := if s.conn.request == .connect then .none else s.conn.request
  ((s.setConn { s.conn with breakerEnd := none, request }).raise .connected none).takeClosed

/-- A change of the debounced breaker feedback, once start adopted is yes (R112, R114, R116). -/
def State.breakerMoved (s : State) (closed : Bool) : State :=
  let s := s.setConn { s.conn with feedback := if closed then .closed else .isOpen }
  match s.conn.state with
  | .connected | .rideThrough => if closed then s else s.externalOpen
  | .opening => if closed then s.pulseTrip else s.openedAsTold
  | .closing => if closed then s.closedAsTold else s
  | .openWait | .reconnectTiming | .openLocked => if closed then s.foundClosed true else s

/-- The breaker's position is adopted (R119). -/
def State.adoptBreaker (s : State) (closed : Bool) : State :=
  let s := s.setConn { s.conn with feedback := if closed then .closed else .isOpen, startAdopted := true }
  if closed then s.foundClosed false else s

/-- The breaker timer expires in OPENING (R112). -/
def State.openTimedOut (s : State) : State :=
  let s := (s.latch .breakerFail).raise .breakerFail none
  let s := (s.setConn { s.conn with
    breakerEnd := none, lockout := s.conn.lockout.breakerFailed, tripCause := none, target := none }).latch .lockout
  s.connTo .openLocked

/-- The breaker timer expires in CLOSING (R116). TRIP_OUT is pulsed, and the breaker timer stands stopped. -/
def State.closeTimedOut (s : State) : State :=
  let s := (s.latch .breakerFail).raise .breakerFail none
  let s := (s.setConn { s.conn with
    closeOut := none, tripOut := some (s.after s.tables.t9.tripPulse), breakerEnd := none
    lockout := .breakerFail }).latch .lockout
  s.connTo .openLocked

/-! ### Requests -/

/-- DISCONNECT (R117). -/
def State.disconnect (s : State) : State :=
  let s := s.setConn { s.conn with request := .disconnect }
  match s.conn.state with
  | .connected | .rideThrough | .closing => s.trip .disconnect
  | .reconnectTiming => s.stopReconnect
  | .openLocked | .openWait | .opening => s

/-- A taken RESET LOCKOUT (R118). -/
def State.resetLockout (s : State) : State :=
  let s := s.setConn { s.conn with history := [], lockout := .none }
  match s.conn.state with
  | .openLocked => s.connTo .openWait
  | .opening => s.setConn { s.conn with target := some .openWait }
  | .openWait | .reconnectTiming | .closing | .connected | .rideThrough => s

/-- A taken T9 load whose trip_limit is at or below the number of entries held truncates the history to its newest
(trip_limit − 1) entries (R113). -/
def State.truncateHistory (s : State) : State :=
  if s.historyFull then
    s.setConn { s.conn with history := s.conn.history.drop (s.conn.history.length - (s.tables.t9.tripLimit - 1)) }
  else s

end Sys2Proof.Machine
end

