-- ==== Sys2Proof/Machine/Grid.lean ====
section
/-! DEFINITION. The Grid Monitor (R101 to R107): grid samples, ROCOF, and the protection stages. -/

namespace Sys2Proof.Machine

/-! ### Samples -/

inductive SampleClass where
  | first | duplicate | inStep | gap
  deriving DecidableEq, Repr

/-- The distance of a sequence number past another, modulo 256. -/
def seqDistance (seq last : Nat) : Nat := (seq + 256 - last % 256) % 256

/-- The class of a grid sample by its sequence (R102). -/
def classifySample (last : Option Nat) (seq : Nat) : SampleClass :=
  match last with
  | none => .first
  | some l =>
    let d := seqDistance seq l
    if d == 0 then .duplicate else if d == 1 then .inStep else .gap

/-- The last `n` entries of a list. -/
def lastEntries {α : Type} (n : Nat) (l : List α) : List α := l.drop (l.length - n)

/-- ROCOF from the present frequency and the history, newest last (R103). -/
def rocofOf (history : List Int) (f : Int) (window interval : Nat) : Option Int :=
  if window ≤ history.length then
    (history[history.length - window]?).map fun back => ((f - back) * 1000).tdiv (window * interval)
  else none

/-- The frequency history once a sample is taken: emptied by a FIRST or GAP sample and by the first sample after the
meter has been SILENT, which `stale` shows (R102). -/
def historyAfter (g : GridRec) (c : SampleClass) : List Int :=
  match c, g.stale, g.f with
  | .inStep, false, some f => lastEntries 10 (g.history ++ [f])
  | _, _, _ => []

/-- The latest-sample record once a sample is taken (R102, R103). -/
def GridRec.take (g : GridRec) (p : Params) (now : PartTime) (c : SampleClass) (x : GridSample) : GridRec :=
  let a := capNat 2000 x.vA
  let b := capNat 2000 x.vB
  let d := capNat 2000 x.vC
  let f : Int := clampInt 40000 70000 x.f
  let history := historyAfter g c
  { g with
    lastSeq := some x.seq, vA := some a, vB := some b, vC := some d
    vMin := some (min a (min b d)), vMax := some (max a (max b d))
    f := some f, arrival := some now, stale := false, history
    rocof := rocofOf history f p.rocofWindow p.gridSampleInterval }

/-! ### Protection stages -/

/-- The value of a stage's quantity, if it is available (R104, R105). -/
def GridRec.value (g : GridRec) (q : Quantity) : Option Int :=
  if g.stale then none
  else
    match q with
    | .vMin => g.vMin.map fun v => (v : Int)
    | .vMax => g.vMax.map fun v => (v : Int)
    | .freq => g.f
    | .rocof => g.rocof.map fun r => (r.natAbs : Int)

def StageEntry.beyondTrip (e : StageEntry) (x : Int) : Bool :=
  match e.direction with
  | .under => decide (x < e.trip)
  | .over => decide ((e.trip : Int) < x)

def StageEntry.pastRestore (e : StageEntry) (x : Int) : Bool :=
  match e.direction with
  | .under => decide ((e.restore : Int) ≤ x)
  | .over => decide (x ≤ e.restore)

/-- A stage's record after it is evaluated against `x` (R105). -/
def StageRec.evaluated (r : StageRec) (e : StageEntry) (x : Int) (now : PartTime) : StageRec :=
  match r.state with
  | .clear =>
    if e.beyondTrip x then
      if e.delay == 0 then ⟨.operated, none, some now⟩
      else ⟨.pickedUp, some (now + BitVec.ofNat 32 e.delay), some now⟩
    else r
  | .pickedUp | .operated => if e.pastRestore x then .atReset else r

/-- One stage evaluated at a sample taken; one not in use, or whose quantity is unavailable, holds its record (R105). -/
def State.evaluateStage (i : Nat) (s : State) : State :=
  let e := s.stageEntry i
  match e.inUse, s.grid.value e.quantity with
  | true, some x => s.modStage i fun r => r.evaluated e x s.time
  | _, _ => s

/-- What an OPERATED stage does: a trip cause, or the notice STAGE_OPERATED (R106). -/
def State.stageActs (i : Nat) (s : State) : State :=
  match (s.stageEntry i).action with
  | .trip => s.trip (.stage i)
  | .notify => s.raise .stageOperated (some i)

/-- The stages are evaluated in index order. Their operations are then acted on, and the Connection Controller
follows what is left (R105, R109). Of several TRIP stages of delay 0 that become OPERATED at one sample, the lowest is
taken first, and is the trip cause that is recorded (DEDUCED, log 61). -/
def State.evaluateStages (s : State) : State :=
  let s' := s.forEach (List.range 8) State.evaluateStage
  let operated := (List.range 8).filter fun i =>
    (s'.stageAt i).state == .operated && (s.stageAt i).state != .operated
  (s'.forEach operated State.stageActs).followStages

/-- A taken sample is handed on: to the stages and the Gate, in the order of `gateIsFirst`, and to the reconnection
check after the stages (R102, R115). -/
def State.handSample (s : State) (gateIsFirst : Bool) : State :=
  if gateIsFirst then s.gateSample.evaluateStages.reconnectSample
  else s.evaluateStages.gateSample.reconnectSample

/-- A GRID SAMPLE from the meter (R102). -/
def State.gridSampleWith (s : State) (x : GridSample) (gateIsFirst : Bool) : State :=
  match classifySample s.grid.lastSeq x.seq with
  | .duplicate => s.count fun c => { c with gridDuplicates := inc16 c.gridDuplicates }
  | .gap =>
    ((s.count fun c => { c with gridGaps := inc16 c.gridGaps }).setGrid
      (s.grid.take s.params s.time .gap x)).handSample gateIsFirst
  | c => (s.setGrid (s.grid.take s.params s.time c x)).handSample gateIsFirst

/-- The order is free, and each taking of it is a fresh choice (log 4). -/
def State.chooseGate (s : State) (f : State → Bool → State) : State :=
  f (s.setChoices (s.choices + 1)) (Config.gateFirst s.choices)

def State.takeGridSample (s : State) (x : GridSample) : State := s.chooseGate fun s b => s.gridSampleWith x b

/-- A PICKED_UP stage whose delay timer expires becomes OPERATED and acts (R106). -/
def State.stageDelayOver (s : State) (i : Nat) : State :=
  (s.modStage i fun r => { r with state := .operated, timer := none }).stageActs i

/-- The meter's node becomes SILENT: the record is stale, ROCOF is unavailable, and the connection has a trip cause
(R103, R110, R156). The frequency and the voltages stay as they stood. -/
def State.meterSilent (s : State) : State := (s.setGrid { s.grid with stale := true }).trip .meterLost

/-- A taken T8 load returns stage records to CLEAR, and the Connection Controller follows (R107, R109). -/
def State.clearStages (s : State) (stages : List Nat) : State :=
  (s.forEach stages fun i s => s.modStage i fun _ => .atReset).followStages

end Sys2Proof.Machine
end

