-- ==== Sys2Proof/Machine/Charge.lean ====
section
/-! DEFINITION. The Charge Counter (R43 to R58): classifying a string report, counting samples, the gain trim, the
state of charge and calibration. -/

namespace Sys2Proof.Machine

/-! ### Counting -/

/-- The record with a new Q, saturated to 0…Q_cap; a saturation advances the overrange count, and the SOC follows
(R47 to R49). -/
def ChargeRec.withQ (r : ChargeRec) (q : Int) : ChargeRec :=
  let held := (clampInt 0 r.qCap q).toNat
  { r with
    q := held
    soc := socOf held r.qCap
    overrange := if (held : Int) == q then r.overrange else inc16 r.overrange }

/-- The gain trim of a full batch (R48). -/
def ChargeRec.trimmed (r : ChargeRec) (trim : Int) : ChargeRec :=
  let t := r.batchSum * trim + r.residue
  let correction := t.tdiv 65536
  { r.withQ (r.q - correction) with residue := t - correction * 65536, batchSum := 0, batchCount := 0 }

/-- One sample counted, filled or real (R47). -/
def ChargeRec.sample (r : ChargeRec) (current : Int) (interval : Nat) (trim : Int) : ChargeRec :=
  let c := current * interval
  let counted : ChargeRec := { r.withQ (r.q - c) with batchSum := r.batchSum + c, batchCount := r.batchCount + 1 }
  if 16 ≤ counted.batchCount then counted.trimmed trim else counted

/-- `n` filled samples, one after another (R45). -/
def ChargeRec.fill (r : ChargeRec) (current : Int) (interval : Nat) (trim : Int) : Nat → ChargeRec
  | 0 => r
  | n + 1 =>
    let f := r.sample current interval trim
    ChargeRec.fill { f with filled := inc16 f.filled } current interval trim n

/-! ### Reports -/

inductive ReportClass where
  | first | duplicate
  | inStep (d : Nat)
  | gap
  deriving DecidableEq, Repr

/-- The class of a string report (R44). `age` is absent with the last counted time. -/
def classifyReport (last : Option Nat) (age : Option Nat) (seq interval : Nat) : ReportClass :=
  match last with
  | none => .first
  | some l =>
    let d := seqDistance seq l
    if d == 0 then .duplicate
    else if d ≤ 17 && (age.getD 0) < 128 * interval then .inStep d
    else .gap

/-- What ties the record to the report just counted (R44). -/
def ChargeRec.tied (r : ChargeRec) (x : StringReport) (now : PartTime) : ChargeRec :=
  { r with lastSeq := some x.seq, lastCurrent := some x.current, lastTime := some now }

/-- The gain trim of string `i`. -/
def State.trimOf (s : State) (i : Nat) : Int := s.params.trims.getD i 0

/-- SOC_UNCALIBRATED is set, with its notice when it was clear (R54). -/
def State.uncalibrate (s : State) (i : Nat) : State :=
  if (s.stringAt i).charge.uncalibrated then s
  else (s.modCharge i fun r => { r with uncalibrated := true }).raise .socUncalibrated (some i)

/-- The Charge Counter's work on one report (R44 to R46). -/
def State.countReport (s : State) (i : Nat) (x : StringReport) : State :=
  let r := (s.stringAt i).charge
  let ts := s.params.sampleInterval
  let trim := s.trimOf i
  match classifyReport r.lastSeq (r.lastTime.map s.age) x.seq ts with
  | .duplicate => s
  | .first => s.modCharge i fun r => (r.sample x.current ts trim).tied x s.time
  | .inStep d =>
    s.modCharge i fun r =>
      ((r.fill (r.lastCurrent.getD 0) ts trim (d - 1)).sample x.current ts trim).tied x s.time
  | .gap =>
    (s.modCharge i fun r =>
      let c := (r.sample x.current ts trim).tied x s.time
      { c with gaps := inc16 c.gaps }).uncalibrate i

/-! ### Calibration -/

/-- A string's quiet extremes over the modules of the quiet-valid set, and whether that set holds them all (R50). -/
structure QuietExtremes where
  vMax : Nat
  vMin : Nat
  whole : Bool
  deriving DecidableEq, Repr

/-- full_rearm as calibration uses it (R50). -/
def Params.fullRearmUsed (p : Params) : Int := min p.fullRearm (p.fullLevel - 1)

/-- empty_rearm as calibration uses it (R50). -/
def Params.emptyRearmUsed (p : Params) : Int := max p.emptyRearm (p.emptyLevel + 1)

/-- A calibration taken, FULL or EMPTY (R52, R53). -/
def ChargeRec.calibrated (r : ChargeRec) (full : Bool) (now : PartTime) : ChargeRec :=
  let q := if full then r.qCap else 0
  { r with
    lastCalibration := some ⟨full, now, r.q⟩
    q
    soc := socOf q r.qCap
    fullArmed := if full then false else r.fullArmed
    emptyArmed := if full then r.emptyArmed else false
    uncalibrated := false }

/-- Re-arming of both latches (R52, R53). -/
def ChargeRec.rearmed (r : ChargeRec) (p : Params) (x : QuietExtremes) : ChargeRec :=
  { r with
    fullArmed := r.fullArmed || (x.whole && decide ((x.vMax : Int) ≤ p.fullRearmUsed))
    emptyArmed := r.emptyArmed || (x.whole && decide (p.emptyRearmUsed ≤ x.vMin)) }

/-- Calibration is evaluated for a string at a close (R51). -/
def State.calibrate (s : State) (i : Nat) (x : QuietExtremes) : State :=
  let r := (s.stringAt i).charge
  let full := r.fullArmed && decide (s.params.fullLevel ≤ x.vMax)
  let empty := r.emptyArmed && decide ((x.vMin : Int) ≤ s.params.emptyLevel)
  let s' :=
    match full, empty with
    | true, true => s.raise .calibrationConflict (some i)
    | true, false => (s.modCharge i fun r => r.calibrated true s.time).raise .calibrated (some i)
    | false, true => (s.modCharge i fun r => r.calibrated false s.time).raise .calibrated (some i)
    | false, false => s
  s'.modCharge i fun r => r.rearmed s.params x

/-! ### Capacity and resets -/

/-- A capacity change by a T10 load: Q is clamped to the new Q_cap, and the SOC recomputed (R56). -/
def ChargeRec.recapped (r : ChargeRec) (capacityAh : Nat) : ChargeRec :=
  let cap := chargeCap capacityAh
  { r with qCap := cap, q := min r.q cap, soc := socOf (min r.q cap) cap }

/-- A charge record after a RESET_LINE or RESTART (R57). -/
def ChargeRec.retained (r : ChargeRec) (capacityAh : Nat) : ChargeRec :=
  let c := r.recapped capacityAh
  { c with
    uncalibrated := r.uncalibrated || decide (chargeCap capacityAh < r.q)
    lastSeq := none, lastCurrent := none, lastTime := none
    overrange := 0, filled := 0, gaps := 0 }

end Sys2Proof.Machine
end

