-- ==== Sys2Proof/Machine/Strings.lean ====
section
/-! DEFINITION. Strings and their contactors, and the bleed masks (R18, R28 to R36, R40, R41). -/

namespace Sys2Proof.Machine

/-! ### Modules and cells in use (R18) -/

/-- The string a module index belongs to. -/
def stringOf (m : Nat) : Nat := m / 12

/-- A module slot is in use when its string is and its position is below modules_per_string (R18). -/
def State.moduleInUse (s : State) (m : Nat) : Bool :=
  (s.stringEntry (stringOf m)).inUse && decide (m % 12 < (s.stringEntry (stringOf m)).modules)

/-- The in-use module slots of a string, in order. -/
def State.modulesOf (s : State) (i : Nat) : List Nat :=
  ((List.range 12).map (12 * i + ·)).filter s.moduleInUse

/-- Every in-use module slot, in order. -/
def State.modulesInUse (s : State) : List Nat := (List.range 48).filter s.moduleInUse

/-- The cell records of a module's in-use positions, with those positions. -/
def State.cellsOf (s : State) (m : Nat) : List (Nat × CellRec) :=
  ((List.range 16).zip (s.moduleAt m).cells).take (s.stringEntry (stringOf m)).cells

/-- The greatest of the temperatures, absent when there is none (R21). -/
def maxTemp (temps : List Int) : Option Int := temps.max?

def minTemp (temps : List Int) : Option Int := temps.min?

/-! ### Bleed frames and masks (R40, R41) -/

/-- Place a BLEED SET with a module's present mask. A refusal sets bleed resend and an admission clears it; without a
monitor none is made (R40). -/
def State.placeBleedSet (m : Nat) (s : State) : State :=
  match s.addressOf .moduleMonitor m with
  | none => s
  | some a =>
    let p := s.ownFrame kindBleedSet a (bleedSetPayload (s.moduleAt m).mask)
    let placed := (s.placeNormal p).modModule m fun r => { r with resend := !(s.fieldPort.admits p) }
    if s.fieldPort.admits p then placed
    else placed.count fun c => { c with bleedFramesLost := inc16 c.bleedFramesLost }

/-- One module at a clearing: its mask is emptied if it is among `cleared`, and a BLEED SET is placed when that
emptied it or when its bleed resend is set (R40, R41). -/
def State.clearMask (cleared : List Nat) (m : Nat) (s : State) : State :=
  let r := s.moduleAt m
  if cleared.contains m && !r.mask.isEmpty then
    (s.modModule m fun r => { r with mask := [] }).placeBleedSet m
  else if r.resend then s.placeBleedSet m
  else s

/-- A clearing of the masks of the given modules (R41), whose BLEED SETs are placed in index order (log 63). -/
def State.clearMasks (s : State) (cleared : List Nat) : State :=
  s.forEach (List.range 48) (State.clearMask cleared)

def State.clearAllMasks (s : State) : State := s.clearMasks (List.range 48)

/-- Every slot of a string. -/
def slotsOf (i : Nat) : List Nat := (List.range 12).map (12 * i + ·)

def State.clearStringMasks (s : State) (i : Nat) : State := s.clearMasks (slotsOf i)

/-! ### Changes of a string's state -/

/-- Whether a change of state clears the string's masks (R41). -/
def clearsMasks (old new : StringState) : Bool :=
  (old == .inService || old == .isolated) &&
    (new == .isolating || new == .lockedOut || new == .welded || new == .restoring)

/-- What a change from state `old` brings: the masks, the evaluation, and at an entry to WELDED the trip
(R36, R41). -/
def State.stringMoved (s : State) (i : Nat) (old : StringState) : State :=
  let new := (s.stringAt i).state
  let s := if clearsMasks old new then s.clearStringMasks i else s
  let s := s.changeEval
  if new == .welded then s.trip .welded else s

/-- Place a CONTACTOR COMMAND to a string's monitor in URGENT; without a monitor it is counted (R30). -/
def State.contactorCommand (s : State) (i : Nat) (close : Bool) : State :=
  match s.addressOf .stringMonitor i with
  | none => s.count fun c => { c with contactorUnaddressed := inc16 c.contactorUnaddressed }
  | some a => s.placeUrgent (s.ownFrame kindContactorCommand a (contactorPayload close))

/-- The end of a contactor operation begun now (R18). -/
def State.contactorEnd (s : State) : PartTime := s.after s.tables.t10.contactorTime

/-- CONTACTOR OPEN placed, ISOLATING with the cause, contactor timer started (R30). -/
def State.isolate (s : State) (i : Nat) (cause : Option IsolationCause) (notice : Option NoticeKind) : State :=
  let old := (s.stringAt i).state
  let s := s.contactorCommand i false
  let ends := s.contactorEnd
  let s := s.modString i fun r =>
    { r with state := .isolating, cause, pendingCause := none, timer := some ends }
  let s :=
    match notice with
    | some k => s.raise k (some i)
    | none => s
  s.stringMoved i old

def IsolationCause.locks : IsolationCause → Bool
  | .cellHard | .tempHard | .fire => true
  | .moduleStale | .monitorSilent | .eStop | .request | .start | .external => false

/-- A recorded cause that locks. -/
def locking (c : Option IsolationCause) : Option IsolationCause := c.filter IsolationCause.locks

/-- An isolation cause is raised for a string (R30). In AWAITING a locking cause replaces a non-locking one, and leaves a
locking one that is already pending: DEDUCED, log 60. -/
def State.raiseCause (s : State) (i : Nat) (c : IsolationCause) : State :=
  let r := s.stringAt i
  match r.state with
  | .awaiting =>
    if r.pendingCause.isNone || (c.locks && (locking r.pendingCause).isNone) then
      s.modString i fun r => { r with pendingCause := some c }
    else s
  | .inService | .restoring => s.isolate i (some c) none
  | .isolating =>
    if c.locks && (locking r.cause).isNone then s.modString i fun r => { r with cause := some c } else s
  | .isolated =>
    if c.locks then
      (s.modString i fun r => { r with state := .lockedOut, cause := some c, retained := .locked c }).stringMoved i
        .isolated
    else s
  | .lockedOut | .welded => s

/-- The string monitor's node becomes SILENT: MONITOR_SILENT is raised, and a CONTACTOR OPEN is placed in every state
but AWAITING (R30; placed once, log 13; of a string not in use too: DEDUCED, log 40). -/
def State.monitorSilent (s : State) (i : Nat) : State :=
  match (s.stringAt i).state with
  | .awaiting | .inService | .restoring => s.raiseCause i .monitorSilent
  | .isolating | .isolated | .lockedOut | .welded => (s.contactorCommand i false).raiseCause i .monitorSilent

/-! ### Conditions of R29 -/

/-- Whether a cell counts against its string: a hard count at the hard_persist in effect, or a hard band in a FRESH
module (R19, R29; log 48). -/
def State.cellHardCondition (s : State) (i : Nat) : Bool :=
  (s.modulesOf i).any fun m =>
    (s.cellsOf m).any fun (_, c) =>
      decide (s.limits.t1.hardPersist ≤ c.hardCount) ||
        ((s.moduleAt m).quality == .fresh && (c.band == .lowHard || c.band == .highHard))

/-- Whether a FRESH module of the string is at or above the T_max_hard in effect (R19, R29; log 48). -/
def State.tempHardCondition (s : State) (i : Nat) : Bool :=
  (s.modulesOf i).any fun m =>
    (s.moduleAt m).quality == .fresh &&
      (match maxTemp (s.moduleAt m).temps with
      | some t => decide (s.limits.t2.tMaxHard ≤ t)
      | none => false)

/-- The stale condition of a string, found with the miss_limit, the cells and the modules in use as they stand: at a
close, and for a RESTORE STRING between closes (R26; DESIGN CHOICE, log 52). -/
def State.staleCondition (s : State) (i : Nat) : Bool :=
  (s.modulesOf i).any fun m =>
    match (s.moduleAt m).quality with
    | .stale => true
    | .fresh => (s.cellsOf m).any fun (_, c) => decide (s.params.missLimit ≤ c.absentRun)
    | .never => false

/-- Whether a condition holds that keeps a string from service, other than those a RESTORE STRING ends (R29). It is found
anew at the request, with the stale_policy of the working T10, where R26 finds the stale condition at each close and has
a changed policy take effect at the next (DESIGN CHOICE, log 52). -/
def State.causePresent (s : State) (i : Nat) : Bool :=
  s.cellHardCondition i || s.tempHardCondition i || s.anyConfirmed ||
    (s.staleCondition i && (s.stringEntry i).stalePolicy == .string) ||
    s.nodeStateOf .stringMonitor i != .live || s.lineIsActive .eStop

/-! ### Feedback -/

/-- The flag that a retained condition latches again at the first report (R36). -/
def State.latchRetained (s : State) (r : Retained) : State :=
  match r with
  | .welded => s.latch .contactorFail
  | .locked .cellHard => s.latch .cellHard
  | .locked .tempHard => s.latch .tempHard
  | .locked _ | .none => s

/-- The cause a retained LOCKED condition holds. -/
def Retained.cause : Retained → Option IsolationCause
  | .locked c => Option.some c
  | .none | .welded => Option.none

/-- A string leaves AWAITING (R31). The locking cause of LOCKED_OUT is the retained one, else the pending one if it
locks, else FIRE (log 14). -/
def State.leaveAwaiting (s : State) (i : Nat) (closed : Bool) : State :=
  let r := s.stringAt i
  let s := s.latchRetained r.retained
  let confirmed := s.anyConfirmed
  if closed then
    if r.retained == .welded then s.isolate i (some .start) none
    else
      match r.retained.cause.or ((if confirmed then some .fire else none).or r.pendingCause) with
      | some c => s.isolate i (some c) none
      | none =>
        (s.modString i fun r => { r with state := .inService, cause := none, pendingCause := none }).stringMoved i
          .awaiting
  else if r.retained == .welded then
    (s.modString i fun r => { r with state := .welded, pendingCause := none }).stringMoved i .awaiting
  else
    match r.retained.cause.or ((locking r.pendingCause).or (if confirmed then some .fire else none)) with
    | some c =>
      (s.modString i fun r =>
        { r with state := .lockedOut, cause := some c, pendingCause := none, retained := .locked c }).stringMoved i
          .awaiting
    | none =>
      (s.modString i fun r =>
        { r with state := .isolated, cause := some .start, pendingCause := none }).stringMoved i .awaiting

/-- Feedback OPEN in ISOLATING (R32). -/
def State.contactorOpened (s : State) (i : Nat) : State :=
  let s := s.modString i fun r =>
    if r.retained == .welded then { r with state := .welded, timer := none }
    else
      match locking r.cause with
      | some c => { r with state := .lockedOut, timer := none, retained := .locked c }
      | none => { r with state := .isolated, timer := none }
  (s.raise .stringIsolated (some i)).stringMoved i .isolating

/-- A string's contactor feedback is acted on (R31 to R34). -/
def State.actOnFeedback (s : State) (i : Nat) (closed : Bool) : State :=
  let r := s.stringAt i
  match r.state with
  | .awaiting => s.leaveAwaiting i closed
  | .isolating =>
    if closed then
      if r.timer.isNone then
        let s := s.contactorCommand i false
        let ends := s.contactorEnd
        s.modString i fun r => { r with timer := some ends }
      else s
    else s.contactorOpened i
  | .restoring =>
    if closed then
      ((s.modString i fun r => { r with state := .inService, cause := none, timer := none }).raise
        .stringInService (some i)).stringMoved i .restoring
    else s
  | .inService =>
    if closed then s
    else
      ((s.modString i fun r => { r with state := .isolated, cause := some .external }).raise
        .contactorExternal (some i)).stringMoved i .inService
  | .isolated => if closed then s.isolate i (some .external) (some .contactorExternal) else s
  | .lockedOut => if closed then s.isolate i r.cause (some .contactorExternal) else s
  | .welded => s

/-- A STRING REPORT from a string's monitor: the record's measurements, the masks where the current is above
balance_current_limit, the charge count, and then the feedback of a string in use (R18, R28, R41, R44). The report of a
string not in use does not take it out of AWAITING, nor latch the flag of its retained condition (R36; DEDUCED, log
54). -/
def State.takeStringReport (s : State) (i : Nat) (x : StringReport) : State :=
  let s := s.modString i fun r =>
    { r with
      current := some x.current, voltage := some (capNat 15000 x.voltage)
      feedback := if x.closed then .closed else .isOpen }
  let s := if decide (s.params.balanceCurrentLimit < x.current.natAbs) then s.clearStringMasks i else s
  let s := s.countReport i x
  if (s.stringEntry i).inUse then s.actOnFeedback i x.closed else s

/-- A string's contactor timer expires (R32, R33). -/
def State.contactorTimedOut (s : State) (i : Nat) : State :=
  match (s.stringAt i).state with
  | .isolating =>
    if s.nodeStateOf .stringMonitor i == .live then
      (((s.modString i fun r => { r with state := .welded, retained := .welded, timer := none }).latch
        .contactorFail).raise .contactorFail (some i)).stringMoved i .isolating
    else s.modString i fun r => { r with timer := none }
  | .restoring =>
    ((s.modString i fun r => { r with state := .isolated, cause := some .external, timer := none }).raise
      .contactorFail (some i)).stringMoved i .restoring
  | .awaiting | .inService | .isolated | .lockedOut | .welded => s.modString i fun r => { r with timer := none }

/-! ### Requests (R33, R35) -/

/-- The IN_SERVICE strings' voltages. -/
def State.serviceVoltages (s : State) : List Nat :=
  ((List.range 4).filter fun i => (s.stringAt i).state == .inService).map fun i => ((s.stringAt i).voltage).getD 0

/-- The first reason, in the order of R33, that refuses a RESTORE STRING to an in-use string. -/
def State.restoreRefusal (s : State) (i : Nat) : Option RestoreReason :=
  let r := s.stringAt i
  if r.state != .isolated then some .notIsolated
  else if s.anyPreAlarm then some .fireStage
  else if s.causePresent i then some .causePresent
  else
    match r.voltage, r.feedback with
    | some v, .isOpen =>
      let vs := s.serviceVoltages
      let mean := vs.sum / vs.length
      if !vs.isEmpty && decide (s.tables.t10.rejoinWindow < (v - mean) + (mean - v)) then some .voltageMismatch
      else none
    | _, _ => some .voltageUnknown

/-- A RESTORE STRING that is taken (R33). -/
def State.restore (s : State) (i : Nat) : State :=
  let s := s.contactorCommand i true
  let ends := s.contactorEnd
  (s.modString i fun r => { r with state := .restoring, cause := none, timer := some ends }).stringMoved i .isolated

/-- The hard counts of a string's cells are set to 0 (R35). -/
def State.zeroHardCounts (s : State) (i : Nat) : State :=
  s.forEach (slotsOf i) fun m s =>
    s.modModule m fun r => { r with cells := r.cells.map fun c => { c with hardCount := 0 } }

/-- Whether RESET STRING is taken in the string's state (R35). -/
def StringRec.resettable (r : StringRec) : Bool :=
  match r.state with
  | .lockedOut => true
  | .welded => r.feedback == .isOpen
  | .awaiting | .inService | .isolating | .restoring | .isolated => false

/-- A RESET STRING that is taken (R35). -/
def State.resetString (s : State) (i : Nat) : State :=
  let old := (s.stringAt i).state
  ((s.zeroHardCounts i).modString i fun r =>
    { r with state := .isolated, cause := some .request, retained := .none }).stringMoved i old

end Sys2Proof.Machine
end

