-- ==== Sys2Proof/Machine/Thermal.lean ====
section
/-! DEFINITION. The Thermal Controller (R120 to R134): zone temperatures and demands, the exponential mapping, the
making of coolant commands, and the coolant state. -/

namespace Sys2Proof.Machine

/-! ### Demand -/

/-- The zone's temperature: the greatest max temperature over its in-use FRESH modules (R121). -/
def State.zoneTemp (s : State) (z : Nat) : Option Int :=
  (s.modulesInUse.filterMap fun m =>
    let r := s.moduleAt m
    if r.zone == z && r.quality == .fresh then maxTemp r.temps else none).max?

/-- Whether T16 assigns an in-use module slot to the zone (R121). -/
def State.zoneInUse (s : State) (z : Nat) : Bool := s.modulesInUse.any fun m => (s.moduleAt m).zone == z

def State.zoneEntry (s : State) (z : Nat) : ZoneEntry := s.tables.t11.entries.getD z .builtIn

/-- The demand code of a zone that is cooling, `e` half-degrees above T_set (R122). -/
def demandCode (t : ZoneEntry) (e : Int) : Nat :=
  (clampInt 1 255 ((t.base : Int) + t.k * (if e < 0 then 0 else e))).toNat

/-- Whether a zone cools after a close (R122). -/
def coolsAfter (t : ZoneEntry) (cooling : Bool) (e : Int) : Bool :=
  if cooling then decide (-(t.hyst : Int) < e) else decide (0 ≤ e)

/-- A zone record after a close, from whether the zone is in use and its temperature (R121, R122). -/
def ZoneRec.afterClose (r : ZoneRec) (t : ZoneEntry) (fallback : Nat) (inUse : Bool) (temp : Option Int) : ZoneRec :=
  if !inUse then { r with inUse := false, temp := none, cooling := false, demand := 0 }
  else
    match temp with
    | none => { r with inUse := true, temp := none, demand := fallback }
    | some x =>
      let e := x - t.tSet
      let cooling := coolsAfter t r.cooling e
      { r with inUse := true, temp := some x, cooling, demand := if cooling then demandCode t e else 0 }

/-- The eight zone records after a close (R121, R122). -/
def State.zonesAfterClose (s : State) : List ZoneRec :=
  s.thermal.zones.mapIdx fun z r =>
    r.afterClose (s.zoneEntry z) s.tables.t11.fallbackCode (s.zoneInUse z) (s.zoneTemp z)

/-- The exponential mapping from a code to a duty (R123). -/
def dutyOf (code : Nat) : Nat := if code == 0 then 0 else (32 + code % 32) * 2 ^ (code / 32) / 2

/-! ### Making a coolant command -/

/-- What a making forms: the run request, the eight valve codes and the fan code (R125). -/
structure CoolantMaking where
  run : Bool
  valves : List Nat
  fan : Nat
  deriving DecidableEq, Repr

/-- The making of R125, its conditions as they stand. -/
def State.coolantMaking (s : State) : CoolantMaking :=
  let t := s.tables.t11
  let demands := s.thermal.zones.map (·.demand)
  let fan := demands.foldl max 0
  let raised := demands.mapIdx fun z code =>
    if (s.fireZone z).stage == .preAlarm then max code t.prealarmCode else code
  if s.anyConfirmed then ⟨true, raised.map fun _ => 255, 0⟩
  else
    let cap (code : Nat) : Nat :=
      let code := if s.supply.mode == .holdup then min code t.holdupCap else code
      if s.supply.holdupLow then 0 else code
    let valves := raised.map cap
    ⟨(cap fan :: valves).any (0 < ·), valves, cap fan⟩

/-- A zone record takes the valve code of a making (R125). -/
def ZoneRec.withValve (r : ZoneRec) (code : Nat) : ZoneRec := { r with valveCode := code, valveDuty := dutyOf code }

/-- The Thermal Controller's records take a making and the outcome of its placing (R125, R126). -/
def State.recordCoolant (s : State) (m : CoolantMaking) (outcome : CommandOutcome) : State :=
  s.setThermal { s.thermal with
    zones := s.thermal.zones.mapIdx fun z r => r.withValve (m.valves.getD z 0)
    command := ⟨m.run, m.fan, dutyOf m.fan, s.time, outcome⟩ }

/-- Make a coolant command into URGENT or NORMAL (R125 to R127). -/
def State.makeCoolant (s : State) (urgent : Bool) : State :=
  let m := s.coolantMaking
  match s.addressOf .chiller 0 with
  | none =>
    (s.recordCoolant m .unaddressed).count fun c => { c with coolantUnaddressed := inc16 c.coolantUnaddressed }
  | some a =>
    let p := s.ownFrame kindCoolantCommand a (coolantCommandPayload m.run (m.valves.map dutyOf) (dutyOf m.fan))
    if urgent then (s.placeUrgent p).recordCoolant m .queued
    else if s.fieldPort.admits p then (s.placeNormal p).recordCoolant m .queued
    else
      ((s.placeNormal p).recordCoolant m .dropped).count
        fun c => { c with coolantFramesLost := inc16 c.coolantFramesLost }

/-- The Thermal Controller's part in a close (R121, R122, R126). -/
def State.thermalClose (s : State) : State :=
  (s.setThermal { s.thermal with zones := s.zonesAfterClose }).makeCoolant false

/-! ### The coolant state -/

/-- The coolant state becomes `c`; a change raises its notice and causes an evaluation and a making (R131). -/
def State.coolantTo (s : State) (c : CoolantState) : State :=
  if s.thermal.coolant == c then s
  else
    let s := s.setThermal { s.thermal with coolant := c }
    let s :=
      match c with
      | .ok => s.raise .coolantOk none
      | .degraded => s.raise .coolantDegraded none
      | .lost => (s.latch .coolantLost).raise .coolantLost none
    s.changeEval.makeCoolant false

/-- Whether a status meets the restore limits (R129). -/
def meetsRestore (t : ZoneSettings) (r : ChillerStatus) : Bool :=
  decide (r.supply ≤ t.supplyRestore) && decide (t.flowMin + t.flowHyst ≤ r.flow)

/-- Whether a status lies beyond the entry limits (R129). -/
def beyondEntry (t : ZoneSettings) (r : ChillerStatus) : Bool :=
  decide (t.supplyLimit < r.supply) || decide (r.flow < t.flowMin)

/-- The coolant state after a status (R129, R130). -/
def coolantAfter (t : ZoneSettings) (c : CoolantState) (r : ChillerStatus) : CoolantState :=
  match c, r.state with
  | _, .fault => .lost
  | .ok, .run => if beyondEntry t r then .degraded else .ok
  | .degraded, .run | .lost, .run => if meetsRestore t r then .ok else .degraded
  | .ok, .standby => .ok
  | .degraded, .standby => .degraded
  | .lost, .standby => .ok

/-- A temperature saturates to −80…+250 (00_scope, "Units and ranges"). -/
def saturateTemp (x : Int) : Int := clampInt (-80) 250 x

/-- COOLANT_LOST latches again where an evaluation finds the state LOST still (R171; log 51). -/
def State.relatchCoolant (s : State) : State := if s.thermal.coolant == .lost then s.latch .coolantLost else s

/-- A COOLANT STATUS is stored and judges the coolant state (R128). -/
def State.takeCoolantStatus (s : State) (x : CoolantStatus) : State :=
  let r : ChillerStatus :=
    ⟨x.state, saturateTemp x.supply, saturateTemp x.returnTemp, capNat 65535 x.flow, s.time⟩
  ((s.setThermal { s.thermal with lastStatus := some r }).coolantTo
    (coolantAfter s.tables.t11 s.thermal.coolant r)).relatchCoolant

/-- The chiller's node becomes SILENT (R130). -/
def State.chillerSilent (s : State) : State := s.coolantTo .lost

end Sys2Proof.Machine
end

