-- ==== Sys2Proof/Machine/Fire.lean ====
section
/-! DEFINITION. The Fire Supervisor (R135 to R151): detectors, the cell source, line indications, zone targets and
stages, and the release. -/

namespace Sys2Proof.Machine

/-! ### Detectors -/

def State.detectorEntry (s : State) (i : Nat) : DetectorEntry := s.tables.t12.getD i .builtIn

def State.detectorAt (s : State) (i : Nat) : DetectorRec := s.fire.detectors.getD i .atReset

/-- A reading code read by type (R135). -/
def DetectorType.reading (t : DetectorType) (code : Nat) : Int :=
  match t with
  | .smoke | .gas => code
  | .heat => saturateTemp ((code : Int) - 32768)

def DetectorRec.zeroGradeRuns (d : DetectorRec) : DetectorRec := { d with preRun := 0, alarmRun := 0, clearRun := 0 }

def DetectorRec.zeroRuns (d : DetectorRec) : DetectorRec :=
  { d.zeroGradeRuns with openRun := 0, shortRun := 0, normalRun := 0 }

/-- The loop state becomes OPEN or SHORT (R139). -/
def DetectorRec.faulted (d : DetectorRec) (l : LoopState) : DetectorRec :=
  { d with loop := l, grade := .none, loopFaults := inc16 d.loopFaults }

/-- The grade that a detector's runs give (R140). -/
def DetectorRec.graded (d : DetectorRec) (persist : Nat) : DetectorRec :=
  { d with
    grade :=
      if persist ≤ d.alarmRun then .alarm
      else if d.grade == .none && decide (persist ≤ d.preRun) then .pre
      else if (d.grade == .pre || d.grade == .alarm) && decide (persist ≤ d.clearRun) then .none
      else d.grade }

/-- The grade step (R140). -/
def DetectorRec.gradeStep (d : DetectorRec) (e : DetectorEntry) (r : Int) : DetectorRec :=
  if e.mask then { d.zeroGradeRuns with grade := .none }
  else if e.alarmLevel ≤ r then
    ({ d with alarmRun := inc8 d.alarmRun, preRun := inc8 d.preRun, clearRun := 0 } : DetectorRec).graded e.persist
  else if e.preLevel ≤ r then
    ({ d with alarmRun := 0, preRun := inc8 d.preRun, clearRun := 0 } : DetectorRec).graded e.persist
  else
    ({ d with alarmRun := 0, preRun := 0, clearRun := inc8 d.clearRun } : DetectorRec).graded e.persist

/-- What a loop step does to a detector, and what it tells: a loop state newly OPEN or SHORT, one that a pair finds
standing, or the return to NORMAL (R139). -/
inductive LoopNews where
  | nothing | fault | standing | restored
  deriving DecidableEq, Repr

/-- A pair that carries a loop code (R139). -/
def DetectorRec.loopCode (d : DetectorRec) (e : DetectorEntry) (l : LoopState) : DetectorRec × LoopNews :=
  let d :=
    match l with
    | .isOpen => { d.zeroGradeRuns with openRun := inc8 d.openRun, shortRun := 0, normalRun := 0 }
    | .short | .normal | .silent => { d.zeroGradeRuns with shortRun := inc8 d.shortRun, openRun := 0, normalRun := 0 }
  let run := if l == .isOpen then d.openRun else d.shortRun
  if d.loop == l then (d, .standing)
  else if e.persist ≤ run then (d.faulted l, .fault)
  else (d, .nothing)

/-- A pair that carries a reading: the loop step, and then the grade step where the loop is NORMAL (R138 to R140). -/
def DetectorRec.readingCode (d : DetectorRec) (e : DetectorEntry) (code : Nat) : DetectorRec × LoopNews :=
  let r := e.type.reading code
  let d := { d with reading := some r, openRun := 0, shortRun := 0 }
  if d.loop == .isOpen || d.loop == .short then
    let d := { d with normalRun := inc8 d.normalRun }
    if e.persist ≤ d.normalRun then
      (({ d with loop := .normal, normalRun := 0 } : DetectorRec).gradeStep e r, .restored)
    else (d, .nothing)
  else (d.gradeStep e r, .nothing)

/-- One pair taken by the detector it maps to (R138 to R140). -/
def DetectorRec.takePair (d : DetectorRec) (e : DetectorEntry) (node slot code : Nat) (now : PartTime) :
    DetectorRec × LoopNews :=
  let d := { d with node := some node, slot := some slot, lastTime := some now, reports := inc16 d.reports }
  let d := if d.loop == .silent then { d.zeroRuns with loop := .normal } else d
  if code == 65535 then d.loopCode e .isOpen
  else if code == 65534 then d.loopCode e .short
  else d.readingCode e code

/-- The detector that a slot maps to, if it is at most 15 and in use (R138). -/
def State.detectorOf (s : State) (first slot : Nat) : Option Nat :=
  let i := first + slot
  if i ≤ 15 && (s.detectorEntry i).inUse then some i else none

/-- One pair of a DETECTOR REPORT (R138, R139). A masked detector raises no notice and latches no flag, its return to
NORMAL included (DEDUCED, log 35). A pair that finds an unmasked detector's fault standing latches
DETECTOR_FAULT again (R171; log 51). -/
def State.takeDetectorPair (first node : Nat) (pair : Nat × Nat) (s : State) : State :=
  match s.detectorOf first pair.1 with
  | none => s.count fun c => { c with detectorPairsUnmapped := inc16 c.detectorPairsUnmapped }
  | some i =>
    let e := s.detectorEntry i
    let (d, news) := (s.detectorAt i).takePair e node pair.1 pair.2 s.time
    let s := s.modDetector i fun _ => d
    match news with
    | .nothing => s
    | .restored => if e.mask then s else s.raise .detectorRestored (some i)
    | .standing => if e.mask then s else s.latch .detectorFault
    | .fault => if e.mask then s else (s.latch .detectorFault).raise .detectorFault (some i)

/-! ### Sources and targets -/

/-- A detector gives an indication (R137). -/
def State.indicates (s : State) (i : Nat) : Bool :=
  (s.detectorEntry i).inUse && !(s.detectorEntry i).mask && (s.detectorAt i).loop == .normal &&
    (s.detectorAt i).grade != .none

/-- The detectors assigned to a zone (R137). -/
def State.detectorsOf (s : State) (z : Nat) : List Nat :=
  (List.range 16).filter fun i => (s.detectorEntry i).inUse && (s.detectorEntry i).zone == z

/-- The grades of a zone's sources: its indicating detectors and its cell source (R143). -/
def State.sources (s : State) (z : Nat) : List Grade :=
  (s.fireZone z).cellGrade :: ((s.detectorsOf z).filter s.indicates).map fun i => (s.detectorAt i).grade

/-- The target that a zone's sources and its line indication give (R143). -/
def targetOf (line : Bool) (sources : List Grade) : FireStage :=
  let a := (sources.filter (· == .alarm)).length
  let p := (sources.filter (· != .none)).length
  if line || 2 ≤ a then .fire else if a == 1 || 2 ≤ p then .preAlarm else if p == 1 then .watch else .normal

/-- A zone is UNWATCHED (R145). -/
def State.zoneUnwatched (s : State) (z : Nat) : Bool :=
  !(s.detectorsOf z).isEmpty &&
    (s.detectorsOf z).all fun i => (s.detectorEntry i).mask || (s.detectorAt i).loop != .normal

/-- Whether a fire line's zone field applies to a zone (R142). -/
def LineEntry.appliesTo (e : LineEntry) (z : Nat) : Bool := e.zone == z || e.zone == 15

/-- A zone has a line indication (R142). -/
def State.lineIndicates (s : State) (z : Nat) : Bool :=
  (List.range 8).any fun i =>
    ((s.lineEntry i).function == .manualCall || (s.lineEntry i).function == .panelFire) &&
      (s.lineEntry i).appliesTo z && (s.lineAt i).state == .active

/-- The order of the stages (R143, R166). -/
def FireStage.rank : FireStage → Nat
  | .normal => 0
  | .watch => 1
  | .preAlarm => 2
  | .fire => 3
  | .releaseDelay => 4
  | .released => 5

/-! ### What a stage change hands on (R146 to R148) -/

/-- Every stage change causes an evaluation and a coolant command (R146, R126). -/
def State.handStage (s : State) (urgent : Bool) : State := s.changeEval.makeCoolant urgent

/-- The zone becomes RELEASED (R147, R148). -/
def State.releaseZone (s : State) (z : Nat) : State :=
  let s := s.modFireZone z fun r => { r with stage := .released, countdown := none }
  let s := s.setFire { s.fire with releaseOut := true }
  ((s.raise .fireReleased (some z)).latch .release).handStage false

/-- Whether the RELEASE_HOLD line is active (R147). -/
def State.holdActive (s : State) : Bool := s.lineIsActive .releaseHold

/-- A zone that has reached FIRE passes to RELEASE_DELAY where its release_enable is yes, and with a release_delay of
0 on to RELEASED unless the hold line is active (R147). -/
def State.startRelease (s : State) (z : Nat) : State :=
  if s.tables.t13.releaseEnable.getD z false then
    let ms := s.tables.t13.releaseDelay * 1000
    let countdown : Countdown := if s.holdActive then .paused ms else .running (s.after ms)
    let s := s.modFireZone z fun r => { r with stage := .releaseDelay, countdown := some countdown }
    let s := (s.raise .fireReleasePending (some z)).handStage false
    if ms == 0 && !s.holdActive then s.releaseZone z else s
  else s

/-- The zone reaches FIRE from a stage that was not fire-confirmed (R146). -/
def State.reachFire (s : State) (z : Nat) : State :=
  let s := s.modFireZone z fun r => { r with stage := .fire, clearTimer := none, fireTime := some s.time }
  let s := ((s.raise .fire (some z)).latch .fire).changeEval
  let s := (s.trip .fire).forEach (List.range 4) fun i s => s.raiseCause i .fire
  (s.clearAllMasks.makeCoolant true).startRelease z

/-- The zone rises to `target`, which stands above its stage (R144, R146). -/
def State.riseTo (s : State) (z : Nat) (target : FireStage) : State :=
  match target with
  | .watch =>
    ((s.modFireZone z fun r => { r with stage := .watch, clearTimer := none }).raise .fireWatch (some z)).handStage
      false
  | .preAlarm =>
    let s := (s.modFireZone z fun r => { r with stage := .preAlarm, clearTimer := none }).raise .firePreAlarm (some z)
    s.clearAllMasks.watchReconnect.handStage false
  | .fire => s.reachFire z
  | .normal | .releaseDelay | .released => s

/-- The zone has fallen to a lower stage (R146). -/
def State.handFall (s : State) (z : Nat) : State := (s.raise .fireCleared (some z)).handStage false

/-- The end of a clear_time begun now (R136, R144). -/
def State.clearEnd (s : State) : PartTime := s.after (s.tables.t13.clearTime * 1000)

/-- The greater of two stages. -/
def FireStage.max (a b : FireStage) : FireStage := if a.rank < b.rank then b else a

/-- The flags that a fire-confirmed zone latches while its stage stands: FIRE, and RELEASE in RELEASED (R146, R151,
R171). -/
def State.latchStage (s : State) (z : Nat) : State :=
  match (s.fireZone z).stage with
  | .normal | .watch | .preAlarm => s
  | .fire | .releaseDelay => s.latch .fire
  | .released => (s.latch .fire).latch .release

/-- The zone's stage moves after its target is evaluated (R144). A fire-confirmed stage stands, and the evaluation
latches its flags again (R171; log 51). -/
def State.moveStage (s : State) (z : Nat) : State :=
  let r := s.fireZone z
  if r.stage.confirmed then s.latchStage z
  else if r.stage.rank < r.target.rank then s.riseTo z r.target
  else if r.target == r.stage then s.modFireZone z fun r => { r with clearTimer := none }
  else
    let timer : ClearTimer :=
      match r.clearTimer with
      | none => ⟨s.clearEnd, r.target⟩
      | some t => ⟨t.ends, t.ceiling.max r.target⟩
    s.modFireZone z fun r => { r with clearTimer := some timer }

/-- UNWATCHED is set, and a change of it is noticed and evaluated (R145). -/
def State.setUnwatched (s : State) (z : Nat) : State :=
  let now := s.zoneUnwatched z
  if (s.fireZone z).unwatched == now then s
  else
    ((s.modFireZone z fun r => { r with unwatched := now }).raise
      (if now then .zoneUnwatched else .zoneWatched) (some z)).changeEval

/-- An evaluation of a zone: UNWATCHED, then the target, then the stage (R143). -/
def State.evaluateZone (z : Nat) (s : State) : State :=
  let s := s.setUnwatched z
  let target := targetOf (s.fireZone z).lineIndication (s.sources z)
  (s.modFireZone z fun r => { r with target }).moveStage z

def State.evaluateZones (s : State) (zones : List Nat) : State := s.forEach zones State.evaluateZone

def allZones : List Nat := List.range 8

/-! ### Events -/

/-- A DETECTOR REPORT from a fire panel whose first detector index is `first` (R138). -/
def State.takeDetectorReport (s : State) (first node : Nat) (pairs : List (Nat × Nat)) : State :=
  let named := pairs.filterMap fun p => s.detectorOf first p.1
  let zones := named.map fun i => (s.detectorEntry i).zone
  (pairs.foldl (fun s p => s.takeDetectorPair first node p) s).evaluateZones (allZones.filter zones.contains)

/-- A fire panel becomes SILENT (R139). -/
def State.panelSilent (s : State) (first : Nat) : State :=
  let reached := (List.range 16).filter fun i => first ≤ i && (s.detectorEntry i).inUse
  let zones := reached.map fun i => (s.detectorEntry i).zone
  (s.forEach reached fun i s => s.modDetector i fun d => { d.zeroRuns with loop := .silent, grade := .none }
    ).evaluateZones (allZones.filter zones.contains)

/-- A module's temperature rise (R141). -/
def temperatureRise (history : List Int) (window : Nat) : Option Int :=
  match history.reverse with
  | newest :: earlier => ((earlier.take window).min?).map fun least => newest - least
  | [] => none

/-- The cell source grade of a zone (R141). -/
def State.cellSource (s : State) (z : Nat) : Grade :=
  let t := s.tables.t13
  let ms := (s.modulesInUse.map s.moduleAt).filter fun r => r.zone == z && r.quality == .fresh
  if ms.any fun r => (maxTemp r.temps).any fun x => decide (t.tFire ≤ x) then .alarm
  else if ms.any fun r => (temperatureRise r.history t.riseWindow).any fun x => decide (t.riseThreshold ≤ x) then .pre
  else .none

/-- The Fire Supervisor's part in a close: every grade is set, and then every zone is evaluated (R141). -/
def State.fireClose (s : State) : State :=
  let s := s.setFire { s.fire with zones := s.fire.zones.mapIdx fun z r => { r with cellGrade := s.cellSource z } }
  s.evaluateZones allZones

/-- The zones a fire line with this zone field applies to take their line indication, and are evaluated (R142). -/
def State.fireLineMoved (s : State) (e : LineEntry) : State :=
  let zones := allZones.filter e.appliesTo
  (s.forEach zones fun z s =>
    s.modFireZone z fun r => { r with lineIndication := s.lineIndicates z }).evaluateZones zones

/-- The clear timer of a zone expires: the stage becomes the ceiling (R144). -/
def State.clearTimedOut (s : State) (z : Nat) : State :=
  match (s.fireZone z).clearTimer with
  | none => s
  | some t =>
    let target := (s.fireZone z).target
    let again : Option ClearTimer := if target.rank < t.ceiling.rank then some ⟨s.clearEnd, target⟩ else none
    (s.modFireZone z fun r => { r with stage := t.ceiling, clearTimer := again }).handFall z

/-- What is left of a countdown, in ms: 0 once its end has been reached (R147). -/
def State.remaining (s : State) (c : Countdown) : Nat :=
  match c with
  | .running ends => if s.due (some ends) then 0 else (ends - s.time).toNat
  | .paused ms => ms

/-- The RELEASE_HOLD line becomes active: every running countdown pauses (R147). -/
def State.pauseCountdowns (s : State) : State :=
  s.setFire { s.fire with
    zones := s.fire.zones.map fun r => { r with countdown := r.countdown.map fun c => .paused (s.remaining c) } }

/-- A paused countdown of one zone runs on, and ends at once when nothing is left of it (R147). -/
def State.resumeCountdown (z : Nat) (s : State) : State :=
  match (s.fireZone z).countdown with
  | some (.paused ms) =>
    if ms == 0 then s.releaseZone z
    else
      let ends := s.after ms
      s.modFireZone z fun r => { r with countdown := some (.running ends) }
  | some (.running _) | none => s

/-- The RELEASE_HOLD line becomes inactive: every paused countdown runs on (R147). -/
def State.resumeCountdowns (s : State) : State := s.forEach allZones State.resumeCountdown

/-- Whether a RESET FIRE is refused for a source at ALARM or a line indication (R149). -/
def State.resetFireBlocked (s : State) (z : Nat) : Bool :=
  (s.sources z).any (· == .alarm) || (s.fireZone z).lineIndication

/-- RELEASE_OUT is deasserted when no zone is RELEASED (R148). -/
def State.followRelease (s : State) : State :=
  s.setFire { s.fire with releaseOut := s.fire.releaseOut && s.fire.zones.any (·.stage == .released) }

/-- A taken RESET FIRE (R149). -/
def State.resetFireZone (s : State) (z : Nat) : State :=
  let above := decide (0 < (s.fireZone z).stage.rank)
  let s := s.modFireZone z fun r => { r with stage := .normal, clearTimer := none, countdown := none, fireTime := none }
  let s := if above then s.handFall z else s
  s.followRelease.evaluateZone z

/-- A taken T12 load: every detector whose entry it changed loses its grade, and every zone is evaluated (R150). -/
def State.detectorsLoaded (s : State) (before : List DetectorEntry) : State :=
  let changed := (List.range 16).filter fun i => s.detectorEntry i != before.getD i .builtIn
  (s.forEach changed fun i s => s.modDetector i fun d => { d.zeroGradeRuns with grade := .none }).evaluateZones allZones

end Sys2Proof.Machine
end

