-- ==== Sys2Proof/Machine/Cells.lean ====
section
/-! DEFINITION. The Cell Store's readings and its evaluation at a round close (R14, R22 to R27, R38 to R41, R50). -/

namespace Sys2Proof.Machine

/-! ### Applying a report (R23) -/

/-- A reported voltage: absent at 65535, saturated to 5000 (R23). -/
def reportedVoltage (v : Nat) : Option Nat := if v == 65535 then none else some (capNat 5000 v)

/-- The latest voltage of cell position `c` after a report (R23). -/
def ModuleReport.latest (x : ModuleReport) (c : Nat) : Option Nat :=
  if x.openWire.contains c then none else (x.voltages[c]?).bind reportedVoltage

/-- A module record after a report is applied, its string having `cells` cells per module (R23). -/
def ModuleRec.apply (r : ModuleRec) (x : ModuleReport) (cells : Nat) : ModuleRec :=
  { r with
    lastTag := some x.tag
    temps := x.temps.map saturateTemp
    cells := r.cells.mapIdx fun c k => if c < cells then { k with latest := x.latest c } else k }

/-- An accepted report is applied; one of another shape than its string's is counted (R23). -/
def State.applyReport (s : State) (m : Nat) (x : ModuleReport) : State :=
  let cells := (s.stringEntry (stringOf m)).cells
  let s := s.modModule m fun r => r.apply x cells
  if x.voltages.length == cells then s else s.count fun c => { c with reportShapeErrors := inc16 c.reportShapeErrors }

/-! ### The close record (R14) -/

structure CloseRecord where
  scope : Scope
  completed : Bool
  /-- the mode was QUIET -/
  quiet : Bool
  reported : List Nat
  quietUsable : Bool
  quietValid : List Nat
  deriving DecidableEq, Repr

/-- Whether a module lies within a scope (R5). -/
def Scope.covers (x : Scope) (m : Nat) : Bool :=
  match x with
  | .all => true
  | .string i => stringOf m == i
  | .module k => k == m

/-! ### Bands, temperatures and absent runs -/

/-- The band of a latest voltage (R24). -/
def bandOf (t : VoltageLimits) (latest : Option Nat) : Band :=
  match latest with
  | none => .unknown
  | some v =>
    if v ≤ t.minHard then .lowHard
    else if v < t.minWarn then .lowWarn
    else if v ≤ t.maxWarn then .normal
    else if v < t.maxHard then .highWarn
    else .highHard

/-- A cell of a reporting module at a close: its band, hard count and absent run (R24, R26). -/
def CellRec.judged (k : CellRec) (t : VoltageLimits) : CellRec :=
  let band := bandOf t k.latest
  { k with
    band
    hardCount := if band == .lowHard || band == .highHard then capNat 4 (k.hardCount + 1) else 0
    absentRun := if k.latest.isNone then inc8 k.absentRun else 0 }

/-- A max temperature, if present, joins the history, which holds 8 (R25). -/
def historyWith (history : List Int) (temp : Option Int) : List Int :=
  match temp with
  | none => history
  | some t => lastEntries 8 (history ++ [t])

/-- A module record at a close in which it reported (R24 to R26). -/
def ModuleRec.reporting (r : ModuleRec) (t : VoltageLimits) (cells : Nat) : ModuleRec :=
  { r with
    history := historyWith r.history (maxTemp r.temps)
    cells := r.cells.mapIdx fun c k => if c < cells then k.judged t else k }

/-- The cells of a STALE module: band UNKNOWN, hard count 0 (R24). -/
def ModuleRec.unknownBands (r : ModuleRec) : ModuleRec :=
  { r with cells := r.cells.map fun k => { k with band := .unknown, hardCount := 0 } }

/-- The latest voltages are adopted as quiet voltages, absent included (R22). -/
def ModuleRec.adoptQuiet (r : ModuleRec) : ModuleRec :=
  { r with cells := r.cells.map fun k => { k with quiet := k.latest } }

/-- One module at a close: quiet voltages, then bands and counts, then temperatures (R24). -/
def State.judgeModule (s : State) (c : CloseRecord) (m : Nat) (r : ModuleRec) : ModuleRec :=
  let r := if c.quietUsable && c.quietValid.contains m then r.adoptQuiet else r
  if s.moduleInUse m then
    if c.reported.contains m then r.reporting s.tables.t1 (s.stringEntry (stringOf m)).cells
    else if r.quality == .stale then r.unknownBands
    else r
  else r

/-- The Cell Store's module records at a close (R24 to R26), with which the working T1 and T2 take effect (R19). -/
def State.judgeModules (s : State) (c : CloseRecord) : State :=
  (s.setModules (s.modules.mapIdx (s.judgeModule c))).setLimits s.tables.closeLimits

/-! ### Stale conditions and extremes -/

/-- The cells hold indication that a close sets (R26). -/
def State.holdsCells (s : State) : Bool :=
  (List.range 4).any fun i =>
    (s.stringEntry i).inUse && (s.stringEntry i).stalePolicy == .container && s.staleCondition i

/-- Of the readings `(voltage, cell index)`, the one that `beats` all before it; the first stands on a tie. -/
def extremeOf (beats : Nat → Nat → Bool) : List (Nat × Nat) → Option (Nat × Nat)
  | [] => none
  | x :: rest => some (rest.foldl (fun best y => if beats y.1 best.1 then y else best) x)

/-- A string's extremes over its in-use FRESH modules (R27). -/
def State.extremesOf (s : State) (i : Nat) : Extremes :=
  let fresh := (s.modulesOf i).filter fun m => (s.moduleAt m).quality == .fresh
  let readings := (fresh.map fun m =>
    (s.cellsOf m).filterMap fun (c, k) => k.latest.map fun v => (v, 16 * (m % 12) + c)).flatten
  { vMax := extremeOf (fun a b => decide (b < a)) readings
    vMin := extremeOf (fun a b => decide (a < b)) readings
    tMax := (fresh.filterMap fun m => maxTemp (s.moduleAt m).temps).max?
    tMin := (fresh.filterMap fun m => minTemp (s.moduleAt m).temps).min? }

/-- The extremes of each in-use string, and the cells hold indication (R26, R27), which every evaluation from here on
takes (R68, R72; log 49). -/
def State.judgeStrings (s : State) : State :=
  (s.setStrings (s.strings.mapIdx fun i r =>
    if (s.stringEntry i).inUse then { r with extremes := s.extremesOf i } else r)).setCellsHold s.holdsCells

/-! ### Isolation causes -/

/-- The in-use modules of a string that reported with a max temperature at or above T_max_hard (R25). -/
def State.hotModules (s : State) (c : CloseRecord) (i : Nat) : List Nat :=
  (s.modulesOf i).filter fun m =>
    c.reported.contains m && (maxTemp (s.moduleAt m).temps).any fun t => decide (s.tables.t2.tMaxHard ≤ t)

/-- Whether a cell of the string has a hard count of hard_persist or more (R24). -/
def State.hardCells (s : State) (i : Nat) : Bool :=
  (s.modulesOf i).any fun m => (s.cellsOf m).any fun (_, k) => decide (s.tables.t1.hardPersist ≤ k.hardCount)

/-- The causes that a close raises for one string: CELL_HARD, TEMP_HARD, and MODULE_STALE under STRING policy
(R24 to R26). Where one close finds several of them, they are raised in this order, which decides the cause that is
recorded and retained: DEDUCED, log 59. -/
def State.raiseCloseCauses (c : CloseRecord) (i : Nat) (s : State) : State :=
  let hard := s.hardCells i
  let hot := s.hotModules c i
  let stale := s.staleCondition i && (s.stringEntry i).stalePolicy == .string
  let s := if hard then ((s.raise .cellHard (some i)).latch .cellHard).raiseCause i .cellHard else s
  let s := s.forEach hot fun m s => ((s.raise .tempHard (some m)).latch .tempHard).raiseCause i .tempHard
  if stale then s.raiseCause i .moduleStale else s

/-- The strings in use, in order. -/
def State.stringsInUse (s : State) : List Nat := (List.range 4).filter fun i => (s.stringEntry i).inUse

/-! ### Balancing -/

/-- The `n` candidates `(position, voltage)` of the highest voltage, the lower position on a tie; their positions in
rising order (R39). -/
def keepHighest (n : Nat) (cs : List (Nat × Nat)) : List Nat :=
  (cs.filter fun x =>
    (cs.filter fun y => decide (x.2 < y.2) || (y.2 == x.2 && decide (y.1 < x.1))).length < n).map (·.1)

/-- Whether a string is eligible for balancing (R38). -/
def State.stringEligible (s : State) (i : Nat) : Bool :=
  let r := s.stringAt i
  (r.state == .inService || r.state == .isolated) &&
    (r.current.any fun x => decide (x.natAbs ≤ s.params.balanceCurrentLimit)) &&
    s.supply.mode == .normal && !s.anyPreAlarm

/-- Whether a module's zone temperature is present and below balance_temp_limit (R38, R41). -/
def State.zoneCool (s : State) (m : Nat) : Bool :=
  (s.zoneTemp (s.moduleAt m).zone).any fun t => decide (t < s.params.balanceTempLimit)

/-- Whether a module of an eligible string, within the scope, is eligible (R38). -/
def State.moduleEligible (s : State) (c : CloseRecord) (m : Nat) : Bool :=
  c.scope.covers m && (s.moduleAt m).quality == .fresh && c.quietValid.contains m && s.zoneCool m

/-- The quiet voltages present among a module's in-use cells, with their positions. -/
def State.quietVoltages (s : State) (m : Nat) : List (Nat × Nat) :=
  (s.cellsOf m).filterMap fun (c, k) => k.quiet.map fun v => (c, v)

/-- The new mask of an eligible module, against the string's reference voltage (R39). -/
def State.decidedMask (s : State) (reference m : Nat) : List Nat :=
  let p := s.params
  let off := min p.offDelta (p.onDelta - 1)
  let mask := (s.moduleAt m).mask
  keepHighest p.maxBleed ((s.quietVoltages m).filter fun x =>
    decide (reference + p.onDelta ≤ x.2) || (mask.contains x.1 && decide (reference + off < x.2)))

/-- The decision for one string: the new mask of each of its modules within the scope (R39). -/
def State.balanceString (c : CloseRecord) (i : Nat) (s : State) : State :=
  let inScope := (s.modulesOf i).filter c.scope.covers
  let eligible := if s.stringEligible i then inScope.filter (s.moduleEligible c) else []
  let reference := ((eligible.map fun m => (s.quietVoltages m).map (·.2)).flatten).min?
  s.forEach inScope fun m t =>
    t.modModule m fun r =>
      { r with
        mask :=
          match reference with
          | some v => if eligible.contains m then s.decidedMask v m else []
          | none => [] }

/-- The modules whose masks a close clears: those that are STALE, and those whose zone is not cool (R41). -/
def State.clearedAtClose (s : State) : List Nat :=
  (List.range 48).filter fun m => (s.moduleAt m).quality == .stale || !s.zoneCool m

/-- One module's clearing at a quiet round's close, whose BLEED SET for bleed resend is that of the decision. -/
def State.emptyMask (cleared : List Nat) (m : Nat) (s : State) : State :=
  if cleared.contains m && !(s.moduleAt m).mask.isEmpty then
    (s.modModule m fun r => { r with mask := [] }).placeBleedSet m
  else s

/-- Bleeding at a close: the clearings of R41; after a round of mode QUIET, the decision where the round is quiet
usable, and a BLEED SET to every in-use module and every module with bleed resend set; after a PLAIN round, a BLEED
SET to each module with bleed resend set (R14, R39, R40; log 15). They are placed in index order of the modules, which
decides which of them a nearly full NORMAL queue refuses (DESIGN CHOICE, log 63). Each replaces an older one to its
monitor in its place, or joins the end, behind a BLEED HOLD that waits, at an aborted close as at any other (R15, R40,
R160; DEDUCED, log 47). -/
def State.bleedClose (s : State) (c : CloseRecord) : State :=
  let cleared := s.clearedAtClose
  if c.quiet then
    let s := s.forEach (List.range 48) (State.emptyMask cleared)
    let s := if c.quietUsable then s.forEach s.stringsInUse (State.balanceString c) else s
    s.forEach ((List.range 48).filter fun m => s.moduleInUse m || (s.moduleAt m).resend)
      State.placeBleedSet
  else s.forEach (List.range 48) (State.clearMask cleared)

/-- A lowered max_bleed reduces every mask that holds more cells, in index order (R39; log 63). A cell of a mask without a quiet voltage ranks
lowest (DEDUCED, log 55). -/
def State.reduceMask (m : Nat) (s : State) : State :=
  let r := s.moduleAt m
  let n := s.params.maxBleed
  if n < r.mask.length then
    let voltage (c : Nat) : Nat := ((r.cells[c]?).bind (·.quiet)).getD 0
    (s.modModule m fun r => { r with mask := keepHighest n (r.mask.map fun c => (c, voltage c)) }).placeBleedSet m
  else s

def State.reduceMasks (s : State) : State := s.forEach (List.range 48) State.reduceMask

/-! ### The close evaluation -/

/-- A string's quiet extremes over the quiet-valid set, if any cell there has a quiet voltage (R50). -/
def State.quietExtremes (s : State) (quietValid : List Nat) (i : Nat) : Option QuietExtremes :=
  let ms := s.modulesOf i
  let vs := ((ms.filter quietValid.contains).map fun m => (s.quietVoltages m).map (·.2)).flatten
  match vs.max?, vs.min? with
  | some hi, some lo => some ⟨hi, lo, ms.all quietValid.contains⟩
  | _, _ => none

/-- Calibration at a close whose close record has quiet usable yes (R50, R51). -/
def State.calibrateAll (s : State) (c : CloseRecord) : State :=
  if c.quietUsable then
    s.forEach (List.range 4) fun i s =>
      match s.quietExtremes c.quietValid i with
      | some x => s.calibrate i x
      | none => s
  else s

/-- The parts of the evaluation, in the order of section 2.3 (R24). -/
def State.evaluateClose (s : State) (c : CloseRecord) : State :=
  let s := (s.judgeModules c).judgeStrings
  (s.forEach s.stringsInUse (State.raiseCloseCauses c)).bleedClose c

/-- What the end of the evaluation hands on (R36): to the Thermal Controller, the Fire Supervisor, the Charge Counter
and the Envelope Unit, the last two in the order of `calibrationIsFirst` (R53). -/
def State.handClose (s : State) (c : CloseRecord) (calibrationIsFirst : Bool) : State :=
  let s := s.thermalClose.fireClose
  if calibrationIsFirst then (s.calibrateAll c).changeEval else s.changeEval.calibrateAll c

/-- The evaluation of one close (R24), with the free order of its end (log 5). -/
def State.close (s : State) (c : CloseRecord) : State :=
  let s := s.evaluateClose c
  (s.setChoices (s.choices + 1)).handClose c (Config.calibrationFirst s.choices)

end Sys2Proof.Machine
end

