-- ==== Sys2Proof/Machine/Rounds.lean ====
section
/-! DEFINITION. The Round Controller (R1 to R17): triggers, the frames that open a round, collection, close and
abort. -/

namespace Sys2Proof.Machine

/-! ### Changing the round context -/

def State.setPhase (s : State) (p : RoundPhase) : State := s.setRounds { s.rounds with phase := p }

/-- The round ends: the open-round fields become absent (R1, R12). -/
def State.endRound (s : State) (p : RoundPhase) : State := s.setRounds { s.rounds with phase := p, openRound := none }

/-- A broadcast frame of the Round Controller, marked with the round that places it (R8). -/
def State.roundFrame (s : State) (kind : Nat) (payload : List Byte) : Placed :=
  { s.ownFrame kind broadcast payload with round := s.rounds.openRound.map (·.serial) }

/-- Place a round frame in NORMAL; a refusal is counted (R9). -/
def State.placeRoundFrame (s : State) (p : Placed) : State :=
  if s.fieldPort.admits p then s.placeNormal p
  else (s.placeNormal p).count fun c => { c with roundFramesLost := inc16 c.roundFramesLost }

def State.countAborted (s : State) : State := s.count fun c => { c with roundsAborted := inc16 c.roundsAborted }

/-! ### Close and abort -/

/-- The state after a close: IDLE in NORMAL; a SLEEP CALL and SUSPENDED in HOLDUP (R12). Wake pending is left as it
stood (log 46). -/
def State.leaveRound (s : State) : State :=
  match s.supply.mode with
  | .normal => s.endRound .idle
  | .holdup => (s.placeRoundFrame (s.roundFrame kindSleepCall [])).endRound .suspended

/-- A module in the reported set becomes FRESH with miss count 0 (R13, R15). -/
def ModuleRec.fresh (r : ModuleRec) : ModuleRec := { r with quality := .fresh, missCount := 0 }

/-- A module that missed a completed close (R13). -/
def State.missModule (m : Nat) (s : State) : State :=
  let r := s.moduleAt m
  let missed := inc8 r.missCount
  if s.params.missLimit ≤ missed && r.quality != .stale then
    (s.modModule m fun r => { r with missCount := missed, quality := .stale }).raise .moduleStale (some m)
  else s.modModule m fun r => { r with missCount := missed }

/-- Quality and miss counts at a close: of the expected set at a completed one, of the reported set at an aborted one
(R13, R15). The modules are taken in index order, in which the MODULE_STALE notices of the close enter the Notice Queue
(DESIGN CHOICE, log 63). -/
def State.countMisses (s : State) (o : OpenRound) (completed : Bool) : State :=
  s.forEach o.expected fun m s =>
    if o.reported.contains m then s.modModule m ModuleRec.fresh
    else if completed then s.missModule m
    else s

/-- The close record of a round (R14). -/
def OpenRound.record (o : OpenRound) (completed : Bool) : CloseRecord :=
  let usable := o.quiet && completed && !o.holdupSeen
  ⟨o.scope, completed, o.quiet, o.reported, usable, if usable then o.quietValid else []⟩

/-- A round closes, completed or aborted (R12 to R15). The Round Controller's own change of state comes first. -/
def State.closeRound (s : State) (o : OpenRound) (completed : Bool) : State :=
  (s.leaveRound.countMisses o completed).close (o.record completed)

/-- The open round closes as aborted (R9, R15). -/
def State.abortRound (s : State) : State :=
  match s.rounds.openRound with
  | some o => s.countAborted.closeRound o false
  | none => s

/-! ### Opening a round -/

/-- Make the SAMPLE CALL (R8). -/
def State.sampleCall (s : State) : State :=
  match s.rounds.openRound with
  | none => s
  | some o =>
    let tag := (s.rounds.tag + 1) % 256
    let s := s.setRounds { s.rounds with tag }
    let p := s.roundFrame kindSampleCall (sampleCallPayload tag o.quiet o.scope)
    if s.fieldPort.admits p then
      (s.placeRoundFrame p).setRounds
        { s.rounds with phase := .collecting, openRound := some { o with phaseTimer := none } }
    else (s.placeRoundFrame p).abortRound

/-- Hold bleeding for a QUIET round (R7). -/
def State.holdBleeding (s : State) : State :=
  match s.rounds.openRound with
  | none => s
  | some o =>
    let p := s.roundFrame kindBleedHold []
    if s.fieldPort.admits p then
      (s.placeRoundFrame p).setRounds
        { s.rounds with phase := .quietSettle, openRound := some { o with phaseTimer := none } }
    else (s.placeRoundFrame p).abortRound

/-- The round goes on in its mode (R5, R6). -/
def State.continueRound (s : State) : State :=
  match s.rounds.openRound with
  | none => s
  | some o => if o.quiet then s.holdBleeding else s.sampleCall

/-- Wake the monitors (R6); a refused WAKE CALL abandons the round without a close (R9). -/
def State.wakeMonitors (s : State) : State :=
  let p := s.roundFrame kindWakeCall []
  let placed := s.placeRoundFrame p
  if s.fieldPort.admits p then placed.setPhase .waking else (placed.endRound s.rounds.phase).countAborted

/-- The in-use module slots within a scope (R5). -/
def State.expectedSet (s : State) (x : Scope) : List Nat := s.modulesInUse.filter x.covers

/-- A trigger begins a round (R5). -/
def State.beginRound (s : State) (scope : Scope) (quiet : Bool) : State :=
  let o : OpenRound :=
    { scope, quiet, expected := s.expectedSet scope, reported := [], quietValid := []
      holdupSeen := s.supply.mode == .holdup, phaseTimer := none, serial := s.rounds.serial + 1
      cameSuspended := s.rounds.phase == .suspended }
  let opened := s.setRounds { s.rounds with openRound := some o, serial := s.rounds.serial + 1 }
  if s.rounds.phase == .suspended || s.rounds.wakePending then opened.wakeMonitors else opened.continueRound

/-- No round is open: IDLE or SUSPENDED. -/
def RoundPhase.isAtRest : RoundPhase → Bool
  | .idle | .suspended => true
  | .waking | .quietSettle | .collecting => false

/-! ### Triggers -/

/-- The effective interval in ms (R2). -/
def State.effectiveInterval (s : State) : Nat :=
  match s.supply.mode with
  | .normal => s.params.roundInterval
  | .holdup => max s.params.roundInterval (s.params.holdupInterval * 1000)

/-- An interval round is begun in the mode that R3 chooses. -/
def State.intervalRound (s : State) : State :=
  match s.supply.mode with
  | .holdup => s.beginRound .all false
  | .normal =>
    let n := s.rounds.quietCounter + 1
    let quiet := decide (s.params.quietEvery ≤ n)
    (s.setRounds { s.rounds with quietCounter := if quiet then 0 else n }).beginRound .all quiet

/-- The interval timer expires (R2). -/
def State.intervalOver (s : State) : State :=
  let s := s.setRounds { s.rounds with intervalEnd := s.after s.effectiveInterval }
  if s.rounds.phase.isAtRest && !(s.expectedSet .all).isEmpty then s.intervalRound
  else s.count fun c => { c with roundsSkipped := inc16 c.roundsSkipped }

/-! ### Collection -/

/-- Whether a MODULE REPORT of module `m` is accepted into the open round (R10). -/
def State.accepts (s : State) (m tag : Nat) : Bool :=
  s.rounds.phase == .collecting && tag == s.rounds.tag &&
    (s.rounds.openRound.any fun o => o.expected.contains m && !o.reported.contains m)

/-- The open round with an accepted report (R10). -/
def OpenRound.withReport (o : OpenRound) (m : Nat) (echo : Bool) : OpenRound :=
  { o with
    reported := o.reported ++ [m]
    quietValid := if o.quiet && echo then o.quietValid ++ [m] else o.quietValid }

/-- A MODULE REPORT reaches the Round Controller (R10, R11). -/
def State.takeModuleReport (s : State) (m : Nat) (x : ModuleReport) : State :=
  match s.rounds.openRound with
  | some o =>
    if s.accepts m x.tag then
      let o := o.withReport m x.quietEcho
      let s := (s.setRounds { s.rounds with openRound := some o }).applyReport m x
      if o.reported.length == o.expected.length then s.closeRound o true else s
    else s.count fun c => { c with staleReports := inc16 c.staleReports }
  | none => s.count fun c => { c with staleReports := inc16 c.staleReports }

/-! ### Sent frames and the phase timer -/

/-- The time that starts when a frame of this kind is reported sent in the phase that placed it (R6 to R8). -/
def State.settleTime (s : State) (kind : Nat) : Option Nat :=
  match s.rounds.phase with
  | .waking => if kind == kindWakeCall then some s.params.wakeSettle else none
  | .quietSettle => if kind == kindBleedHold then some s.params.quietSettle else none
  | .collecting => if kind == kindSampleCall then some s.params.roundDeadline else none
  | .idle | .suspended => none

/-- A frame is reported sent to the Round Controller (R8): it starts the phase timer if the open round placed it. -/
def State.roundFrameSent (s : State) (p : Placed) : State :=
  match s.rounds.openRound, s.settleTime p.frame.kind with
  | some o, some ms =>
    if p.round == some o.serial then
      s.setRounds { s.rounds with openRound := some { o with phaseTimer := some (s.after ms) } }
    else s
  | _, _ => s

/-- Whether the phase timer of the given phase has expired. -/
def State.phaseOver (s : State) (p : RoundPhase) : Bool :=
  s.rounds.phase == p && s.due (s.rounds.openRound.bind (·.phaseTimer))

/-- wake_settle expires (R6). -/
def State.wakeSettled (s : State) : State := (s.setRounds { s.rounds with wakePending := false }).continueRound

/-- round_deadline expires (R12). -/
def State.deadlineOver (s : State) : State :=
  match s.rounds.openRound with
  | some o => s.closeRound o true
  | none => s

/-! ### STOP ROUND and the supply -/

/-- Whether the WAKE CALL of the open round still waits in the NORMAL queue (R15). -/
def State.wakeWaiting (s : State) : Bool :=
  s.fieldPort.normal.any fun p =>
    p.frame.kind == kindWakeCall && p.round.isSome && p.round == s.rounds.openRound.map (·.serial)

/-- A round is abandoned in WAKING (R15). -/
def State.abandonWaking (s : State) : State :=
  let former : RoundPhase := if (s.rounds.openRound.map (·.cameSuspended)) == some true then .suspended else .idle
  let counted := s.countAborted
  if s.wakeWaiting then counted.endRound former
  else
    match s.supply.mode with
    | .holdup => (counted.placeRoundFrame (s.roundFrame kindSleepCall [])).endRound .suspended
    | .normal => (counted.setRounds { s.rounds with wakePending := false }).endRound .idle

/-- STOP ROUND (R15). -/
def State.stopRound (s : State) : State :=
  match s.rounds.phase with
  | .quietSettle | .collecting => s.abortRound
  | .waking => s.abandonWaking
  | .idle | .suspended => s

/-- HOLDUP begins while a round is open (R16). -/
def State.roundSeesHoldup (s : State) : State :=
  s.setRounds { s.rounds with openRound := s.rounds.openRound.map fun o => { o with holdupSeen := true } }

end Sys2Proof.Machine
end

