-- ==== Sys2Proof/Machine/Traffic.lean ====
section
/-! DEFINITION. The Traffic Table and the field side of the frame path (R153 to R158, R161): node states, consumption
and forwarding of field frames, and the Field transmitter. -/

namespace Sys2Proof.Machine

/-! ### Receive sides (R153) -/

/-- What a port's receive slot holds: the bytes taken of the frame that is arriving, or `none` while the side hunts. -/
def State.slot (s : State) (p : Port) : Option (List Byte) :=
  match p with
  | .station => s.stationPort.slot
  | .field => s.fieldPort.slot

def State.setSlot (s : State) (p : Port) (x : Option (List Byte)) : State :=
  match p with
  | .station => s.setStationPort { s.stationPort with slot := x }
  | .field => s.setFieldPort { s.fieldPort with slot := x }

/-- A MANAGEMENT REQUEST of the station controller to the part, which the Management Engine itself judges (R165). -/
def State.engineJudges (s : State) (p : Port) (f : Frame) : Bool :=
  p == .station && f.src == 0 && f.dest == s.sys.address && f.kind == kindManagementRequest

/-- A frame received whole leaves the receive side hunting, and is counted when it is malformed, but for a request that
the Management Engine judges (R153, R165; log 16). -/
def State.receiveWhole (s : State) (p : Port) (f : Frame) : State :=
  let s := s.setSlot p none
  if isMalformed f && !s.engineJudges p f then
    s.countPort p fun c => { c with malformedFrames := inc16 c.malformedFrames }
  else s

/-! ### Node states (R155, R156) -/

/-- The end of a silence timeout begun now; a timeout of 0 runs no timer (R155). -/
def State.silenceEnd (s : State) (timeout : Nat) : Option PartTime := if timeout == 0 then none else some (s.after timeout)

/-- A frame is taken from a node (R155, R157). -/
def State.nodeHeard (s : State) (i : Nat) (e : NodeEntry) : State :=
  let was := (s.nodeAt i).state
  let ends := s.silenceEnd e.timeout
  let s := s.modNode i fun r => { r with taken := inc16 r.taken, state := .live, silenceEnd := ends }
  if was == .silent then s.raise .nodeLive (some e.address) else s

/-- The effects of a node's silence on the block that owns its role (R156). -/
def State.silenceEffects (s : State) (r : Role) (record : Nat) : State :=
  match r with
  | .moduleMonitor | .other => s
  | .stringMonitor => s.monitorSilent record
  | .pcs => s.pcsSilent
  | .chiller => s.chillerSilent
  | .firePanel => s.panelSilent record
  | .meter => s.meterSilent

/-- A LIVE node's silence timer expires (R155). -/
def State.nodeSilenced (s : State) (i : Nat) (e : NodeEntry) : State :=
  let s := s.modNode i fun r => { r with state := .silent, silenceEnd := none }
  ((s.latch .nodeSilent).raise .nodeSilent (some e.address)).silenceEffects e.role e.recordIndex

/-! ### Field receive (R157, R158) -/

/-- The kind that a role's owning block consumes (R157). -/
def Role.kind : Role → Option Nat
  | .moduleMonitor => some kindModuleReport
  | .stringMonitor => some kindStringReport
  | .meter => some kindGridSample
  | .pcs => some kindPcsStatus
  | .chiller => some kindCoolantStatus
  | .firePanel => some kindDetectorReport
  | .other => none

/-- Hand a payload that fits its layout to `f`. -/
def State.hand {α : Type} (s : State) (r : Reader α) (payload : List Byte) (f : State → α → State) : State :=
  match readAll r payload with
  | some x => f s x
  | none => s

/-- The owning block of a role takes a payload of the role's kind (R157). -/
def State.consume (s : State) (e : NodeEntry) (payload : List Byte) : State :=
  match e.role with
  | .moduleMonitor => s.hand ModuleReport.read payload fun s x => s.takeModuleReport e.recordIndex x
  | .stringMonitor => s.hand StringReport.read payload fun s x => s.takeStringReport e.recordIndex x
  | .meter => s.hand GridSample.read payload State.takeGridSample
  | .pcs => s.hand PcsStatus.read payload State.takePcsStatus
  | .chiller => s.hand CoolantStatus.read payload State.takeCoolantStatus
  | .firePanel =>
    match detectorPairs payload with
    | some pairs => s.takeDetectorReport e.recordIndex e.address pairs
    | none => s
  | .other => s

/-- Consumption of a frame from a node: handed on, counted as a mismatch, or neither when it is malformed
(R153, R157). -/
def State.consumeFrame (s : State) (e : NodeEntry) (f : Frame) : State :=
  match e.role.kind with
  | none => s
  | some k =>
    if f.kind == k then (if isMalformed f then s else s.consume e f.payload)
    else s.count fun c => { c with kindMismatches := inc16 c.kindMismatches }

/-- Whether a policy offers a frame whose node's forward counter stands at `n`, and the counter after it (R158). A
counter that a load's lower N has left at or above N is taken to reach it (log 50). -/
def ForwardPolicy.offers (p : ForwardPolicy) (n : Nat) : Bool × Nat :=
  match p with
  | .all => (true, n)
  | .none => (false, n)
  | .everyN k => if k ≤ n + 1 then (true, 0) else (false, n + 1)

/-- Offer a frame to the Station queue under its node's policy (R158). -/
def State.forwardFrame (s : State) (i : Nat) (e : NodeEntry) (f : Frame) : State :=
  let (offered, n) := e.policy.offers (s.nodeAt i).forwardCounter
  let s := s.modNode i fun r => { r with forwardCounter := n }
  if offered then
    let admitted := s.stationPort.admitsForwarded
    let s := s.offerForwarded f
    if admitted then s.modNode i fun r => { r with forwarded := inc16 r.forwarded } else s
  else s

/-- A frame from an address with no entry (R157 step 2). -/
def State.unknownSource (s : State) (f : Frame) : State :=
  let s := s.count fun c => { c with unknownSources := inc16 c.unknownSources }
  if s.params.forwardUnknown then s.offerForwarded f
  else s.count fun c => { c with unknownDropped := inc16 c.unknownDropped }

/-- A frame received whole on the Field Port is taken by the Traffic Table (R157). -/
def State.takeFieldFrame (s : State) (f : Frame) : State :=
  if f.src == s.sys.address then s.count fun c => { c with ringReturns := inc16 c.ringReturns }
  else
    match s.nodeIndex fun e => e.address == f.src with
    | none => s.unknownSource f
    | some i =>
      match s.nodeEntry i with
      | none => s
      | some e => ((s.nodeHeard i e).consumeFrame e f).forwardFrame i e f

/-- A frame received whole on the Field Port (R153, R157). -/
def State.fieldReceive (s : State) (f : Frame) : State := (s.receiveWhole .field f).takeFieldFrame f

/-! ### Field transmission (R161) -/

/-- The arbiter starts a transmission when the transmitter is idle and a queue holds a waiting frame (R161). -/
def FieldPort.start (p : FieldPort) : FieldPort :=
  match p.sending, p.urgent, p.normal with
  | none, u :: rest, _ => { p with urgent := rest, sending := some (u, .urgent) }
  | none, [], n :: rest => { p with normal := rest, sending := some (n, .normal) }
  | _, _, _ => p

/-- The last byte of a frame has left: its place is freed, and the Round Controller is told (R161). -/
def State.fieldSent (s : State) : State :=
  match s.fieldPort.sending with
  | none => s
  | some (p, _) => (s.setFieldPort { s.fieldPort with sending := none }).roundFrameSent p

end Sys2Proof.Machine
end

