-- ==== Sys2Proof/Machine/Lines.lean ====
section
/-! DEFINITION. The Line Interface and the Supply Monitor (R174 to R178). -/

namespace Sys2Proof.Machine

/-! ### Debounce (R175) -/

/-- The line state that a raw level stands for under a polarity. -/
def LineEntry.stateOf (e : LineEntry) (high : Bool) : LineState :=
  match e.polarity with
  | .activeHigh => if high then .active else .inactive
  | .activeLow => if high then .inactive else .active

/-- The debounced state that line `i` now takes, if its level has stood for its debounce and brings a change. -/
def State.settles (s : State) (i : Nat) : Option LineState :=
  let r := s.lineAt i
  let e := s.lineEntry i
  if e.debounce ≤ s.age r.since && e.stateOf r.high != r.state then some (e.stateOf r.high) else none

/-- The line that holds a function that only one line may hold (R174). -/
def State.lineOf (s : State) (f : LineFunction) : Option Nat :=
  (List.range 8).find? fun i => (s.lineEntry i).function == f

def State.setLineState (s : State) (i : Nat) (x : LineState) : State := s.modLine i fun r => { r with state := x }

/-- The fixed debounce of MAINT in ms (R175). -/
def maintDebounce : Nat := 20

/-- The state that MAINT, active low, now takes, if its level has stood for its debounce and brings a change (R175). -/
def State.maintSettles (s : State) : Option Bool :=
  let m := s.lines.maint
  if maintDebounce ≤ s.age m.since && (!m.high) != m.active then some (!m.high) else none

/-- A raw level at a pin becomes `high`, which restarts the count (R175). -/
def State.pinBecomes (s : State) (pin : InputPin) (high : Bool) : State :=
  match pin with
  | .line i =>
    if (s.lineAt i).high == high then s else s.modLine i fun r => { r with high, since := s.time }
  | .maint =>
    if s.lines.maint.high == high then s
    else s.setLines { s.lines with maint := { s.lines.maint with high, since := s.time } }

/-! ### The events of the functions (R175, R176) -/

/-- The debounced breaker line changes (R114); a feedback that already stands is no change (R174). -/
def State.breakerLine (s : State) (closed : Bool) : State :=
  if (s.conn.feedback == .closed) == closed && s.conn.feedback != .unknown then s else s.breakerMoved closed

/-- The emergency stop becomes active: the four blocks act, the gate before or after the evaluation (R83, R176). -/
def State.eStopBegins (s : State) (gateIsFirst : Bool) : State :=
  let s := if gateIsFirst then s.holdForEStop.changeEval else s.changeEval.holdForEStop
  (s.forEach (List.range 4) fun i s => s.raiseCause i .eStop).trip .eStop

/-- The debounced E_STOP line becomes active (R176; log 4). -/
def State.eStopLine (s : State) : State := s.chooseGate State.eStopBegins

/-- The RELEASE_HOLD line changes (R147). -/
def State.holdLine (s : State) (x : LineState) : State :=
  match x with
  | .active => s.pauseCountdowns
  | .inactive | .unknown => s.resumeCountdowns

/-! ### T15 loads (R174) -/

/-- Whether a load changes a line's function, zone or polarity. -/
def LineEntry.changes (old new : LineEntry) : Bool :=
  old.function != new.function || old.zone != new.zone || old.polarity != new.polarity

/-- Whether a line has the function. -/
def State.hasLine (s : State) (f : LineFunction) : Bool := (s.lineOf f).isSome

/-- The BREAKER_CLOSED line is taken from its entry: the feedback becomes OPEN, which is a change of feedback once the
breaker has been adopted. Before that, start adopted keeps its value, unless no line is left to adopt the breaker from:
its position is then taken as OPEN (R119, R174; log 38). -/
def State.breakerReleased (s : State) : State :=
  if s.conn.startAdopted then s.breakerLine false
  else if s.hasLine .breakerClosed then s.setConn { s.conn with feedback := .isOpen }
  else s.adoptBreaker false

/-- A line's old function takes the line as inactive; a line that was active hands its owner a change to inactive
(R174). Countdowns kept paused since a reset wait for the RELEASE_HOLD line's first state, or run on where no line has
that function any more (R147, R151; log 38). -/
def State.lineReleased (old : LineEntry) (was : LineState) (s : State) : State :=
  match old.function with
  | .none => s
  | .breakerClosed => s.breakerReleased
  | .manualCall | .panelFire => if was == .active then s.fireLineMoved old else s
  | .releaseHold => if was == .active || !s.hasLine .releaseHold then s.resumeCountdowns else s
  | .eStop => if was == .active then s.changeEval else s

/-- A taken T15 load: each changed line becomes UNKNOWN and is debounced afresh, and its old function takes it as
inactive (R174). -/
def State.linesLoaded (s : State) (before : List LineEntry) : State :=
  let old (i : Nat) : LineEntry := before.getD i .builtIn
  let changed := (List.range 8).filter fun i => (old i).changes (s.lineEntry i)
  let was (i : Nat) : LineState := (s.lineAt i).state
  let afresh := s.forEach changed fun i t => t.modLine i fun r => { r with state := .unknown, since := s.time }
  afresh.forEach changed fun i t => t.lineReleased (old i) (was i)

/-! ### Supply (R177, R178) -/

/-- The supply mode becomes HOLDUP (R177). -/
def State.enterHoldup (s : State) : State :=
  let s := (s.setSupply { s.supply with mode := .holdup, restoreEnd := none }).raise .supplyHoldup none
  s.roundSeesHoldup.clearAllMasks.makeCoolant false

/-- The supply mode becomes NORMAL (R177). -/
def State.enterNormal (s : State) : State :=
  ((s.setSupply { s.supply with mode := .normal, restoreEnd := none }).raise .supplyNormal none).makeCoolant false

/-- The holdup-low condition begins (R178). -/
def State.holdupLowBegins (s : State) : State :=
  (((s.setSupply { s.supply with holdupLow := true }).latch .holdupLow).raise .holdupLow none).makeCoolant false

/-- The holdup-low condition ends (R178). -/
def State.holdupLowEnds (s : State) : State :=
  ((s.setSupply { s.supply with holdupLow := false }).raise .holdupRecovered none).makeCoolant false

end Sys2Proof.Machine
end

