-- ==== Sys2Proof/Machine/Loads.lean ====
section
/-! DEFINITION. What a taken load of each table does (R18 to R20, R56, R107, R113, R115, R150, R154, R169, R174), and
the operating parameters by identity with their clamps (R165, R169). -/

namespace Sys2Proof.Machine

/-! ### T10 (R18, R25, R41, R56) -/

/-- Whether a T10 load would change in use, modules_per_string or cells_per_module of a string that is IN_SERVICE,
ISOLATING or RESTORING (R18). -/
def State.stringSettingsBusy (s : State) (t : StringSettings) : Bool :=
  (List.range 4).any fun i =>
    let old := s.stringEntry i
    let new := t.entries.getD i old
    let st := (s.stringAt i).state
    (st == .inService || st == .isolating || st == .restoring) &&
      (old.inUse != new.inUse || old.modules != new.modules || old.cells != new.cells)

/-- The effects of a taken T10 load, `old` being the state before it. -/
def State.stringsLoaded (s old : State) : State :=
  let left := (List.range 48).filter fun m => old.moduleInUse m && !s.moduleInUse m
  let s := s.forEach left fun m s => s.modModule m fun r => { r with history := [] }
  let cleared := (List.range 48).filter fun m =>
    let a := old.stringEntry (stringOf m)
    let b := s.stringEntry (stringOf m)
    (a.inUse && !b.inUse) || a.cells != b.cells
  let s := if cleared.isEmpty then s else s.clearMasks cleared
  s.forEach ((List.range 4).filter fun i => (old.stringEntry i).capacityAh != (s.stringEntry i).capacityAh) fun i s =>
    (s.modCharge i fun r => r.recapped (s.stringEntry i).capacityAh).uncalibrate i

/-! ### T14 (R154) -/

/-- Whether an entry keeps its node state over a load (R154). -/
def sameNode (a b : Option NodeEntry) : Bool :=
  match a, b with
  | none, none => true
  | some x, some y => x.address == y.address && x.role == y.role && x.recordIndex == y.recordIndex
  | _, _ => false

/-- A node record over a load: kept where the entry is the same node, with a silence timer stopped where the timeout
is now 0; otherwise UNSEEN with its forward counter 0 (R154). -/
def NodeRec.loaded (r : NodeRec) (old new : Option NodeEntry) : NodeRec :=
  if sameNode old new then
    { r with silenceEnd := if (new.map (·.timeout)) == some 0 then none else r.silenceEnd }
  else { r with state := .unseen, silenceEnd := none, forwardCounter := 0 }

/-- The effects of a taken T14 load: the node records, and the silence effects of each LIVE node whose entry was
emptied or changed (R154). -/
def State.nodesLoaded (s : State) (before : List (Option NodeEntry)) : State :=
  let old (i : Nat) : Option NodeEntry := before.getD i none
  let lost := (List.range 64).filterMap fun i =>
    if (s.nodeAt i).state == .live && !(sameNode (old i) (s.nodeEntry i)) then old i else none
  let s := s.setNodes (s.nodes.mapIdx fun i r => r.loaded (old i) (s.nodeEntry i))
  lost.foldl (fun s e => s.silenceEffects e.role e.recordIndex) s

/-! ### Every table -/

/-- The zone of each module record follows T16 (R20). -/
def State.zonesLoaded (s : State) : State :=
  s.setModules (s.modules.mapIdx fun m r => { r with zone := s.tables.t16.getD m 0 })

/-- The working table is replaced, its CRC recorded, the dirty flag set, and its config fault ended (R169). -/
def State.putTable (s : State) (c : TableContents) : State :=
  let i := c.number - 1
  (s.setConfig { s.config with
      tables := s.config.tables.put c
      crcs := s.config.crcs.set i c.crc
      faulted := s.config.faulted.set i false }).setEngine { s.engine with dirty := true }

/-- What the new contents of a table do, `old` being the state before the load, and `entry` the index of an entry
load (R107, R113, R115, R150, R154, R174). -/
def State.tableLoaded (s old : State) (c : TableContents) (entry : Option Nat) : State :=
  match c with
  | .t8 _ => s.clearStages (entry.elim (List.range 8) fun i => [i])
  | .t9 _ => s.truncateHistory.watchReconnect
  | .t10 _ => s.stringsLoaded old
  | .t12 _ => s.detectorsLoaded old.tables.t12
  | .t13 _ => s.evaluateZones allZones
  | .t14 _ => s.nodesLoaded old.tables.t14
  | .t15 _ => s.linesLoaded old.tables.t15
  | .t16 _ => s.zonesLoaded
  | .t1 _ | .t2 _ | .t3 _ | .t4 _ | .t5 _ | .t6 _ | .t7 _ | .t11 _ => s

/-- A load that is taken. One that clears the last config fault changes F_CONFIG, and so causes an evaluation
(R61, R73). -/
def State.takeTable (s : State) (c : TableContents) (entry : Option Nat) : State :=
  let t := (s.putTable c).tableLoaded s c entry
  if s.anyFault && !(s.putTable c).anyFault then t.changeEval else t

/-! ### Operating parameters -/

def flagInt (b : Bool) : Int := if b then 1 else 0

/-- The value of the parameter of an identity, 1 to 39 (R165). -/
def Params.get (p : Params) (id : Nat) : Option Int :=
  match id with
  | 1 => some p.roundInterval
  | 2 => some p.holdupInterval
  | 3 => some p.quietEvery
  | 4 => some p.wakeSettle
  | 5 => some p.quietSettle
  | 6 => some p.roundDeadline
  | 7 => some p.missLimit
  | 8 => some p.onDelta
  | 9 => some p.offDelta
  | 10 => some p.maxBleed
  | 11 => some p.balanceCurrentLimit
  | 12 => some p.balanceTempLimit
  | 13 => some p.sampleInterval
  | 14 => some (p.trims.getD 0 0)
  | 15 => some (p.trims.getD 1 0)
  | 16 => some (p.trims.getD 2 0)
  | 17 => some (p.trims.getD 3 0)
  | 18 => some p.uncalFactor
  | 19 => some p.fullLevel
  | 20 => some p.fullRearm
  | 21 => some p.emptyLevel
  | 22 => some p.emptyRearm
  | 23 => some p.degradedFactor
  | 24 => some p.lostFactor
  | 25 => some p.fNom
  | 26 => some p.dispatchRamp
  | 27 => some p.frRamp
  | 28 => some p.frStep
  | 29 => some p.qMax
  | 30 => some p.stationTimeout
  | 31 => some p.failsafeP
  | 32 => some (flagInt p.failsafeFr)
  | 33 => some p.overshootTol
  | 34 => some p.overshootTime
  | 35 => some p.rocofWindow
  | 36 => some p.gridSampleInterval
  | 37 => some (flagInt p.forwardUnknown)
  | 38 => some p.auxRestoreDelay
  | 39 => some p.scrubPeriod
  | _ => none

/-- A value of quiet_every: the nearest of 1, 2, 4, 8 and 16 at or below it, or 1 below 1 (R3). -/
def clampQuietEvery (v : Int) : Int :=
  if 16 ≤ v then 16 else if 8 ≤ v then 8 else if 4 ≤ v then 4 else if 2 ≤ v then 2 else 1

/-- A value of f_nom: the nearer of 50000 and 60000; which one at the middle is free (R82; log 3). -/
def clampNominal (v : Int) : Int :=
  if v < 55000 then 50000 else if v == 55000 then (if Config.fNominalTieIsHigh then 60000 else 50000) else 60000

/-- A value clamped as the parameter of an identity is; the identities out of 1 to 39 leave it (R2, R3, R6 to R8, R13,
R37, R47 to R50, R68, R82, R103, R157, R177, R180). A yes / no one, carried as 1 and 0, is clamped to 0 to 1 (DEDUCED,
log 65). -/
def Params.clampValue (p : Params) (id : Nat) (v : Int) : Int :=
  match id with
  | 1 => let x := clampInt 100 10000 v; x - x % 100
  | 2 => clampInt 1 60 v
  | 3 => clampQuietEvery v
  | 4 => clampInt 5 100 v
  | 5 => clampInt 2 50 v
  | 6 => clampInt 10 200 v
  | 7 => clampInt 1 8 v
  | 8 => clampInt 5 200 v
  | 9 => clampInt 0 ((p.onDelta : Int) - 1) v
  | 10 => clampInt 1 16 v
  | 11 => clampInt 0 10000 v
  | 12 => clampInt (-80) 250 v
  | 13 => clampInt 1 100 v
  | 14 | 15 | 16 | 17 => clampInt (-512) 511 v
  | 18 | 23 | 24 => clampInt 0 1024 v
  | 19 | 21 => clampInt 0 5000 v
  | 20 => let x := clampInt 0 5000 v; if p.fullLevel ≤ x then p.fullLevel - 1 else x
  | 22 => let x := clampInt 0 5000 v; if x ≤ p.emptyLevel then p.emptyLevel + 1 else x
  | 25 => clampNominal v
  | 26 | 27 => clampInt 1 4000 v
  | 28 => clampInt 1 200 v
  | 29 => clampInt 0 4000 v
  | 30 => clampInt 1 60 v
  | 31 => clampInt (-4000) 4000 v
  | 32 | 37 => clampInt 0 1 v
  | 33 => clampInt 0 1000 v
  | 34 => clampInt 500 10000 v
  | 35 => clampInt 2 10 v
  | 36 => clampInt 10 100 v
  | 38 => clampInt 1 30 v
  | 39 => clampInt 1 60 v
  | _ => v

/-- The parameters with one stored. -/
def Params.set (p : Params) (id : Nat) (v : Int) : Params :=
  let n := v.toNat
  match id with
  | 1 => { p with roundInterval := n }
  | 2 => { p with holdupInterval := n }
  | 3 => { p with quietEvery := n }
  | 4 => { p with wakeSettle := n }
  | 5 => { p with quietSettle := n }
  | 6 => { p with roundDeadline := n }
  | 7 => { p with missLimit := n }
  | 8 => { p with onDelta := n }
  | 9 => { p with offDelta := n }
  | 10 => { p with maxBleed := n }
  | 11 => { p with balanceCurrentLimit := n }
  | 12 => { p with balanceTempLimit := v }
  | 13 => { p with sampleInterval := n }
  | 14 => { p with trims := p.trims.set 0 v }
  | 15 => { p with trims := p.trims.set 1 v }
  | 16 => { p with trims := p.trims.set 2 v }
  | 17 => { p with trims := p.trims.set 3 v }
  | 18 => { p with uncalFactor := n }
  | 19 => { p with fullLevel := v }
  | 20 => { p with fullRearm := v }
  | 21 => { p with emptyLevel := v }
  | 22 => { p with emptyRearm := v }
  | 23 => { p with degradedFactor := n }
  | 24 => { p with lostFactor := n }
  | 25 => { p with fNom := v }
  | 26 => { p with dispatchRamp := n }
  | 27 => { p with frRamp := n }
  | 28 => { p with frStep := n }
  | 29 => { p with qMax := n }
  | 30 => { p with stationTimeout := n }
  | 31 => { p with failsafeP := v }
  | 32 => { p with failsafeFr := v != 0 }
  | 33 => { p with overshootTol := n }
  | 34 => { p with overshootTime := n }
  | 35 => { p with rocofWindow := n }
  | 36 => { p with gridSampleInterval := n }
  | 37 => { p with forwardUnknown := v != 0 }
  | 38 => { p with auxRestoreDelay := n }
  | 39 => { p with scrubPeriod := n }
  | _ => p

/-- Store a clamped parameter; a lowered max_bleed reduces the masks at once (R39, R169). A timer that runs keeps its end:
a changed duration, as scrub_period, is used when the timer is next started (DESIGN CHOICE where the parameter's chapter
says nothing, log 62). -/
def State.storeParameter (s : State) (id : Nat) (v : Int) : State :=
  let s := (s.setConfig { s.config with params := s.config.params.set id v }).setEngine { s.engine with dirty := true }
  if id == 10 then s.reduceMasks else s

end Sys2Proof.Machine
end

