-- ==== Sys2Proof/Machine/Requests.lean ====
section
/-! DEFINITION. The Management Engine (R163, R165 to R171): the taking of a request, its checks, its own effect, and
its response. -/

namespace Sys2Proof.Machine

/-! ### Answers and checks -/

/-- What executing a request gives: the state, the status and the result data. -/
abbrev Answer := State × Status × ResultData

def State.ok (s : State) (d : ResultData) : Answer := (s, .ok, d)

def State.refuse (s : State) (x : Status) : Answer := (s, x, .none)

/-- A malformed request is refused, and counted (R165 check 3). -/
def State.refuseMalformed (s : State) : Answer :=
  (s.countPort .station fun c => { c with malformedFrames := inc16 c.malformedFrames }).refuse .refusedInvalid

/-- The checks 2 and 3 that come before a request's own (R165). -/
def State.checked (s : State) (needsMaint fits : Bool) (body : State → Answer) : Answer :=
  if needsMaint && !s.lines.maint.active then s.refuse .refusedMaint
  else if !fits then s.refuseMalformed
  else body s

/-- The argument byte at an offset. -/
def arg (args : List Byte) (i : Nat) : Nat := (args.getD i 0).toNat

/-- A request without arguments. -/
def State.plain (s : State) (needsMaint : Bool) (args : List Byte) (body : State → Answer) : Answer :=
  s.checked needsMaint args.isEmpty body

/-- A request whose one argument is a byte. -/
def State.byByte (s : State) (needsMaint : Bool) (args : List Byte) (body : Nat → State → Answer) : Answer :=
  s.checked needsMaint (args.length == 1) (body (arg args 0))

/-! ### READ STATUS (R166) -/

/-- The first state present, in the order of R166. -/
def worstState (states : List StringState) : StringState :=
  if states.contains .welded then .welded
  else if states.contains .lockedOut then .lockedOut
  else if states.contains .isolating then .isolating
  else if states.contains .restoring then .restoring
  else if states.contains .isolated then .isolated
  else if states.contains .awaiting then .awaiting
  else .inService

/-- The highest stage present (R166). -/
def worstStage (stages : List FireStage) : FireStage := stages.foldl FireStage.max .normal

/-- The snapshot that READ STATUS returns (R166). Its worst string state and its uncalibrated strings are those of all
four strings, in use or not (DESIGN CHOICE, log 57). -/
def State.statusView (s : State) : StatusView where
  cause := s.sys.cause
  time := s.time
  mode := s.supply.mode
  holdupLow := s.supply.holdupLow
  roundPhase := s.rounds.phase
  roundTag := s.rounds.tag
  worstString := worstState (s.strings.map (·.state))
  uncalibrated := (List.range 4).filter fun i => (s.stringAt i).charge.uncalibrated
  gate := s.gate
  connState := s.conn.state
  tripCause := s.conn.tripCause
  target := s.conn.target
  lockout := s.conn.lockout
  request := s.conn.request
  feedback := s.conn.feedback
  trips := s.conn.history.map fun t => (s.age t.time / 1000, t.cause)
  grid := s.grid
  coolant := s.thermal.coolant
  command := s.thermal.command
  chiller := s.thermal.lastStatus
  worstZone := worstStage (s.fire.zones.map (·.stage))
  writing := s.engine.store.isSome
  dirty := s.engine.dirty
  flags := s.flags.latched
  counters := s.counters
  chargeCounts := s.strings.map fun r => (r.charge.overrange, r.charge.filled, r.charge.gaps)
  detectorCounts := s.fire.detectors.map fun d => (d.reports, d.loopFaults)
  nodeCounts := s.nodes.map fun n => (n.taken, n.forwarded)
  noticesWaiting := s.notices.length
  lines := (List.range 8).map fun i => ((s.lineEntry i).function, (s.lineAt i).state)
  maintActive := s.lines.maint.active

def State.readStatus (args : List Byte) (s : State) : Answer := s.plain false args fun s => s.ok (.status s.statusView)

/-! ### READ RECORDS (R167) -/

def RecordClass.named (n : Nat) : Option RecordClass :=
  match n with
  | 0 => some .cell
  | 1 => some .module
  | 2 => some .string
  | 3 => some .zone
  | 4 => some .detector
  | 5 => some .node
  | 6 => some .stage
  | _ => none

/-- The largest count of a class (R167). -/
def RecordClass.largest : RecordClass → Nat
  | .cell => 16
  | .module => 2
  | .string => 1
  | .zone => 4
  | .detector => 6
  | .node => 6
  | .stage => 4

/-- How many start indices a class has (R167). -/
def RecordClass.size : RecordClass → Nat
  | .cell => 192
  | .module => 12
  | .string => 4
  | .zone => 8
  | .detector => 16
  | .node => 64
  | .stage => 8

/-- The in-use cell indices of a string, in ascending order (R167). -/
def State.cellGroup (s : State) (i : Nat) : List Nat :=
  ((List.range (s.stringEntry i).modules).map fun p =>
    (List.range (s.stringEntry i).cells).map fun c => 16 * p + c).flatten

/-- The group of indices that a class circulates in (R167). -/
def State.recordGroup (s : State) (c : RecordClass) (string : Nat) : List Nat :=
  match c with
  | .cell => s.cellGroup string
  | .module | .string | .zone | .detector | .node | .stage => List.range c.size

/-- A group turned so that it begins at the start index, or at the next group index above it, or at its first
(R167). -/
def turned (group : List Nat) (start : Nat) : List Nat :=
  let j := (group.findIdx? (start ≤ ·)).getD 0
  group.drop j ++ group.take j

/-- The cell record at a cell index of a string. -/
def State.cellAt (s : State) (string index : Nat) : CellRec :=
  (s.moduleAt (12 * string + index / 16)).cells.getD (index % 16) .atReset

/-- Whether a cell bleeds: its position is in its module's mask (R22). -/
def State.bleeds (s : State) (string index : Nat) : Bool :=
  (s.moduleAt (12 * string + index / 16)).mask.contains (index % 16)

/-- A release countdown as it stands at the request's arrival (R134, R143). -/
def State.countdownView (s : State) (c : Countdown) : CountdownView :=
  ⟨s.remaining c,
    match c with
    | .running _ => true
    | .paused _ => false⟩

/-- A zone's fire record as it stands at the request's arrival (R134). -/
def State.fireView (s : State) (z : Nat) : FireZoneView :=
  let r := s.fireZone z
  ⟨r.stage, r.target, r.cellGrade, r.lineIndication, r.unwatched, r.countdown.map s.countdownView, r.fireTime⟩

/-- One record as READ RECORDS returns it (R167). -/
def State.recordView (s : State) (c : RecordClass) (string i : Nat) : RecordView :=
  match c with
  | .cell => .cell (s.cellAt string i) (s.bleeds string i)
  | .module => .module (s.moduleAt (12 * string + i))
  | .string => .string (s.stringAt i)
  | .zone => .zone (s.thermal.zones.getD i (.atReset false 0)) (s.zoneEntry i) (s.fireView i)
  | .detector => .detector (s.detectorAt i)
  | .node => .node (s.nodeEntry i) (s.nodeAt i)
  | .stage => .stage (s.stageAt i) (s.stageEntry i)

/-- The records read, the number returned, the next index, and with ZONE the command record and the last chiller
status (R134, R167). -/
def State.records (s : State) (c : RecordClass) (string start count : Nat) : ResultData :=
  let order := turned (s.recordGroup c string) start
  let n := min (min (max count 1) c.largest) order.length
  .records ((order.take n).map fun i => (i, s.recordView c string i)) n (order.getD n (order.headD 0))
    (if c == .zone then some (s.thermal.command, s.thermal.lastStatus) else none)

/-- READ RECORDS (R167). A string not in use is refused for class CELL alone, as R167 lists it: a MODULE record of such a
string, and its STRING record, are answered OK, although R18 has requests naming it refused (DEDUCED, log 66). -/
def State.readRecords (args : List Byte) (s : State) : Answer :=
  s.checked false (args.length == 4) fun s =>
    match RecordClass.named (arg args 0) with
    | none => s.refuse .refusedInvalid
    | some c =>
      let string := arg args 1
      let start := arg args 2
      if 3 < string || (c == .cell && !(s.stringEntry string).inUse) || c.size ≤ start then s.refuse .refusedInvalid
      else s.ok (s.records c string start (arg args 3))

/-! ### SCAN CELLS (R168) -/

inductive CellTest where
  | vGe | vLe | bandNotNormal | bleedOn | unknown
  deriving DecidableEq, Repr

def CellTest.named (n : Nat) : Option CellTest :=
  match n with
  | 0 => some .vGe
  | 1 => some .vLe
  | 2 => some .bandNotNormal
  | 3 => some .bleedOn
  | 4 => some .unknown
  | _ => none

/-- Whether a cell passes a test (R168). -/
def CellTest.passes (t : CellTest) (k : CellRec) (bleed : Bool) (threshold : Nat) : Bool :=
  match t with
  | .vGe => k.latest.any fun v => decide (threshold ≤ v)
  | .vLe => k.latest.any fun v => decide (v ≤ threshold)
  | .bandNotNormal => k.band != .normal
  | .bleedOn => bleed
  | .unknown => k.band == .unknown

/-- Whether the scan steps up: direction 0 UP, 1 DOWN, and any other byte free (R168; log 10). -/
def scanUp (n : Nat) : Bool :=
  match n with
  | 0 => true
  | 1 => false
  | n => Config.unnamedDirectionIsUp n

/-- The mode of a scan: 0 UNTIL (`true`), 1 WHILE. -/
def scanMode (n : Nat) : Option Bool :=
  match n with
  | 0 => some true
  | 1 => some false
  | _ => none

/-- The scan over the cells to be examined, in order: the stop index and the number examined (R168). -/
def scanFrom (stops : Nat → Bool) : List Nat → Option Nat × Nat
  | [] => (none, 0)
  | i :: rest => if stops i then (some i, 1) else ((scanFrom stops rest).1, (scanFrom stops rest).2 + 1)

/-- The scan of a string (R168). -/
def State.scan (s : State) (string start : Nat) (up : Bool) (count : Nat) (test : CellTest) (threshold : Nat)
    (untilPass : Bool) : ResultData :=
  let group := s.cellGroup string
  let ahead := if up then group.filter (start ≤ ·) else (group.filter (· ≤ start)).reverse
  let wanted := min (max count 1) 192
  let stops (i : Nat) : Bool := test.passes (s.cellAt string i) (s.bleeds string i) threshold == untilPass
  let (stop, examined) := scanFrom stops (ahead.take wanted)
  .scan stop examined (wanted - examined)

def State.scanCells (args : List Byte) (s : State) : Answer :=
  s.checked false (args.length == 8) fun s =>
    let string := arg args 0
    let start := arg args 1
    if 3 < string || !(s.stringEntry string).inUse || !((s.cellGroup string).contains start) then
      s.refuse .refusedInvalid
    else
      match CellTest.named (arg args 4), scanMode (arg args 7) with
      | some test, some untilPass =>
        s.ok (s.scan string start (scanUp (arg args 2)) (arg args 3) test (arg args 5 * 256 + arg args 6) untilPass)
      | _, _ => s.refuse .refusedInvalid

/-! ### Tables and parameters (R80, R169) -/

def State.readEnvelope (args : List Byte) (s : State) : Answer :=
  s.plain false args fun s =>
    let s := s.evaluate
    s.ok (.envelope s.envelope.record)

def State.readTable (args : List Byte) (s : State) : Answer :=
  s.byByte false args fun n s =>
    match s.tables.get n with
    | some c => s.ok (.table c (s.config.crcs.getD (n - 1) 0) (s.isFaulted n))
    | none => s.refuse .refusedInvalid

/-- Whether a table is protected: T1 to T10 and T12 to T16 (R165). -/
def isProtectedTable (n : Nat) : Bool := 1 ≤ n && n ≤ 16 && n != 11

/-- A whole load's own checks and its taking (R169, R18). -/
def State.loadContents (n : Nat) (bytes : List Byte) (s : State) : Answer :=
  match parseTable n bytes with
  | none => s.refuse .refusedInvalid
  | some c =>
    if !c.valid then s.refuse .refusedInvalid
    else
      match c with
      | .t10 t => if s.stringSettingsBusy t then s.refuse .refusedState else (s.takeTable c none).ok (.crc c.crc)
      | _ => (s.takeTable c none).ok (.crc c.crc)

def State.loadTable (args : List Byte) (s : State) : Answer :=
  match args with
  | [] => s.refuseMalformed
  | b :: bytes =>
    let n := b.toNat
    if isTable n then s.checked (isProtectedTable n) (tableLengthOk n bytes) (State.loadContents n bytes)
    else s.refuse .refusedInvalid

/-- The table that would result from an entry load, if it passes its checks (R104, R135, R154, R169). An entry index
beyond the table is refused with REFUSED_INVALID as a failed check, and is not malformed (DESIGN CHOICE, log 68). -/
def State.entryResult (s : State) (n i : Nat) (bytes : List Byte) : Option TableContents :=
  match n with
  | 8 => (readAll StageEntry.read bytes).bind fun e =>
      if decide (i < 8) && e.valid then some (.t8 (s.tables.t8.set i e)) else none
  | 12 => (readAll DetectorEntry.read bytes).bind fun e =>
      if decide (i < 16) && e.valid then some (.t12 (s.tables.t12.set i e)) else none
  | 14 => (readAll readNodeEntry bytes).bind fun e =>
      let t := s.tables.t14.set i e
      if decide (i < 64) && nodeTableValid t then some (.t14 t) else none
  | _ => none

def State.loadEntry (args : List Byte) (s : State) : Answer :=
  match args with
  | [] => s.refuseMalformed
  | [b] => if isTable b.toNat then s.checked (isProtectedTable b.toNat) false State.refuseMalformed else s.refuse .refusedInvalid
  | b :: i :: bytes =>
    let n := b.toNat
    if isTable n then
      s.checked (isProtectedTable n) (entryLengthOk n bytes) fun s =>
        match s.entryResult n i.toNat bytes with
        | some c => (s.takeTable c (some i.toNat)).ok (.crc c.crc)
        | none => s.refuse .refusedInvalid
    else s.refuse .refusedInvalid

/-- The signed value of a SET PARAMETER (R165). -/
def parameterValue (args : List Byte) : Int :=
  toSigned32 (((arg args 1 * 256 + arg args 2) * 256 + arg args 3) * 256 + arg args 4)

/-- SET PARAMETER (R169). A value equal to the one held that now lies outside its range, its partner having moved, is
clamped and answered CLAMPED (DESIGN CHOICE, log 58). -/
def State.setParameter (args : List Byte) (s : State) : Answer :=
  s.checked false (args.length == 5) fun s =>
    let id := arg args 0
    let v := parameterValue args
    match s.params.get id with
    | none => s.refuse .refusedInvalid
    | some _ =>
      let x := s.params.clampValue id v
      (s.storeParameter id x, if x == v then .ok else .clamped, .parameter x)

/-! ### Image, flags, counters and restart (R170, R171) -/

/-- The time one image record takes, in ms (R170). -/
def recordTime : Nat := 20

def State.storeImage (args : List Byte) (s : State) : Answer :=
  s.plain false args fun s =>
    if s.engine.store.isSome then s.refuse .refusedBusy
    else
      let w : StoreWrite :=
        ⟨s.tables, s.params, s.strings.map (·.charge.soc), 1, s.after recordTime, none⟩
      (s.setEngine { s.engine with store := some w, dirty := false }).ok .none

def State.clearFlagsRequest (args : List Byte) (s : State) : Answer :=
  s.checked false (args.length == 2) fun s =>
    let s := s.clearFlags (BitVec.ofNat 16 (arg args 0 * 256 + arg args 1))
    s.ok (.flags s.flags.latched)

/-- Every counter that its chapter names as cleared by CLEAR COUNTERS is 0 (R171, R43, R137). -/
def State.zeroCounters (s : State) : State :=
  let s := s.setCounters {}
  let s := s.setStrings (s.strings.map fun r =>
    { r with charge := { r.charge with overrange := 0, filled := 0, gaps := 0 } })
  s.setFire { s.fire with detectors := s.fire.detectors.map fun d => { d with reports := 0, loopFaults := 0 } }

def State.clearCountersRequest (args : List Byte) (s : State) : Answer :=
  s.plain false args fun s => s.zeroCounters.ok .none

def State.restartRequest (args : List Byte) (s : State) : Answer :=
  s.plain true args fun s => (s.setEngine { s.engine with restartPending := true }).ok .none

/-! ### Rounds and strings (R4, R15, R33, R35) -/

def scopeOfFin (k : Fin 3) (index : Nat) : Scope :=
  match k with
  | 0 => .all
  | 1 => .string index
  | 2 => .module index

/-- The scope of a START ROUND: 0 ALL, 1 STRING, 2 MODULE, and any other byte free (R165; log 10). -/
def scopeOf (kind index : Nat) : Scope :=
  match kind with
  | 0 => .all
  | 1 => .string index
  | 2 => .module index
  | k => scopeOfFin (Config.unnamedScope k) index

/-- The quiet option: 1 yes, 0 no, and any other byte free (log 10). -/
def quietOption (n : Nat) : Bool :=
  match n with
  | 0 => false
  | 1 => true
  | n => Config.unnamedQuietOption n

/-- Whether a scope names a string or a slot that exists and is in use (R4). -/
def State.scopeInUse (s : State) (x : Scope) : Bool :=
  match x with
  | .all => true
  | .string i => decide (i ≤ 3) && (s.stringEntry i).inUse
  | .module m => decide (m ≤ 47) && s.moduleInUse m

def State.startRound (args : List Byte) (s : State) : Answer :=
  s.checked false (args.length == 3) fun s =>
    let scope := scopeOf (arg args 0) (arg args 1)
    if !s.rounds.phase.isAtRest then s.refuse .refusedBusy
    else if !s.scopeInUse scope then s.refuse .refusedInvalid
    else if (s.expectedSet scope).isEmpty then s.refuse .refusedState
    else
      let quiet := quietOption (arg args 2) && s.supply.mode == .normal
      (s.beginRound scope quiet).ok (.round scope quiet)

def State.stopRoundRequest (args : List Byte) (s : State) : Answer := s.plain false args fun s => s.stopRound.ok .none

/-- A request that names a string, refused where the string is out of range or not in use (R33, R35). -/
def State.byString (s : State) (needsMaint : Bool) (args : List Byte) (body : Nat → State → Answer) : Answer :=
  s.byByte needsMaint args fun i s =>
    if 3 < i || !(s.stringEntry i).inUse then s.refuse .refusedInvalid else body i s

def State.isolateString (args : List Byte) (s : State) : Answer :=
  s.byString false args fun i s => (s.raiseCause i .request).ok .none

def State.restoreString (args : List Byte) (s : State) : Answer :=
  s.byString false args fun i s =>
    match s.restoreRefusal i with
    | some reason => (s, .refusedState, .restore reason)
    | none => (s.restore i).ok .none

def State.resetStringRequest (args : List Byte) (s : State) : Answer :=
  s.byString true args fun i s =>
    if (s.stringAt i).resettable then (s.resetString i).ok .none else s.refuse .refusedState

/-! ### Gate, connection and fire (R84, R117, R118, R149) -/

/-- A HELD gate is released (R84). -/
def State.releaseHeld (s : State) : State :=
  (s.setGate { s.gate with state := .passing, heldCause := none }).raise .gatePassing none

def State.releaseGate (args : List Byte) (s : State) : Answer :=
  s.plain false args fun s =>
    if s.gate.state == .held then
      if s.lineIsActive .eStop then (s, .refusedState, .gate s.gate.state)
      else s.releaseHeld.ok (.gate .passing)
    else s.ok (.gate s.gate.state)

def State.connect (args : List Byte) (s : State) : Answer :=
  s.plain false args fun s =>
    if s.conn.state == .openLocked then (s, .refusedState, .connection s.conn.state)
    else (s.setConn { s.conn with request := .connect }).ok (.connection s.conn.state)

def State.disconnectRequest (args : List Byte) (s : State) : Answer :=
  s.plain false args fun s =>
    let s := s.disconnect
    s.ok (.connection s.conn.state)

def State.resetLockoutRequest (args : List Byte) (s : State) : Answer :=
  s.plain true args fun s =>
    if s.anyConfirmed || (s.conn.state == .openLocked && s.conn.feedback == .closed) then s.refuse .refusedState
    else s.resetLockout.ok .none

def State.resetFireRequest (args : List Byte) (s : State) : Answer :=
  s.byByte true args fun z s =>
    if 7 < z then s.refuse .refusedInvalid
    else if s.resetFireBlocked z then s.refuse .refusedState
    else
      let s := s.resetFireZone z
      s.ok (.fireStage (s.fireZone z).stage)

/-! ### Taking a request (R163, R165) -/

/-- A place of the Station queue is reserved, the request executed, and its response put in that place (R163). -/
def State.answer (s : State) (code : Nat) (body : State → Answer) : State :=
  let held := s.setStationPort { s.stationPort with reserved := s.stationPort.reserved + 1 }
  let (t, status, result) := body held
  t.setStationPort { t.stationPort with
    reserved := t.stationPort.reserved - 1
    queue := t.stationPort.queue ++ [.response ⟨code, status, result⟩] }

/-- A request addressed to the part: discarded while restart pending holds or no place is free, and otherwise
executed (R163, R171). -/
def State.serve (s : State) (code : Nat) (body : State → Answer) : State :=
  if s.engine.restartPending || 32 ≤ s.stationPort.used then
    s.count fun c => { c with requestsDiscarded := inc16 c.requestsDiscarded }
  else s.answer code body

/-- A request code the part does not know (R165). -/
def State.unknownCode (s : State) : Answer := s.refuse .unknownRequest

/-- The request of a code, with its arguments (R165). -/
def requestOf (code : Nat) (args : List Byte) : Option (State → Answer) :=
  match code with
  | 1 => some (State.readStatus args)
  | 2 => some (State.readRecords args)
  | 3 => some (State.scanCells args)
  | 4 => some (State.readEnvelope args)
  | 5 => some (State.readTable args)
  | 6 => some (State.loadTable args)
  | 7 => some (State.loadEntry args)
  | 8 => some (State.setParameter args)
  | 9 => some (State.storeImage args)
  | 10 => some (State.clearFlagsRequest args)
  | 11 => some (State.clearCountersRequest args)
  | 12 => some (State.restartRequest args)
  | 13 => some (State.startRound args)
  | 14 => some (State.stopRoundRequest args)
  | 15 => some (State.isolateString args)
  | 16 => some (State.restoreString args)
  | 17 => some (State.resetStringRequest args)
  | 18 => some (State.releaseGate args)
  | 19 => some (State.connect args)
  | 20 => some (State.disconnectRequest args)
  | 21 => some (State.resetLockoutRequest args)
  | 22 => some (State.resetFireRequest args)
  | _ => none

/-- A MANAGEMENT REQUEST payload is taken: a request code and its arguments; without a code the echo is 0 (R165). -/
def State.managementRequest (s : State) (payload : List Byte) : State :=
  match payload with
  | [] => s.serve 0 State.unknownCode
  | b :: args => s.serve b.toNat ((requestOf b.toNat args).getD State.unknownCode)

/-- A valid frame from the station controller has arrived whole (R153, R159). -/
def State.requestArrives (s : State) : State := (s.setSlot .station none).stationHeard

/-! ### Station receive (R159) -/

/-- The kinds that the part alone originates, but for DISPATCH (R159). -/
def isPartOwned (kind : Nat) : Bool :=
  kind == kindDispatchResult || kind == kindSampleCall || kind == kindBleedHold || kind == kindBleedSet ||
    kind == kindSleepCall || kind == kindWakeCall || kind == kindCoolantCommand || kind == kindContactorCommand ||
    kind == kindManagementResponse || kind == kindNotice

/-- A frame forwarded unchanged to the Field NORMAL queue, or dropped when it is full (R159 step 6; log 17). -/
def State.forwardToField (s : State) (f : Frame) : State :=
  if s.fieldPort.normalUsed < 32 then
    s.setFieldPort { s.fieldPort with normal := s.fieldPort.normal ++ [⟨f, none⟩] }
  else s.count fun c => { c with fieldForwardLost := inc16 c.fieldForwardLost }

/-- A DISPATCH reaches the Gate, unless it is malformed (R153, R159). -/
def State.dispatchArrives (s : State) (f : Frame) : State :=
  if isMalformed f then s
  else
    match DispatchOrder.read f.payload with
    | some (o, _) => s.takeDispatch f.dest o
    | none => s

/-- The steps of R159 after the source and the silence timer. -/
def State.stationSteps (s : State) (f : Frame) : State :=
  if isPartOwned f.kind then
    (s.count fun c => { c with usurpedFrames := inc16 c.usurpedFrames }).raise .usurpedKind (some f.kind)
  else if f.dest == s.sys.address then
    if f.kind == kindManagementRequest then s.managementRequest f.payload
    else s.count fun c => { c with stationMisaddressed := inc16 c.stationMisaddressed }
  else if f.kind == kindDispatch then s.dispatchArrives f
  else s.forwardToField f

/-- A frame received whole on the Station Port (R159). -/
def State.stationReceive (s : State) (f : Frame) : State :=
  let s := s.receiveWhole .station f
  if f.src != 0 then s.count fun c => { c with stationForeignSrc := inc16 c.stationForeignSrc }
  else s.stationHeard.stationSteps f

end Sys2Proof.Machine
end

