-- ==== Sys2Proof/Machine/Startup.lean ====
section
/-! DEFINITION. The configuration image and the resets (R42, R57, R58, R100, R119, R133, R151, R164, R170, R179,
R180). -/

namespace Sys2Proof.Machine

/-! ### Writing and scrubbing (R170, R180) -/

/-- The image with one record of a store written: `correct` says that it read back with a correct CRC (R170). -/
def Image.written (m : Image) (w : StoreWrite) (correct : Bool) : Image :=
  { tables := m.tables.copy w.tables w.record
    params := if w.record == 17 then w.params else m.params
    soc := if w.record == 18 then w.soc else m.soc
    ok := m.ok.set (w.record - 1) correct }

/-- One image record finishes its write and check (R170). -/
def State.recordWritten (s : State) (correct : Bool) : State :=
  match s.engine.store with
  | none => s
  | some w =>
    let failed := w.failed.or (if correct then none else some w.record)
    let s := s.setImage (s.image.written w correct)
    if w.record < 18 then
      s.setEngine { s.engine with
        store := some { w with record := w.record + 1, due := s.after recordTime, failed } }
    else
      match failed with
      | none => (s.setEngine { s.engine with store := none }).raise .storeDone none
      | some n => (s.setEngine { s.engine with store := none, dirty := true }).raise .storeFailed (some n)

/-- A store write in progress is cut off: the record being written is left with a bad CRC (R170). -/
def State.cutStore (s : State) : State :=
  match s.engine.store with
  | none => s
  | some w =>
    (s.setImage { s.image with ok := s.image.ok.set (w.record - 1) false }).setEngine
      { s.engine with store := none }

/-- One table at a scrub pass (R180). -/
def State.scrubTable (n : Nat) (s : State) : State :=
  let crc := ((s.tables.get n).map TableContents.crc).getD 0
  if crc == s.config.crcs.getD (n - 1) 0 || s.isFaulted n then s
  else
    ((s.setConfig { s.config with faulted := s.config.faulted.set (n - 1) true }).latch .configFault).raise
      .configFault (some n)

/-- A scrub pass; the first fault to arise while no table was faulted causes an evaluation (R180, R73), which is made
once, after the pass (DESIGN CHOICE, log 56). -/
def State.scrub (s : State) : State :=
  let t := s.forEach ((List.range 16).map (· + 1)) State.scrubTable
  if !s.anyFault && t.anyFault then t.changeEval else t

/-! ### The beginning of a reset (R179) -/

/-- A reset begins, or begins again: the store is cut off, the queues and flags are lost, and the outputs go idle;
RELEASE_OUT is deasserted by a brown-out alone (R164, R170, R173, R179). -/
def State.beginReset (s : State) (brownOut resetn : Bool) : State :=
  let held := s.sys.hold.getD ⟨false, false⟩
  let s := s.cutStore
  let s := s.setSys { s.sys with hold := some ⟨held.brownOut || brownOut, held.resetn || resetn⟩ }
  let s := s.setConn { s.conn with tripOut := none, closeOut := none }
  let s := s.setFire { s.fire with releaseOut := s.fire.releaseOut && !brownOut }
  let s := s.setEngine { s.engine with restartPending := false }
  ((s.setFieldPort .atReset).setStationPort .atReset).setFlags ⟨0, false⟩

/-- The reset cause (R179). -/
def ResetHold.cause (h : ResetHold) : ResetCause :=
  if h.brownOut then .powerOn else if h.resetn then .resetLine else .restart

/-! ### The image load (R179) -/

/-- Whether record `n`, 1 to 18, of the image passes its check. -/
def Image.passes (m : Image) (n : Nat) : Bool := m.ok.getD (n - 1) false

/-- The working tables after an image load: each that passes, and the built-in default of each that fails. -/
def Image.loadedTables (m : Image) : Tables :=
  ((List.range 16).map (· + 1)).foldl (fun t n => if m.passes n then t.copy m.tables n else t) .builtIn

/-- The Configuration Store after an image load (R179). -/
def Image.loaded (m : Image) : ConfigStore :=
  let tables := m.loadedTables
  let params := if m.passes 17 then m.params else .builtIn
  { tables, crcs := tables.crcs, params
    faulted := ((List.range 16).map (· + 1)).map fun n => !m.passes n
    scrubEnd := BitVec.ofNat 32 (params.scrubPeriod * 1000) }

/-- The stored SOC of each string, or 512 where the record fails (R58). -/
def Image.loadedSoc (m : Image) : List Nat := if m.passes 18 then m.soc else [512, 512, 512, 512]

/-! ### Reset states -/

/-- A charge record at the end of a reset (R57, R58). -/
def chargeAfterReset (cause : ResetCause) (old : ChargeRec) (storedSoc capacityAh : Nat) : ChargeRec :=
  match cause with
  | .powerOn => .atPowerOn storedSoc capacityAh
  | .resetLine | .restart => old.retained capacityAh

/-- A string record at the end of a reset (R42). -/
def stringAfterReset (cause : ResetCause) (old : StringRec) (storedSoc capacityAh : Nat) : StringRec :=
  { StringRec.atReset (chargeAfterReset cause old.charge storedSoc capacityAh) with
    retained :=
      match cause with
      | .powerOn => .none
      | .resetLine | .restart => old.retained }

/-- The trip history at the end of a retaining reset: each entry keeps its age (R119). -/
def State.keptHistory (s : State) : List Trip := s.conn.history.map fun t => { t with time := t.time - s.time }

/-- The connection record at the end of a reset, on the reloaded tables (R119). -/
def State.connAfterReset (s : State) (cause : ResetCause) (t : Tables) : ConnRec :=
  let retains := cause != .powerOn
  let history := if retains then s.keptHistory else []
  let full := decide (t.t9.tripLimit ≤ history.length)
  let kept := if retains then s.conn.lockout else .none
  let lockout := if full && kept == .none then .history else kept
  let noLine := !(t.t15.any (·.function == .breakerClosed))
  { state := if lockout == .none then .openWait else .openLocked
    feedback := if noLine then .isOpen else .unknown
    tripCause := none, target := none, lockout
    history := if full then lastEntries t.t9.tripLimit history else history
    request := .none, startAdopted := noLine, reconnectEnd := none, breakerEnd := none
    historyEnd := 1000, tripOut := none, closeOut := none }

/-- A zone fire record at the end of a reset; a kept countdown is paused while a line has the RELEASE_HOLD function,
and otherwise runs (R151). -/
def State.fireZoneAfterReset (s : State) (cause : ResetCause) (t : Tables) (z : FireZone) : FireZone :=
  if cause != .powerOn && z.stage.confirmed then
    let holdLine := t.t15.any (·.function == .releaseHold)
    { FireZone.atReset with
      stage := z.stage, target := .fire, fireTime := some 0
      countdown := z.countdown.map fun c =>
        if holdLine then .paused (s.remaining c) else .running (BitVec.ofNat 32 (s.remaining c)) }
  else .atReset

/-- Whether module slot `m` is in use under the given T10 (R18). -/
def slotInUse (t : Tables) (m : Nat) : Bool :=
  let e := t.t10.entries.getD (stringOf m) { StringEntry.builtIn with inUse := false }
  e.inUse && decide (m % 12 < e.modules)

/-- A Thermal Controller zone record at the end of a reset (R133). -/
def zoneAfterReset (t : Tables) (z : Nat) : ZoneRec :=
  .atReset ((List.range 48).any fun m => t.t16.getD m 0 == z && slotInUse t m) t.t11.fallbackCode

/-- Each block takes its reset state (R17, R21, R42, R81, R100, R101, R119, R133, R151, R164, R170, R175, R177,
R178). -/
def State.blocksAfterReset (s : State) (cause : ResetCause) (found : ResetEnd) : State :=
  let config := s.image.loaded
  let p := config.params
  let t := config.tables
  let mode : SupplyMode := if found.vauxAbove then .normal else .holdup
  let interval :=
    match mode with
    | .normal => p.roundInterval
    | .holdup => max p.roundInterval (p.holdupInterval * 1000)
  let zones := s.fire.zones.map (s.fireZoneAfterReset cause t)
  { pending := s.pending
    time := 0
    sys := ⟨none, cause, 120 + found.addrPins.val⟩
    rounds := ⟨.idle, 0, true, 0, none, BitVec.ofNat 32 interval, 0⟩
    modules := t.t16.map ModuleRec.atReset
    strings := s.strings.mapIdx fun i r =>
      stringAfterReset cause r (s.image.loadedSoc.getD i 512) ((t.t10.entries.getD i .builtIn).capacityAh)
    cellsHold := false
    limits := t.closeLimits
    envelope := ⟨.atReset, 1000⟩
    gate := ⟨.held, some (if cause == .powerOn then .start else .restart), 0, 0, false, 0, 0, 0, 0, none,
      some (BitVec.ofNat 32 (p.stationTimeout * 1000)), none, none, true⟩
    grid := .atReset
    conn := s.connAfterReset cause t
    thermal := ⟨(List.range 8).map (zoneAfterReset t), .ok, none, ⟨false, 0, 0, 0, .unaddressed⟩⟩
    fire := ⟨List.replicate 16 .atReset, zones, 1000, zones.any (·.stage == .released)⟩
    nodes := List.replicate 64 .atReset
    fieldPort := .atReset
    stationPort := .atReset
    engine := ⟨none, s.image.ok.any (!·), false⟩
    notices := []
    flags := ⟨0, false⟩
    config
    image := s.image
    lines := ⟨s.lines.inputs.map fun r => ⟨r.high, 0, .unknown⟩, ⟨s.lines.maint.high, 0, false⟩⟩
    supply := ⟨mode, none, found.vholdLow⟩
    counters := {}
    choices := s.choices }

/-! ### The end of a reset (R179) -/

/-- The notices of the records that failed their check (R179 step 2). -/
def State.noteFailures (s : State) : State :=
  s.forEach (((List.range 18).map (· + 1)).filter fun n => !s.image.passes n) fun n s =>
    (s.latch .configFault).raise .configFault (some n)

/-- The notices SOC_UNCALIBRATED: at POWER_ON for each string in use, and otherwise where a clamp set the flag
(R57, R58). -/
def State.noteUncalibrated (s old : State) : State :=
  s.forEach (List.range 4) fun i s =>
    let raised :=
      match s.sys.cause with
      | .powerOn => (s.stringEntry i).inUse
      | .resetLine | .restart => (s.stringAt i).charge.uncalibrated && !(old.stringAt i).charge.uncalibrated
    if raised then s.raise .socUncalibrated (some i) else s

/-- The flags that a kept lockout latches again (R119). -/
def State.relatchLockout (s : State) : State :=
  let s := if s.conn.lockout == .none then s else s.latch .lockout
  if s.conn.lockout == .breakerFail then s.latch .breakerFail else s

/-- What a kept fire-confirmed zone latches and raises again (R151). -/
def State.relatchZone (z : Nat) (s : State) : State :=
  if (s.fireZone z).stage.confirmed then (s.latchStage z).raise .fire (some z) else s

/-- The subject of STARTED (R179). -/
def State.startedSubject (s : State) : Nat := s.sys.cause.code + (if s.supply.mode == .holdup then 4 else 0)

/-- What follows the blocks' reset states: flags latched again, UNWATCHED, the initial zero frame, the initial
coolant command, and STARTED (R83, R119, R133, R151, R178, R179). -/
def State.start (s old : State) : State :=
  let s := (s.noteFailures.noteUncalibrated old).relatchLockout.forEach allZones State.relatchZone
  let s := if s.supply.holdupLow then s.latch .holdupLow else s
  let s := s.forEach allZones fun z s => s.setUnwatched z
  let s := (s.makeFrame .initialZero).makeCoolant s.anyConfirmed
  s.raise .started (some s.startedSubject)

/-- The holding conditions of a reset end (R179). -/
def State.completeReset (s : State) (found : ResetEnd) : State :=
  match s.sys.hold with
  | none => s
  | some h => (s.blocksAfterReset h.cause found).start s

end Sys2Proof.Machine
end

