-- ==== Sys2Proof/Machine/Frames.lean ====
section
/-! DEFINITION. The commands that are frames: frames received whole, receive faults, and transmissions (R153, R157,
R159, R161 to R163). -/

namespace Sys2Proof.Machine

/-! ### Frames received whole -/

/-- A MODULE REPORT arrives on the Field Port (R10, R157). -/
def execModuleReport (dest src : Nat) (payload : List Byte) (s : State) : Host.Outcome State Fault Refusal :=
  s.whileRunning fun s => s.fieldReceive ⟨dest, src, kindModuleReport, payload⟩

/-- A STRING REPORT arrives on the Field Port (R28, R157). -/
def execStringReport (dest src : Nat) (payload : List Byte) (s : State) : Host.Outcome State Fault Refusal :=
  s.whileRunning fun s => s.fieldReceive ⟨dest, src, kindStringReport, payload⟩

/-- A GRID SAMPLE arrives on the Field Port (R102, R157). -/
def execGridSample (dest src : Nat) (payload : List Byte) (s : State) : Host.Outcome State Fault Refusal :=
  s.whileRunning fun s => s.fieldReceive ⟨dest, src, kindGridSample, payload⟩

/-- A PCS STATUS arrives on the Field Port (R98, R157). -/
def execPcsStatus (dest src : Nat) (payload : List Byte) (s : State) : Host.Outcome State Fault Refusal :=
  s.whileRunning fun s => s.fieldReceive ⟨dest, src, kindPcsStatus, payload⟩

/-- A COOLANT STATUS arrives on the Field Port (R128, R157). -/
def execCoolantStatus (dest src : Nat) (payload : List Byte) (s : State) : Host.Outcome State Fault Refusal :=
  s.whileRunning fun s => s.fieldReceive ⟨dest, src, kindCoolantStatus, payload⟩

/-- A DETECTOR REPORT arrives on the Field Port (R138, R157). -/
def execDetectorReport (dest src : Nat) (payload : List Byte) (s : State) : Host.Outcome State Fault Refusal :=
  s.whileRunning fun s => s.fieldReceive ⟨dest, src, kindDetectorReport, payload⟩

/-- Any other frame arrives on the Field Port (R157). -/
def execFieldFrame (f : Frame) (s : State) : Host.Outcome State Fault Refusal :=
  s.whileRunning fun s => s.fieldReceive f

/-- Any other frame arrives on the Station Port (R159). -/
def execStationFrame (f : Frame) (s : State) : Host.Outcome State Fault Refusal :=
  s.whileRunning fun s => s.stationReceive f

/-- A DISPATCH arrives on the Station Port (R93, R159). -/
def execDispatch (dest src : Nat) (payload : List Byte) (s : State) : Host.Outcome State Fault Refusal :=
  s.whileRunning fun s => s.stationReceive ⟨dest, src, kindDispatch, payload⟩

/-! ### Receive faults (R153) -/

/-- The header of a frame has arrived, up to its LEN byte: one above 64 abandons the frame at once, and any other
stands in the slot (R153). A hunting side takes none of it (log 20). -/
def State.headerArrives (s : State) (p : Port) (h : FrameHeader) : State :=
  match s.slot p with
  | none => s
  | some _ =>
    if 64 < h.len.toNat then
      (s.setSlot p none).countPort p fun c => { c with lengthErrors := inc16 c.lengthErrors }
    else s.setSlot p (some [h.dest, h.src, h.kind, h.len])

/-- The LEN byte of a frame (R153). -/
def execLengthError (port : Port) (header : FrameHeader) (s : State) : Host.Outcome State Fault Refusal :=
  s.whileRunning fun s => s.headerArrives port header

/-- Bytes of a frame arrive, and then a gap: one of more than 5 ms abandons the frame (R153). A hunting side discards
the bytes without count. That the bytes neither bring a LEN above 64 nor end the frame is the sender's part (DESIGN
CHOICE, log 20). -/
def State.bytesThenGap (s : State) (p : Port) (part : FramePart) : State :=
  match s.slot p with
  | none => s
  | some taken =>
    if 5 < part.gap then
      (s.setSlot p none).countPort p fun c => { c with truncatedFrames := inc16 c.truncatedFrames }
    else s.setSlot p (some (taken ++ part.bytes))

/-- A gap between two bytes of a frame (R153). -/
def execTruncatedFrame (port : Port) (part : FramePart) (s : State) : Host.Outcome State Fault Refusal :=
  s.whileRunning fun s => s.bytesThenGap port part

/-- The CRC of a frame, over DEST through PAYLOAD (R152). -/
def frameCrc (dest src kind : Byte) (payload : List Byte) : BitVec 16 :=
  crc16 (dest :: src :: kind :: BitVec.ofNat 8 payload.length :: payload)

/-- A whole frame is handed on from its port (R153, R157, R159). -/
def State.portReceive (s : State) (p : Port) (f : Frame) : State :=
  match p with
  | .station => s.stationReceive f
  | .field => s.fieldReceive f

/-- The end of a frame: the address fault and the CRC fault are each counted, and a frame with neither is received
whole (R153). -/
def State.frameEnds (s : State) (p : Port) (dest src kind : Byte) (payload : List Byte) (crc : BitVec 16) : State :=
  let badAddress := decide (127 < dest.toNat) || decide (127 < src.toNat)
  let badCrc := frameCrc dest src kind payload != crc
  if badAddress || badCrc then
    (s.setSlot p none).countPort p fun c =>
      { c with
        addressErrors := if badAddress then inc16 c.addressErrors else c.addressErrors
        crcErrors := if badCrc then inc16 c.crcErrors else c.crcErrors }
  else s.portReceive p ⟨dest.toNat, src.toNat, kind.toNat, payload⟩

/-- The last byte of a frame whose address or CRC may be at fault (R153). -/
def execFaultyFrameEnd (port : Port) (dest src kind : Byte) (payload : List Byte) (crc : BitVec 16) (s : State) : Host.Outcome State Fault Refusal :=
  s.whileRunning fun s => s.frameEnds port dest src kind payload crc

/-- A SYNC byte begins a frame in the receive slot of a side that hunts; to a side that takes a frame it is no SYNC
(R153; log 20). -/
def State.syncArrives (s : State) (p : Port) : State :=
  match s.slot p with
  | none => s.setSlot p (some [])
  | some _ => s

/-- A SYNC byte arrives at a hunting receive side (R153). -/
def execSyncReceived (port : Port) (s : State) : Host.Outcome State Fault Refusal :=
  s.whileRunning fun s => s.syncArrives port

/-! ### Transmission -/

/-- The arbiter starts a transmission (R161). -/
def execFieldTransmitStart (s : State) : Host.Outcome State Fault Refusal :=
  s.whileRunning fun s => s.setFieldPort s.fieldPort.start

/-- The last byte of a Field frame leaves the port (R161). -/
def execFieldFrameSent (s : State) : Host.Outcome State Fault Refusal := s.whileRunning State.fieldSent

/-- The Station transmitter, when idle, starts the oldest frame of its queue (R162). -/
def StationPort.start (p : StationPort) : StationPort :=
  match p.sending, p.queue with
  | none, f :: rest => { p with queue := rest, sending := some f }
  | _, _ => p

/-- The Station Port starts a transmission (R162). -/
def execStationTransmitStart (s : State) : Host.Outcome State Fault Refusal :=
  s.whileRunning fun s => s.setStationPort s.stationPort.start

/-- Whether the frame is the response to a RESTART that was taken (R171). -/
def StationFrame.isRestart : StationFrame → Bool
  | .response r => r.code == 12 && r.status == .ok
  | .forwarded _ | .result _ | .notice _ => false

/-- The last byte of a Station frame leaves: its place is freed, and after the RESTART response the reset begins
(R162, R171). -/
def State.stationSent (s : State) : State :=
  match s.stationPort.sending with
  | none => s
  | some f =>
    let s := s.setStationPort { s.stationPort with sending := none }
    if f.isRestart && s.engine.restartPending then s.beginReset false false else s

/-- The last byte of a Station frame leaves the port (R162). -/
def execStationFrameSent (s : State) : Host.Outcome State Fault Refusal := s.whileRunning State.stationSent

/-- While at least 2 Station places are free, the offered notice moves into the Station queue (R163, R172). -/
def State.moveNotice (s : State) : State :=
  match offered s.notices with
  | none => s
  | some n =>
    if s.stationPort.used ≤ 30 then (s.setNotices (withoutOffered s.notices)).stationJoin (.notice n) else s

/-- A notice moves into the Station queue (R163). -/
def execNoticeMove (s : State) : Host.Outcome State Fault Refusal := s.whileRunning State.moveNotice

end Sys2Proof.Machine
end

