-- ==== Sys2Proof/Machine/Events.lean ====
section
/-! DEFINITION. The commands that are changes of lines, of the supply and of the reset (R171, R174 to R179). A line's
event acts only when its level has stood for its debounce and brings a change of the debounced state (log 1). -/

namespace Sys2Proof.Machine

/-! ### Lines (R175) -/

/-- The raw level at a pin changes; a reset does not stop the pins (R175). -/
def execLineLevelChange (pin : InputPin) (high : Bool) (s : State) : Host.Outcome State Fault Refusal :=
  .next (s.pinBecomes pin high)

/-- The line of a function settles at a new debounced state, which `f` takes (R175). -/
def State.onSettle (s : State) (i : Nat) (f : State → LineState → State) : State :=
  match s.settles i with
  | some x => f (s.setLineState i x) x
  | none => s

/-- The line that alone has a function settles. -/
def State.onFunction (s : State) (fn : LineFunction) (f : State → LineState → State) : State :=
  match s.lineOf fn with
  | some i => s.onSettle i f
  | none => s

/-- The debounced BREAKER_CLOSED line changes, once the breaker has been adopted (R114). -/
def execBreakerFeedbackChange (s : State) : Host.Outcome State Fault Refusal :=
  s.whileRunning fun s =>
    if s.conn.startAdopted then s.onFunction .breakerClosed fun s x => s.breakerLine (x == .active) else s

/-- The first debounced BREAKER_CLOSED state after a reset adopts the breaker (R119). -/
def execBreakerAdoption (s : State) : Host.Outcome State Fault Refusal :=
  s.whileRunning fun s =>
    if s.conn.startAdopted then s else s.onFunction .breakerClosed fun s x => s.adoptBreaker (x == .active)

/-- Whether a line's function gives a line indication (R142). -/
def LineFunction.isFire (f : LineFunction) : Bool := f == .manualCall || f == .panelFire

/-- A debounced MANUAL_CALL or PANEL_FIRE line changes (R142). -/
def execFireLineChange (line : Fin 8) (s : State) : Host.Outcome State Fault Refusal :=
  s.whileRunning fun s =>
    if (s.lineEntry line).function.isFire then s.onSettle line fun s _ => s.fireLineMoved (s.lineEntry line) else s

/-- The debounced RELEASE_HOLD line changes (R147). -/
def execReleaseHoldChange (s : State) : Host.Outcome State Fault Refusal :=
  s.whileRunning fun s => s.onFunction .releaseHold State.holdLine

/-- The E_STOP line settles at the given state, and `f` follows. -/
def State.onEStop (s : State) (x : LineState) (f : State → State) : State :=
  match s.lineOf .eStop with
  | some i => if s.settles i == some x then f (s.setLineState i x) else s
  | none => s

/-- The debounced E_STOP line becomes active (R176). -/
def execEStopActive (s : State) : Host.Outcome State Fault Refusal :=
  s.whileRunning fun s => s.onEStop .active State.eStopLine

/-- The debounced E_STOP line becomes inactive (R176). -/
def execEStopInactive (s : State) : Host.Outcome State Fault Refusal :=
  s.whileRunning fun s => s.onEStop .inactive State.changeEval

/-- The debounced state of a line with function NONE changes (R175). -/
def execUnassignedLineChange (line : Fin 8) (s : State) : Host.Outcome State Fault Refusal :=
  s.whileRunning fun s =>
    if (s.lineEntry line).function == .none then s.onSettle line fun s _ => s else s

/-- The debounced MAINT input takes its new state (R175). -/
def State.maintMoves (s : State) : State :=
  match s.maintSettles with
  | some x => s.setLines { s.lines with maint := { s.lines.maint with active := x } }
  | none => s

/-- The debounced MAINT input changes (R175). -/
def execMaintChange (s : State) : Host.Outcome State Fault Refusal := s.whileRunning State.maintMoves

/-! ### Supply (R177, R178) -/

/-- VAUX falls below its falling threshold in NORMAL (R177). -/
def execVauxFall (s : State) : Host.Outcome State Fault Refusal :=
  s.whileRunning fun s => if s.supply.mode == .normal then s.enterHoldup else s

/-- VAUX rises above its rising threshold in HOLDUP (R177). -/
def execVauxRise (s : State) : Host.Outcome State Fault Refusal :=
  s.whileRunning fun s =>
    if s.supply.mode == .holdup then
      s.setSupply { s.supply with restoreEnd := some (s.after (s.params.auxRestoreDelay * 1000)) }
    else s

/-- VAUX falls below its rising threshold while the restore timer runs (R177). -/
def execVauxRestoreDip (s : State) : Host.Outcome State Fault Refusal :=
  s.whileRunning fun s => s.setSupply { s.supply with restoreEnd := none }

/-- VHOLD falls below its low threshold (R178). -/
def execHoldupLowBegin (s : State) : Host.Outcome State Fault Refusal :=
  s.whileRunning fun s => if s.supply.holdupLow then s else s.holdupLowBegins

/-- VHOLD rises above its recovery threshold (R178). -/
def execHoldupLowEnd (s : State) : Host.Outcome State Fault Refusal :=
  s.whileRunning fun s => if s.supply.holdupLow then s.holdupLowEnds else s

/-! ### Resets (R178, R179) -/

/-- The core supply falls below the brown-out threshold (R178). -/
def execBrownOut (s : State) : Host.Outcome State Fault Refusal := .next (s.beginReset true false)

/-- RESETN is asserted (R179). -/
def execResetnAssert (s : State) : Host.Outcome State Fault Refusal := .next (s.beginReset false true)

/-- The RESTART response's last byte leaves the Station Port, where that response is in transmission (R171). -/
def State.restartSent (s : State) : State :=
  if (s.stationPort.sending.any StationFrame.isRestart) && s.engine.restartPending then s.stationSent else s

/-- The last byte of the RESTART response leaves, and a reset of kind RESTART begins (R171). -/
def execRestartReset (s : State) : Host.Outcome State Fault Refusal := s.whileRunning State.restartSent

/-- The holding conditions of a reset end (R179). -/
def execResetComplete (found : ResetEnd) (s : State) : Host.Outcome State Fault Refusal :=
  .next (s.completeReset found)

end Sys2Proof.Machine
end

