-- ==== Sys2Proof/Machine/RequestRows.lean ====
section
/-! DEFINITION. The commands that are MANAGEMENT REQUESTs addressed to the part (R159, R163, R165). Each stands for a
frame of SRC 0 received whole, with the request code that its row names. -/

namespace Sys2Proof.Machine

/-- READ STATUS (R166). -/
def execReadStatus (args : List Byte) (s : State) : Host.Outcome State Fault Refusal :=
  s.whileRunning fun s => s.requestArrives.serve 1 (State.readStatus args)

/-- READ RECORDS (R167). -/
def execReadRecords (args : List Byte) (s : State) : Host.Outcome State Fault Refusal :=
  s.whileRunning fun s => s.requestArrives.serve 2 (State.readRecords args)

/-- SCAN CELLS (R168). -/
def execScanCells (args : List Byte) (s : State) : Host.Outcome State Fault Refusal :=
  s.whileRunning fun s => s.requestArrives.serve 3 (State.scanCells args)

/-- READ ENVELOPE (R80). -/
def execReadEnvelope (args : List Byte) (s : State) : Host.Outcome State Fault Refusal :=
  s.whileRunning fun s => s.requestArrives.serve 4 (State.readEnvelope args)

/-- READ TABLE (R169). -/
def execReadTable (args : List Byte) (s : State) : Host.Outcome State Fault Refusal :=
  s.whileRunning fun s => s.requestArrives.serve 5 (State.readTable args)

/-- LOAD TABLE (R169). -/
def execLoadTable (args : List Byte) (s : State) : Host.Outcome State Fault Refusal :=
  s.whileRunning fun s => s.requestArrives.serve 6 (State.loadTable args)

/-- LOAD ENTRY (R169). -/
def execLoadEntry (args : List Byte) (s : State) : Host.Outcome State Fault Refusal :=
  s.whileRunning fun s => s.requestArrives.serve 7 (State.loadEntry args)

/-- SET PARAMETER (R169). -/
def execSetParameter (args : List Byte) (s : State) : Host.Outcome State Fault Refusal :=
  s.whileRunning fun s => s.requestArrives.serve 8 (State.setParameter args)

/-- STORE IMAGE (R170). -/
def execStoreImage (args : List Byte) (s : State) : Host.Outcome State Fault Refusal :=
  s.whileRunning fun s => s.requestArrives.serve 9 (State.storeImage args)

/-- CLEAR FLAGS (R171). -/
def execClearFlags (args : List Byte) (s : State) : Host.Outcome State Fault Refusal :=
  s.whileRunning fun s => s.requestArrives.serve 10 (State.clearFlagsRequest args)

/-- CLEAR COUNTERS (R171). -/
def execClearCounters (args : List Byte) (s : State) : Host.Outcome State Fault Refusal :=
  s.whileRunning fun s => s.requestArrives.serve 11 (State.clearCountersRequest args)

/-- RESTART (R171). -/
def execRestart (args : List Byte) (s : State) : Host.Outcome State Fault Refusal :=
  s.whileRunning fun s => s.requestArrives.serve 12 (State.restartRequest args)

/-- START ROUND (R4). -/
def execStartRound (args : List Byte) (s : State) : Host.Outcome State Fault Refusal :=
  s.whileRunning fun s => s.requestArrives.serve 13 (State.startRound args)

/-- STOP ROUND (R15). -/
def execStopRound (args : List Byte) (s : State) : Host.Outcome State Fault Refusal :=
  s.whileRunning fun s => s.requestArrives.serve 14 (State.stopRoundRequest args)

/-- ISOLATE STRING (R35). -/
def execIsolateString (args : List Byte) (s : State) : Host.Outcome State Fault Refusal :=
  s.whileRunning fun s => s.requestArrives.serve 15 (State.isolateString args)

/-- RESTORE STRING (R33). -/
def execRestoreString (args : List Byte) (s : State) : Host.Outcome State Fault Refusal :=
  s.whileRunning fun s => s.requestArrives.serve 16 (State.restoreString args)

/-- RESET STRING (R35). -/
def execResetString (args : List Byte) (s : State) : Host.Outcome State Fault Refusal :=
  s.whileRunning fun s => s.requestArrives.serve 17 (State.resetStringRequest args)

/-- RELEASE GATE (R84). -/
def execReleaseGate (args : List Byte) (s : State) : Host.Outcome State Fault Refusal :=
  s.whileRunning fun s => s.requestArrives.serve 18 (State.releaseGate args)

/-- CONNECT (R117). -/
def execConnect (args : List Byte) (s : State) : Host.Outcome State Fault Refusal :=
  s.whileRunning fun s => s.requestArrives.serve 19 (State.connect args)

/-- DISCONNECT (R117). -/
def execDisconnect (args : List Byte) (s : State) : Host.Outcome State Fault Refusal :=
  s.whileRunning fun s => s.requestArrives.serve 20 (State.disconnectRequest args)

/-- RESET LOCKOUT (R118). -/
def execResetLockout (args : List Byte) (s : State) : Host.Outcome State Fault Refusal :=
  s.whileRunning fun s => s.requestArrives.serve 21 (State.resetLockoutRequest args)

/-- RESET FIRE (R149). -/
def execResetFire (args : List Byte) (s : State) : Host.Outcome State Fault Refusal :=
  s.whileRunning fun s => s.requestArrives.serve 22 (State.resetFireRequest args)

/-- A request without a request code, or with a code the part does not know, is answered UNKNOWN_REQUEST (R165). -/
def execUnknownRequest (payload : List Byte) (s : State) : Host.Outcome State Fault Refusal :=
  s.whileRunning fun s => s.requestArrives.managementRequest payload

end Sys2Proof.Machine
end

