-- ==== Sys2Proof/Machine/Timers.lean ====
section
/-! DEFINITION. The commands that are expiries. Each acts only when its timer runs and its end has been reached, and so
does nothing when it is sent early (log 1). -/

namespace Sys2Proof.Machine

/-- `f` when the timer runs and has expired; otherwise no effect (log 1). -/
def State.onExpiry (s : State) (timer : Option PartTime) (f : State → State) : State := if s.due timer then f s else s

/-! ### Rounds and strings -/

/-- The round interval timer expires (R2). -/
def execIntervalExpiry (s : State) : Host.Outcome State Fault Refusal :=
  s.whileRunning fun s => s.onExpiry (some s.rounds.intervalEnd) State.intervalOver

/-- wake_settle expires (R6). -/
def execWakeSettleExpiry (s : State) : Host.Outcome State Fault Refusal :=
  s.whileRunning fun s => if s.phaseOver .waking then s.wakeSettled else s

/-- quiet_settle expires (R7). -/
def execQuietSettleExpiry (s : State) : Host.Outcome State Fault Refusal :=
  s.whileRunning fun s => if s.phaseOver .quietSettle then s.sampleCall else s

/-- round_deadline expires (R12). -/
def execRoundDeadlineExpiry (s : State) : Host.Outcome State Fault Refusal :=
  s.whileRunning fun s => if s.phaseOver .collecting then s.deadlineOver else s

/-- A string's contactor timer expires (R32, R33). -/
def execContactorTimerExpiry (string : Fin 4) (s : State) : Host.Outcome State Fault Refusal :=
  s.whileRunning fun s => s.onExpiry (s.stringAt string).timer fun s => s.contactorTimedOut string

/-! ### Envelope and gate -/

/-- The envelope timer restarts and causes an evaluation of the change group (R78). -/
def State.envelopeTick (s : State) : State := (s.setEnvelope { s.envelope with timerEnd := s.after 1000 }).changeEval

/-- The envelope timer expires (R78). -/
def execEnvelopeTimerExpiry (s : State) : Host.Outcome State Fault Refusal :=
  s.whileRunning fun s => s.onExpiry (some s.envelope.timerEnd) State.envelopeTick

/-- The station silence timer expires (R85). -/
def execStationSilenceExpiry (s : State) : Host.Outcome State Fault Refusal :=
  s.whileRunning fun s => s.onExpiry s.gate.silenceEnd State.stationSilent

/-- The overshoot timer expires: the flag, the notice, the check disarmed, and the trip (R99). -/
def State.overshot (s : State) : State :=
  let s := s.setGate { s.gate with overshootEnd := none, overshootArmed := false }
  ((s.latch .pcsOvershoot).raise .pcsOvershoot none).trip .pcsOvershoot

/-- The overshoot timer expires (R99). -/
def execOvershootTimerExpiry (s : State) : Host.Outcome State Fault Refusal :=
  s.whileRunning fun s => s.onExpiry s.gate.overshootEnd State.overshot

/-! ### Grid and connection -/

/-- A PICKED_UP stage's delay timer expires (R106). -/
def execStageDelayExpiry (stage : Fin 8) (s : State) : Host.Outcome State Fault Refusal :=
  s.whileRunning fun s =>
    if (s.stageAt stage).state == .pickedUp then s.onExpiry (s.stageAt stage).timer fun s => s.stageDelayOver stage
    else s

/-- The breaker timer expires in the given state. -/
def State.breakerOver (s : State) (c : ConnState) (f : State → State) : State :=
  if s.conn.state == c then s.onExpiry s.conn.breakerEnd f else s

/-- The breaker timer expires in OPENING (R112). -/
def execOpenTimeout (s : State) : Host.Outcome State Fault Refusal :=
  s.whileRunning fun s => s.breakerOver .opening State.openTimedOut

/-- The breaker timer expires in CLOSING (R116). -/
def execCloseTimeout (s : State) : Host.Outcome State Fault Refusal :=
  s.whileRunning fun s => s.breakerOver .closing State.closeTimedOut

/-- The reconnect timer expires (R115). -/
def execReconnectTimerExpiry (s : State) : Host.Outcome State Fault Refusal :=
  s.whileRunning fun s =>
    if s.conn.state == .reconnectTiming then s.onExpiry s.conn.reconnectEnd State.beginClose else s

/-- The history timer restarts, and the history is pruned (R113). -/
def State.historyTick (s : State) : State :=
  s.setConn { s.conn with historyEnd := s.after 1000, history := s.prunedHistory }

/-- The history timer expires (R113). -/
def execHistoryTimerExpiry (s : State) : Host.Outcome State Fault Refusal :=
  s.whileRunning fun s => s.onExpiry (some s.conn.historyEnd) State.historyTick

/-- A TRIP_OUT pulse reaches its end time (R112). -/
def execTripPulseEnd (s : State) : Host.Outcome State Fault Refusal :=
  s.whileRunning fun s => s.onExpiry s.conn.tripOut fun s => s.setConn { s.conn with tripOut := none }

/-- A CLOSE_OUT pulse reaches its end time (R112). -/
def execClosePulseEnd (s : State) : Host.Outcome State Fault Refusal :=
  s.whileRunning fun s => s.onExpiry s.conn.closeOut fun s => s.setConn { s.conn with closeOut := none }

/-! ### Nodes, fire, supply and scrub -/

/-- A LIVE node's silence timer expires (R155). -/
def execNodeSilenceExpiry (entry : Fin 64) (s : State) : Host.Outcome State Fault Refusal :=
  s.whileRunning fun s =>
    match s.nodeEntry entry with
    | some e =>
      if (s.nodeAt entry).state == .live then s.onExpiry (s.nodeAt entry).silenceEnd fun s => s.nodeSilenced entry e
      else s
    | none => s

/-- A zone's clear timer expires (R144). -/
def execClearTimerExpiry (zone : Fin 8) (s : State) : Host.Outcome State Fault Refusal :=
  s.whileRunning fun s =>
    s.onExpiry ((s.fireZone zone).clearTimer.map (·.ends)) fun s => s.clearTimedOut zone

/-- The fire timer restarts, and every zone is evaluated (R143). -/
def State.fireTick (s : State) : State :=
  (s.setFire { s.fire with timerEnd := s.after 1000 }).evaluateZones allZones

/-- The fire timer expires (R143). -/
def execFireTimerExpiry (s : State) : Host.Outcome State Fault Refusal :=
  s.whileRunning fun s => s.onExpiry (some s.fire.timerEnd) State.fireTick

/-- The end time of a running countdown. -/
def Countdown.endTime : Countdown → Option PartTime
  | .running ends => some ends
  | .paused _ => none

/-- A running release countdown reaches 0 (R147). -/
def execReleaseCountdownEnd (zone : Fin 8) (s : State) : Host.Outcome State Fault Refusal :=
  s.whileRunning fun s =>
    s.onExpiry ((s.fireZone zone).countdown.bind Countdown.endTime) fun s => s.releaseZone zone

/-- The aux restore timer expires (R177). -/
def execAuxRestoreExpiry (s : State) : Host.Outcome State Fault Refusal :=
  s.whileRunning fun s => s.onExpiry s.supply.restoreEnd State.enterNormal

/-- The scrub timer restarts, and a scrub pass is taken (R180). -/
def State.scrubTick (s : State) : State :=
  (s.setConfig { s.config with scrubEnd := s.after (s.params.scrubPeriod * 1000) }).scrub

/-- The scrub timer expires (R180). -/
def execScrubTimerExpiry (s : State) : Host.Outcome State Fault Refusal :=
  s.whileRunning fun s => s.onExpiry (some s.config.scrubEnd) State.scrubTick

/-- One image record finishes its 20 ms write and check (R170). -/
def execStoreRecordWritten (correct : Bool) (s : State) : Host.Outcome State Fault Refusal :=
  s.whileRunning fun s => s.onExpiry (s.engine.store.map (·.due)) fun s => s.recordWritten correct

end Sys2Proof.Machine
end

