-- ==== Sys2Proof/Machine/Dispatch.lean ====
section
/-! DEFINITION. The meaning of every command: one arm per constructor of `Instr`. -/

namespace Sys2Proof.Machine

def exec (i : Instr) (s : State) : Host.Outcome State Fault Refusal :=
  match i with
  | .moduleReport dest src payload => Sys2Proof.Machine.execModuleReport dest src payload s
  | .stringReport dest src payload => Sys2Proof.Machine.execStringReport dest src payload s
  | .gridSample dest src payload => Sys2Proof.Machine.execGridSample dest src payload s
  | .pcsStatus dest src payload => Sys2Proof.Machine.execPcsStatus dest src payload s
  | .coolantStatus dest src payload => Sys2Proof.Machine.execCoolantStatus dest src payload s
  | .detectorReport dest src payload => Sys2Proof.Machine.execDetectorReport dest src payload s
  | .fieldFrame f => Sys2Proof.Machine.execFieldFrame f s
  | .stationFrame f => Sys2Proof.Machine.execStationFrame f s
  | .dispatch dest src payload => Sys2Proof.Machine.execDispatch dest src payload s
  | .readStatus args => Sys2Proof.Machine.execReadStatus args s
  | .readRecords args => Sys2Proof.Machine.execReadRecords args s
  | .scanCells args => Sys2Proof.Machine.execScanCells args s
  | .readEnvelope args => Sys2Proof.Machine.execReadEnvelope args s
  | .readTable args => Sys2Proof.Machine.execReadTable args s
  | .loadTable args => Sys2Proof.Machine.execLoadTable args s
  | .loadEntry args => Sys2Proof.Machine.execLoadEntry args s
  | .setParameter args => Sys2Proof.Machine.execSetParameter args s
  | .storeImage args => Sys2Proof.Machine.execStoreImage args s
  | .clearFlags args => Sys2Proof.Machine.execClearFlags args s
  | .clearCounters args => Sys2Proof.Machine.execClearCounters args s
  | .restart args => Sys2Proof.Machine.execRestart args s
  | .startRound args => Sys2Proof.Machine.execStartRound args s
  | .stopRound args => Sys2Proof.Machine.execStopRound args s
  | .isolateString args => Sys2Proof.Machine.execIsolateString args s
  | .restoreString args => Sys2Proof.Machine.execRestoreString args s
  | .resetString args => Sys2Proof.Machine.execResetString args s
  | .releaseGate args => Sys2Proof.Machine.execReleaseGate args s
  | .connect args => Sys2Proof.Machine.execConnect args s
  | .disconnect args => Sys2Proof.Machine.execDisconnect args s
  | .resetLockout args => Sys2Proof.Machine.execResetLockout args s
  | .resetFire args => Sys2Proof.Machine.execResetFire args s
  | .unknownRequest payload => Sys2Proof.Machine.execUnknownRequest payload s
  | .lengthError port header => Sys2Proof.Machine.execLengthError port header s
  | .truncatedFrame port part => Sys2Proof.Machine.execTruncatedFrame port part s
  | .faultyFrameEnd port dest src kind payload crc => Sys2Proof.Machine.execFaultyFrameEnd port dest src kind payload crc s
  | .fieldTransmitStart => Sys2Proof.Machine.execFieldTransmitStart s
  | .fieldFrameSent => Sys2Proof.Machine.execFieldFrameSent s
  | .stationTransmitStart => Sys2Proof.Machine.execStationTransmitStart s
  | .stationFrameSent => Sys2Proof.Machine.execStationFrameSent s
  | .noticeMove => Sys2Proof.Machine.execNoticeMove s
  | .intervalExpiry => Sys2Proof.Machine.execIntervalExpiry s
  | .wakeSettleExpiry => Sys2Proof.Machine.execWakeSettleExpiry s
  | .quietSettleExpiry => Sys2Proof.Machine.execQuietSettleExpiry s
  | .roundDeadlineExpiry => Sys2Proof.Machine.execRoundDeadlineExpiry s
  | .contactorTimerExpiry string => Sys2Proof.Machine.execContactorTimerExpiry string s
  | .envelopeTimerExpiry => Sys2Proof.Machine.execEnvelopeTimerExpiry s
  | .stationSilenceExpiry => Sys2Proof.Machine.execStationSilenceExpiry s
  | .overshootTimerExpiry => Sys2Proof.Machine.execOvershootTimerExpiry s
  | .stageDelayExpiry stage => Sys2Proof.Machine.execStageDelayExpiry stage s
  | .openTimeout => Sys2Proof.Machine.execOpenTimeout s
  | .closeTimeout => Sys2Proof.Machine.execCloseTimeout s
  | .reconnectTimerExpiry => Sys2Proof.Machine.execReconnectTimerExpiry s
  | .historyTimerExpiry => Sys2Proof.Machine.execHistoryTimerExpiry s
  | .tripPulseEnd => Sys2Proof.Machine.execTripPulseEnd s
  | .closePulseEnd => Sys2Proof.Machine.execClosePulseEnd s
  | .nodeSilenceExpiry entry => Sys2Proof.Machine.execNodeSilenceExpiry entry s
  | .clearTimerExpiry zone => Sys2Proof.Machine.execClearTimerExpiry zone s
  | .fireTimerExpiry => Sys2Proof.Machine.execFireTimerExpiry s
  | .releaseCountdownEnd zone => Sys2Proof.Machine.execReleaseCountdownEnd zone s
  | .auxRestoreExpiry => Sys2Proof.Machine.execAuxRestoreExpiry s
  | .scrubTimerExpiry => Sys2Proof.Machine.execScrubTimerExpiry s
  | .lineLevelChange pin high => Sys2Proof.Machine.execLineLevelChange pin high s
  | .breakerFeedbackChange => Sys2Proof.Machine.execBreakerFeedbackChange s
  | .breakerAdoption => Sys2Proof.Machine.execBreakerAdoption s
  | .fireLineChange line => Sys2Proof.Machine.execFireLineChange line s
  | .releaseHoldChange => Sys2Proof.Machine.execReleaseHoldChange s
  | .eStopActive => Sys2Proof.Machine.execEStopActive s
  | .eStopInactive => Sys2Proof.Machine.execEStopInactive s
  | .unassignedLineChange line => Sys2Proof.Machine.execUnassignedLineChange line s
  | .maintChange => Sys2Proof.Machine.execMaintChange s
  | .vauxFall => Sys2Proof.Machine.execVauxFall s
  | .vauxRise => Sys2Proof.Machine.execVauxRise s
  | .vauxRestoreDip => Sys2Proof.Machine.execVauxRestoreDip s
  | .holdupLowBegin => Sys2Proof.Machine.execHoldupLowBegin s
  | .holdupLowEnd => Sys2Proof.Machine.execHoldupLowEnd s
  | .brownOut => Sys2Proof.Machine.execBrownOut s
  | .resetnAssert => Sys2Proof.Machine.execResetnAssert s
  | .restartReset => Sys2Proof.Machine.execRestartReset s
  | .resetComplete found => Sys2Proof.Machine.execResetComplete found s
  | .storeRecordWritten correct => Sys2Proof.Machine.execStoreRecordWritten correct s
  | .syncReceived port => Sys2Proof.Machine.execSyncReceived port s

end Sys2Proof.Machine
end

