-- ==== Sys2Proof/Machine/Step.lean ====
section
/-! DEFINITION. One step of the part: the command at the front of the queue is taken, and on an empty queue one
millisecond of part time passes. -/

namespace Sys2Proof.Machine

/-- One millisecond of part time passes, unless a reset holds the part (00_scope, "Part time"; log 1). -/
def State.tick (s : State) : State := if s.sys.hold.isNone then s.setTime (s.time + 1) else s

/-- Take the command at the front of the queue; on an empty queue the part idles for a millisecond (DESIGN CHOICE,
log 1). -/
def step (s : State) : Host.Outcome State Fault Refusal :=
  match s.pending with
  | [] => .next s.tick
  | c :: rest => exec c (s.setPending rest)

/-- The command that a word spells, put at the front of the queue; no word spells one, so that the state is as it
was. -/
def State.withFetchWord (s : State) (nbits w : Nat) : State :=
  match decodeTableWord nbits w with
  | some c => s.setPending (c :: s.pending)
  | none => s

end Sys2Proof.Machine
end

