-- ==== Sys2Proof/Machine/Responses.lean ====
section
/-! DEFINITION. The frames that leave the Station Port as bytes: the payload of a MANAGEMENT RESPONSE by the encoding of
R152, its fields in the order in which R80 and R166 to R171 and the rules of the records list them (log 21). -/

namespace Sys2Proof.Machine

/-! ### Numbers of the named values (R152): the position of each in the list of values where it is defined -/

/-- The status of a response (R152). -/
def Status.code : Status → Nat
  | .ok => 0
  | .clamped => 1
  | .refusedMaint => 2
  | .refusedInvalid => 3
  | .refusedState => 4
  | .refusedBusy => 5
  | .unknownRequest => 6

/-- The reason of a refused RESTORE STRING, in the order of R33. -/
def RestoreReason.code : RestoreReason → Nat
  | .notIsolated => 0
  | .fireStage => 1
  | .causePresent => 2
  | .voltageUnknown => 3
  | .voltageMismatch => 4

/-- The mode of a round: PLAIN, QUIET (R1). -/
def modeCode (quiet : Bool) : Nat := if quiet then 1 else 0

def RoundPhase.code : RoundPhase → Nat
  | .idle => 0
  | .waking => 1
  | .quietSettle => 2
  | .collecting => 3
  | .suspended => 4

def Quality.code : Quality → Nat
  | .never => 0
  | .fresh => 1
  | .stale => 2

def Band.code : Band → Nat
  | .lowHard => 0
  | .lowWarn => 1
  | .normal => 2
  | .highWarn => 3
  | .highHard => 4
  | .unknown => 5

def StringState.code : StringState → Nat
  | .awaiting => 0
  | .inService => 1
  | .isolating => 2
  | .restoring => 3
  | .isolated => 4
  | .lockedOut => 5
  | .welded => 6

def IsolationCause.code : IsolationCause → Nat
  | .cellHard => 0
  | .tempHard => 1
  | .moduleStale => 2
  | .monitorSilent => 3
  | .fire => 4
  | .eStop => 5
  | .request => 6
  | .start => 7
  | .external => 8

/-- A fed-back position: OPEN, CLOSED, or unknown (R28, R108). -/
def Feedback.code : Feedback → Nat
  | .isOpen => 0
  | .closed => 1
  | .unknown => 2

def ContainerFactor.code : ContainerFactor → Nat
  | .grid => 0
  | .fire => 1
  | .coolant => 2
  | .cells => 3
  | .config => 4
  | .eStop => 5

/-- The factor named with cause STRING (R76, R80). R76 names NO_READINGS apart from the list of TEMPERATURE, SOC and
VOLTAGE, and no rule gives one list of the four; they are numbered in the order of its text (DESIGN CHOICE, log 21). -/
def StringFactor.code : StringFactor → Nat
  | .noReadings => 0
  | .temperature => 1
  | .soc => 2
  | .voltage => 3

def HeldCause.code : HeldCause → Nat
  | .start => 0
  | .restart => 1
  | .eStop => 2

def PcsState.code : PcsState → Nat
  | .run => 0
  | .stop => 1
  | .fault => 2

def StageState.code : StageState → Nat
  | .clear => 0
  | .pickedUp => 1
  | .operated => 2

def ConnState.code : ConnState → Nat
  | .openLocked => 0
  | .openWait => 1
  | .reconnectTiming => 2
  | .closing => 3
  | .connected => 4
  | .rideThrough => 5
  | .opening => 6

def Lockout.code : Lockout → Nat
  | .none => 0
  | .fire => 1
  | .welded => 2
  | .breakerFail => 3
  | .history => 4

/-- A trip cause: the seven of R110 in order, EXTERNAL, and then the lockout that a trip enforces (R114): 7 and 8 to 11 are
the model's numbers (DESIGN CHOICE, log 21). -/
def TripCause.code : TripCause → Nat
  | .stage _ => 0
  | .fire => 1
  | .welded => 2
  | .eStop => 3
  | .pcsOvershoot => 4
  | .meterLost => 5
  | .disconnect => 6
  | .external => 7
  | .enforces l => 7 + l.code

def OpenTarget.code : OpenTarget → Nat
  | .openWait => 0
  | .openLocked => 1

def ConnectRequest.code : ConnectRequest → Nat
  | .none => 0
  | .connect => 1
  | .disconnect => 2

def CommandOutcome.code : CommandOutcome → Nat
  | .queued => 0
  | .dropped => 1
  | .unaddressed => 2

def CoolantState.code : CoolantState → Nat
  | .ok => 0
  | .degraded => 1
  | .lost => 2

def ChillerState.code : ChillerState → Nat
  | .run => 0
  | .standby => 1
  | .fault => 2

def LoopState.code : LoopState → Nat
  | .normal => 0
  | .isOpen => 1
  | .short => 2
  | .silent => 3

def Grade.code : Grade → Nat
  | .none => 0
  | .pre => 1
  | .alarm => 2

def NodeState.code : NodeState → Nat
  | .unseen => 0
  | .live => 1
  | .silent => 2

def LineState.code : LineState → Nat
  | .unknown => 0
  | .active => 1
  | .inactive => 2

def SupplyMode.code : SupplyMode → Nat
  | .normal => 0
  | .holdup => 1

/-! ### Fields -/

/-- A field that may be absent, of one, two and four bytes (log 21). -/
def opt8 (x : Option Nat) : List Byte := put8 (x.getD (Config.absentField 1))

def opt16 (x : Option Nat) : List Byte := put16 (x.getD (Config.absentField 2))

def optSigned16 (x : Option Int) : List Byte := putSigned16 (x.getD (Config.absentField 2))

def optSigned32 (x : Option Int) : List Byte := putSigned32 (x.getD (Config.absentField 4))

def opt32 (x : Option Nat) : List Byte := put32 (x.getD (Config.absentField 4))

/-- A part time, and the end time of a timer that may be stopped (R152). -/
def putTime (t : PartTime) : List Byte := put32 t.toNat

def optTime (t : Option PartTime) : List Byte := opt32 (t.map (·.toNat))

/-- A value named on / off: on is 0 and off is 1, their positions in the list (R22, R120, R152). -/
def putSwitch (on : Bool) : List Byte := put8 (if on then 0 else 1)

/-- A condition whose rule lists no values for it: 1 while it holds, else 0 (DESIGN CHOICE, log 21). -/
def putCondition (holds : Bool) : List Byte := put8 (if holds then 1 else 0)

/-- A cell voltage: 65535 marks an absent reading (00_scope, "Units and ranges"). -/
def optVoltage (v : Option Nat) : List Byte := put16 (v.getD 65535)

/-- A charge in four bytes (R43, R152; log 21). -/
def putCharge (q : Nat) : List Byte := put32 (if q < 4294967296 then q else Config.wideCharge q)

/-- A list of varying length: its count, and its entries in order (log 21). -/
def putList {α : Type} (f : α → List Byte) (l : List α) : List Byte := put8 l.length ++ l.flatMap f

/-! ### Records (R167) -/

/-- A cell record (R22). -/
def cellBytes (k : CellRec) (bleed : Bool) : List Byte :=
  optVoltage k.latest ++ optVoltage k.quiet ++ put8 k.band.code ++ put8 k.hardCount ++ put8 k.absentRun ++ putSwitch bleed

/-- A module record (R21). -/
def ModuleRec.bytes (r : ModuleRec) : List Byte :=
  put8 r.quality.code ++ put8 r.missCount ++ opt8 r.lastTag ++ putList putSigned16 r.temps ++
    optSigned16 (maxTemp r.temps) ++ optSigned16 (minTemp r.temps) ++ putList putSigned16 r.history ++ put8 r.zone ++
    bleedSetPayload r.mask ++ putFlag r.resend

/-- A cell voltage of the extremes, with its cell index (R27). -/
def extremeBytes (x : Option (Nat × Nat)) : List Byte := optVoltage (x.map (·.1)) ++ opt8 (x.map (·.2))

def Extremes.bytes (e : Extremes) : List Byte :=
  extremeBytes e.vMax ++ extremeBytes e.vMin ++ optSigned16 e.tMax ++ optSigned16 e.tMin

/-- The retained condition: NONE, LOCKED with its cause, WELDED (R28). -/
def Retained.bytes : Retained → List Byte
  | .none => put8 0
  | .locked c => put8 1 ++ put8 c.code
  | .welded => put8 2

/-- The last calibration: FULL or EMPTY with its part time and the Q before it, or each of the three fields as absent
(R43; DESIGN CHOICE, log 21). -/
def calibrationBytes : Option Calibration → List Byte
  | none => opt8 none ++ optTime none ++ opt32 none
  | some c => put8 (if c.full then 0 else 1) ++ putTime c.time ++ putCharge c.before

/-- A charge record, less its last sequence, which stands in the string record (R43). -/
def ChargeRec.bytes (r : ChargeRec) : List Byte :=
  putCharge r.q ++ putCharge r.qCap ++ put16 r.soc ++ putSigned32 r.batchSum ++ put8 r.batchCount ++
    putSigned32 r.residue ++ putFlag r.fullArmed ++ putFlag r.emptyArmed ++ putFlag r.uncalibrated ++
    optSigned16 r.lastCurrent ++ optTime r.lastTime ++ calibrationBytes r.lastCalibration ++ put16 r.overrange ++
    put16 r.filled ++ put16 r.gaps

/-- A string record with its charge record (R28, R43). -/
def StringRec.bytes (r : StringRec) : List Byte :=
  put8 r.state.code ++ opt8 (r.cause.map (·.code)) ++ opt8 (r.pendingCause.map (·.code)) ++ optSigned16 r.current ++
    opt16 r.voltage ++ put8 r.feedback.code ++ opt8 r.charge.lastSeq ++ r.extremes.bytes ++ optTime r.timer ++
    r.retained.bytes ++ r.charge.bytes

/-- A zone record of the Thermal Controller (R120). -/
def ZoneRec.bytes (r : ZoneRec) : List Byte :=
  putFlag r.inUse ++ optSigned16 r.temp ++ putSwitch r.cooling ++ put8 r.demand ++ put8 r.valveCode ++ put16 r.valveDuty

/-- A release countdown: what remains of it, and running or paused, or both fields as absent (R134, R143; DESIGN
CHOICE, log 21). -/
def countdownBytes : Option CountdownView → List Byte
  | none => opt32 none ++ opt8 none
  | some c => put32 c.remaining ++ put8 (if c.running then 0 else 1)

/-- A zone's fire record, its fields in the order of R134. -/
def FireZoneView.bytes (v : FireZoneView) : List Byte :=
  put8 v.stage.rank ++ put8 v.target.rank ++ put8 v.cellGrade.code ++ putFlag v.lineIndication ++ putFlag v.unwatched ++
    countdownBytes v.countdown ++ optTime v.fireTime

/-- A detector record (R137). -/
def DetectorRec.bytes (d : DetectorRec) : List Byte :=
  opt8 d.node ++ opt8 d.slot ++ optSigned32 d.reading ++ put8 d.loop.code ++ put8 d.grade.code ++ put8 d.openRun ++
    put8 d.shortRun ++ put8 d.normalRun ++ put8 d.preRun ++ put8 d.alarmRun ++ put8 d.clearRun ++ put16 d.reports ++
    put16 d.loopFaults ++ optTime d.lastTime

/-- A node record, after its T14 entry (R155, R164). -/
def nodeBytes (entry : Option NodeEntry) (n : NodeRec) : List Byte :=
  nodeEntryBytes entry ++ put8 n.state.code ++ put8 n.forwardCounter ++ put16 n.taken ++ put16 n.forwarded

/-- A protection stage's record, after which its T8 entry follows (R104). -/
def StageRec.bytes (r : StageRec) : List Byte := put8 r.state.code ++ optTime r.timer ++ optTime r.pickUp

/-- A record as READ RECORDS carries it (R167). -/
def RecordView.bytes : RecordView → List Byte
  | .cell c bleed => cellBytes c bleed
  | .module m => m.bytes
  | .string s => s.bytes
  | .zone z entry fire => z.bytes ++ entry.bytes ++ fire.bytes
  | .detector d => d.bytes
  | .node entry n => nodeBytes entry n
  | .stage s entry => s.bytes ++ entry.bytes

/-- The command record (R126). -/
def CommandRec.bytes (c : CommandRec) : List Byte :=
  putFlag c.run ++ put8 c.fanCode ++ put16 c.fanDuty ++ putTime c.time ++ put8 c.outcome.code

/-- The last chiller status, or each of its five fields as absent (R128, R134; DESIGN CHOICE, log 21). -/
def chillerBytes : Option ChillerStatus → List Byte
  | none => opt8 none ++ optSigned16 none ++ optSigned16 none ++ opt16 none ++ optTime none
  | some c =>
    put8 c.state.code ++ putSigned16 c.supply ++ putSigned16 c.returnTemp ++ put16 c.flow ++ putTime c.time

/-! ### The envelope (R80) -/

/-- A limiting cause: a cause code, with string index and factor for STRING (R80). R76 gives the causes row by row and no
one list; they are numbered in the order of its rows: NO_STRING 0, NONE 1, IMPORT_CAP 2, EXPORT_CAP 3, the container
factors 4 to 9, STRING 10 (DESIGN CHOICE, log 21). -/
def LimitCause.bytes : LimitCause → List Byte
  | .noString => put8 0
  | .none => put8 1
  | .importCap => put8 2
  | .exportCap => put8 3
  | .container f => put8 (4 + f.code)
  | .string s f => put8 10 ++ put8 s ++ put8 f.code

def StringEnvelope.bytes (x : StringEnvelope) : List Byte :=
  putFlag x.counts ++ put16 x.ftChg ++ put16 x.ftDis ++ put16 x.fsocChg ++ put16 x.fsocDis ++ put16 x.fvChg ++
    put16 x.fvDis ++ put16 x.fChg ++ put16 x.fDis ++ put16 x.pChg ++ put16 x.pDis

/-- The envelope record in the order of R80. -/
def EnvelopeRec.bytes (e : EnvelopeRec) : List Byte :=
  put16 e.pChgLim ++ put16 e.pDisLim ++ put16 e.fc ++ put16 e.fGrid ++ put16 e.fFire ++ put16 e.fCoolant ++
    put16 e.fCells ++ put16 e.fConfig ++ put16 e.fEstop ++ put16 e.ratingSum ++ put16 e.sumChg ++ put16 e.sumDis ++
    e.strings.flatMap StringEnvelope.bytes ++ e.causeChg.bytes ++ e.causeDis.bytes ++ put16 e.number ++ putTime e.time

/-! ### READ STATUS (R166) -/

/-- A trip cause, with its stage index for STAGE. -/
def TripCause.bytes (c : TripCause) : List Byte :=
  put8 c.code ++
    (match c with
    | .stage i => put8 i
    | .fire | .welded | .eStop | .pcsOvershoot | .meterLost | .disconnect | .external | .enforces _ => [])

/-- The last PCS status, or each of its three fields as absent (R82; DESIGN CHOICE, log 21). -/
def pcsBytes : Option PcsStatus → List Byte
  | none => optSigned16 none ++ optSigned16 none ++ opt8 none
  | some p => putSigned16 p.p ++ putSigned16 p.q ++ put8 p.state.code

/-- What READ STATUS gives of the gate record (R82). -/
def GateRec.statusBytes (g : GateRec) : List Byte :=
  put8 g.state.code ++ opt8 (g.heldCause.map (·.code)) ++ putSigned16 g.pReqLast ++ putSigned16 g.qReqLast ++
    putFlag g.frParticipation ++ putSigned16 g.pPrev ++ putSigned16 g.qPrev ++ putSigned16 g.pFrApplied ++
    pcsBytes g.lastPcs

/-- What READ STATUS gives of the grid record: the latest sample, the history length and ROCOF (R101). -/
def GridRec.statusBytes (g : GridRec) : List Byte :=
  opt8 g.lastSeq ++ opt16 g.vA ++ opt16 g.vB ++ opt16 g.vC ++ opt16 g.vMin ++ opt16 g.vMax ++ optSigned32 g.f ++
    optTime g.arrival ++ putFlag g.stale ++ put8 g.history.length ++ optSigned32 g.rocof

def PortCounters.bytes (c : PortCounters) : List Byte :=
  put16 c.crcErrors ++ put16 c.lengthErrors ++ put16 c.addressErrors ++ put16 c.truncatedFrames ++
    put16 c.malformedFrames

/-- The counters in the order of the chapters (R166), less notices_lost, which R166 lists with the notices. -/
def Counters.bytes (c : Counters) : List Byte :=
  [c.roundsSkipped, c.roundsAborted, c.roundFramesLost, c.staleReports, c.reportShapeErrors, c.bleedFramesLost,
    c.contactorUnaddressed, c.dispatchMisdirected, c.dispatchSuperseded, c.dispatchFramesLost, c.dispatchUnaddressed,
    c.gridDuplicates, c.gridGaps, c.trips, c.rideThroughs, c.coolantFramesLost, c.coolantUnaddressed,
    c.detectorPairsUnmapped].flatMap put16 ++ c.stationPort.bytes ++ c.fieldPort.bytes ++
  [c.ringReturns, c.unknownSources, c.unknownDropped, c.kindMismatches, c.fieldSuperseded, c.fieldNormalRefused,
    c.fieldForwardLost, c.stationForeignSrc, c.usurpedFrames, c.stationMisaddressed, c.stationForwardLost,
    c.resultsEvicted, c.resultsLost, c.requestsDiscarded].flatMap put16

/-- The snapshot of READ STATUS, in the order of R166, with the lines and the state of MAINT of R175 after it. R175 names
no byte for MAINT, nor R170 and R178 for the dirty flag and the holdup-low condition: each carries 1 while it holds, else
0 (DESIGN CHOICE, log 21). -/
def StatusView.bytes (v : StatusView) : List Byte :=
  put8 v.cause.code ++ putTime v.time ++ put8 v.mode.code ++ putCondition v.holdupLow ++ put8 v.roundPhase.code ++
    put8 v.roundTag ++ put8 v.worstString.code ++ put8 (bitsOf v.uncalibrated) ++ v.gate.statusBytes ++
    put8 v.connState.code ++ (v.tripCause.elim (opt8 none) TripCause.bytes) ++ opt8 (v.target.map (·.code)) ++
    put8 v.lockout.code ++ put8 v.request.code ++ put8 v.feedback.code ++
    putList (fun t => put32 t.1 ++ t.2.bytes) v.trips ++ v.grid.statusBytes ++ put8 v.coolant.code ++ v.command.bytes ++
    chillerBytes v.chiller ++ put8 v.worstZone.rank ++ put8 (if v.writing then 1 else 0) ++ putCondition v.dirty ++ put16 v.flags.toNat ++
    v.counters.bytes ++ v.chargeCounts.flatMap (fun c => put16 c.1 ++ put16 c.2.1 ++ put16 c.2.2) ++
    v.detectorCounts.flatMap (fun c => put16 c.1 ++ put16 c.2) ++
    v.nodeCounts.flatMap (fun c => put16 c.1 ++ put16 c.2) ++ put8 v.noticesWaiting ++ put16 v.counters.noticesLost ++
    v.lines.flatMap (fun l => put8 l.1.code ++ put8 l.2.code) ++ putCondition v.maintActive

/-! ### Responses and frames -/

/-- The result data of a response (R4, R33, R80, R84, R117, R149, R165 to R171). The stop index END of
SCAN CELLS, to which R168 gives no number, is carried by a free byte (DESIGN CHOICE, log 21). -/
def ResultData.bytes : ResultData → List Byte
  | .none => []
  | .status v => v.bytes
  | .records items number next thermal =>
    items.flatMap (fun i => put8 i.1 ++ i.2.bytes) ++ put8 number ++ put8 next ++
      thermal.elim [] fun t => t.1.bytes ++ chillerBytes t.2
  | .scan stop examined remaining => put8 (stop.getD Config.scanEnd) ++ put8 examined ++ put8 remaining
  | .envelope e => e.bytes
  | .table c stored faulted => c.bytes ++ put16 stored.toNat ++ putCondition faulted
  | .crc value => put16 value.toNat
  | .parameter value => putSigned32 value
  | .flags latched => put16 latched.toNat
  | .round scope quiet => put8 scope.code ++ put8 scope.index ++ put8 (modeCode quiet)
  | .restore reason => put8 reason.code
  | .gate g => put8 g.code
  | .connection c => put8 c.code
  | .fireStage f => put8 f.rank

/-- The payload of a MANAGEMENT RESPONSE (R152). -/
def Response.payload (r : Response) : List Byte := put8 r.code ++ put8 r.status.code ++ r.result.bytes

/-- The frame that leaves the Station Port for what its queue holds: a forwarded frame unchanged, and any other from the
part's own address to the station controller (R152, R158, R162). -/
def StationFrame.frame (address : Nat) : StationFrame → Frame
  | .forwarded f => f
  | .result r => ⟨0, address, kindDispatchResult, r.payload⟩
  | .response r => ⟨0, address, kindManagementResponse, r.payload⟩
  | .notice n => ⟨0, address, kindNotice, n.payload⟩

end Sys2Proof.Machine
end

