-- ==== Sys2Proof/WellFormed.lean ====
section
/-! DEFINITION. Which commands a port, a line or a supply can bring: addresses of 7 bits, kinds and lengths of one
byte, payloads that a frame holds (R152). -/

namespace Sys2Proof

/-- An address, 0–127 (R152). -/
def addressOk (a : Nat) : Bool := a ≤ 127

/-- A payload of 0 to 64 bytes (R152). -/
def payloadOk (payload : List Byte) : Bool := payload.length ≤ 64

/-- A frame received whole (R152, R153). -/
def Frame.wellFormed (f : Frame) : Bool :=
  addressOk f.dest && addressOk f.src && f.kind ≤ 255 && payloadOk f.payload

/-- The arguments that follow a request code in one payload (R165). -/
def argsOk (args : List Byte) : Bool := args.length ≤ 63

/-- The arguments of a LOAD TABLE: the contents of the longest table take 512 bytes beside the table number, more than
one payload holds (log 18). -/
def loadArgsOk (args : List Byte) : Bool := args.length ≤ 513

/-- The bytes of a frame after its SYNC, less its last one: at most 4 of header, 64 of payload and 1 of CRC (R152). -/
def frameBytesOk (bytes : List Byte) : Bool := bytes.length ≤ 69

/-- Whether a command can come about. -/
def Instr.wellFormed (i : Instr) : Bool :=
  match i with
  | .moduleReport dest src payload => addressOk dest && addressOk src && payloadOk payload
  | .stringReport dest src payload => addressOk dest && addressOk src && payloadOk payload
  | .gridSample dest src payload => addressOk dest && addressOk src && payloadOk payload
  | .pcsStatus dest src payload => addressOk dest && addressOk src && payloadOk payload
  | .coolantStatus dest src payload => addressOk dest && addressOk src && payloadOk payload
  | .detectorReport dest src payload => addressOk dest && addressOk src && payloadOk payload
  | .fieldFrame f => f.wellFormed
  | .stationFrame f => f.wellFormed
  | .dispatch dest src payload => addressOk dest && addressOk src && payloadOk payload
  | .readStatus args => argsOk args
  | .readRecords args => argsOk args
  | .scanCells args => argsOk args
  | .readEnvelope args => argsOk args
  | .readTable args => argsOk args
  | .loadTable args => loadArgsOk args
  | .loadEntry args => argsOk args
  | .setParameter args => argsOk args
  | .storeImage args => argsOk args
  | .clearFlags args => argsOk args
  | .clearCounters args => argsOk args
  | .restart args => argsOk args
  | .startRound args => argsOk args
  | .stopRound args => argsOk args
  | .isolateString args => argsOk args
  | .restoreString args => argsOk args
  | .resetString args => argsOk args
  | .releaseGate args => argsOk args
  | .connect args => argsOk args
  | .disconnect args => argsOk args
  | .resetLockout args => argsOk args
  | .resetFire args => argsOk args
  | .unknownRequest payload => payloadOk payload
  | .lengthError _ _ => true
  | .truncatedFrame _ part => frameBytesOk part.bytes
  | .faultyFrameEnd _ _ _ _ payload _ => payloadOk payload
  | .fieldTransmitStart => true
  | .fieldFrameSent => true
  | .stationTransmitStart => true
  | .stationFrameSent => true
  | .noticeMove => true
  | .intervalExpiry => true
  | .wakeSettleExpiry => true
  | .quietSettleExpiry => true
  | .roundDeadlineExpiry => true
  | .contactorTimerExpiry _ => true
  | .envelopeTimerExpiry => true
  | .stationSilenceExpiry => true
  | .overshootTimerExpiry => true
  | .stageDelayExpiry _ => true
  | .openTimeout => true
  | .closeTimeout => true
  | .reconnectTimerExpiry => true
  | .historyTimerExpiry => true
  | .tripPulseEnd => true
  | .closePulseEnd => true
  | .nodeSilenceExpiry _ => true
  | .clearTimerExpiry _ => true
  | .fireTimerExpiry => true
  | .releaseCountdownEnd _ => true
  | .auxRestoreExpiry => true
  | .scrubTimerExpiry => true
  | .lineLevelChange _ _ => true
  | .breakerFeedbackChange => true
  | .breakerAdoption => true
  | .fireLineChange _ => true
  | .releaseHoldChange => true
  | .eStopActive => true
  | .eStopInactive => true
  | .unassignedLineChange _ => true
  | .maintChange => true
  | .vauxFall => true
  | .vauxRise => true
  | .vauxRestoreDip => true
  | .holdupLowBegin => true
  | .holdupLowEnd => true
  | .brownOut => true
  | .resetnAssert => true
  | .restartReset => true
  | .resetComplete _ => true
  | .storeRecordWritten _ => true
  | .syncReceived _ => true

end Sys2Proof
end

