-- ==== Sys2Proof/Safety.lean ====
section
/-! DEFINITION. What claims are stated in: when the part takes commands and requests, what a command leaves alone, and
the conditions that every step keeps. -/

namespace Sys2Proof.Machine

/-! ### When the part acts -/

/-- No reset holds the part (R179). -/
def State.runs (s : State) : Prop := s.sys.hold = none

/-- The part executes a request that arrives: it runs, restart pending does not hold, and a Station place is free
(R163, R171). -/
def State.takesRequests (s : State) : Prop :=
  s.runs ∧ s.engine.restartPending = false ∧ s.stationPort.used < 32

/-- The MAINT input is debounced active (R175). -/
def State.maintActive (s : State) : Prop := s.lines.maint.active = true

/-- A response joins the Station queue (R163). -/
def State.withResponse (s : State) (code : Nat) (status : Status) (d : ResultData) : State :=
  s.stationJoin (.response ⟨code, status, d⟩)

/-! ### Kinds of command -/

/-- The commands that act while a reset holds the part: a pin's level, and what begins or ends a reset (log 9). -/
def actsInReset (c : Instr) : Bool :=
  match c with
  | .lineLevelChange _ _ | .brownOut | .resetnAssert | .resetComplete _ => true
  | _ => false

/-- The request code and the arguments of a row that is a MANAGEMENT REQUEST with a known code (R165). -/
def requestRow (c : Instr) : Option (Nat × List Byte) :=
  match c with
  | .readStatus args => some (1, args)
  | .readRecords args => some (2, args)
  | .scanCells args => some (3, args)
  | .readEnvelope args => some (4, args)
  | .readTable args => some (5, args)
  | .loadTable args => some (6, args)
  | .loadEntry args => some (7, args)
  | .setParameter args => some (8, args)
  | .storeImage args => some (9, args)
  | .clearFlags args => some (10, args)
  | .clearCounters args => some (11, args)
  | .restart args => some (12, args)
  | .startRound args => some (13, args)
  | .stopRound args => some (14, args)
  | .isolateString args => some (15, args)
  | .restoreString args => some (16, args)
  | .resetString args => some (17, args)
  | .releaseGate args => some (18, args)
  | .connect args => some (19, args)
  | .disconnect args => some (20, args)
  | .resetLockout args => some (21, args)
  | .resetFire args => some (22, args)
  | _ => none

/-- The kind of a row that is a report on the Field Port, with its frame (00_scope). -/
def reportRow (c : Instr) : Option Frame :=
  match c with
  | .moduleReport dest src payload => some ⟨dest, src, kindModuleReport, payload⟩
  | .stringReport dest src payload => some ⟨dest, src, kindStringReport, payload⟩
  | .gridSample dest src payload => some ⟨dest, src, kindGridSample, payload⟩
  | .pcsStatus dest src payload => some ⟨dest, src, kindPcsStatus, payload⟩
  | .coolantStatus dest src payload => some ⟨dest, src, kindCoolantStatus, payload⟩
  | .detectorReport dest src payload => some ⟨dest, src, kindDetectorReport, payload⟩
  | .fieldFrame f => some f
  | _ => none

/-- A MODULE REPORT of module `m` fails a condition of R10. -/
def State.refusesReport (s : State) (m : Nat) (x : ModuleReport) : Prop :=
  s.rounds.phase ≠ .collecting ∨ x.tag ≠ s.rounds.tag ∨
    ∀ o, s.rounds.openRound = some o → m ∉ o.expected ∨ m ∈ o.reported

/-- Whether a BLEED SET to `dest` waits in NORMAL ahead of a BLEED HOLD. -/
def FieldPort.setAheadOfHold (port : FieldPort) (dest : Nat) : Bool :=
  (port.normal.dropWhile fun w => !(w.frame.kind == kindBleedSet && w.frame.dest == dest)).any fun w =>
    w.frame.kind == kindBleedHold

/-! ### What a command leaves alone -/

/-- The pieces of the state, one for each field of `State`. -/
inductive Part where
  | pending | time | sys | rounds | modules | strings | cellsHold | limits | envelope | gate | grid | conn | thermal | fire
  | nodes | fieldPort | stationPort | engine | notices | flags | config | image | lines | supply | counters | choices
  deriving DecidableEq, Repr

/-- `t` holds the same as `s` in the piece `p`. -/
def State.sameIn (s t : State) (p : Part) : Prop :=
  match p with
  | .pending => t.pending = s.pending
  | .time => t.time = s.time
  | .sys => t.sys = s.sys
  | .rounds => t.rounds = s.rounds
  | .modules => t.modules = s.modules
  | .strings => t.strings = s.strings
  | .cellsHold => t.cellsHold = s.cellsHold
  | .limits => t.limits = s.limits
  | .envelope => t.envelope = s.envelope
  | .gate => t.gate = s.gate
  | .grid => t.grid = s.grid
  | .conn => t.conn = s.conn
  | .thermal => t.thermal = s.thermal
  | .fire => t.fire = s.fire
  | .nodes => t.nodes = s.nodes
  | .fieldPort => t.fieldPort = s.fieldPort
  | .stationPort => t.stationPort = s.stationPort
  | .engine => t.engine = s.engine
  | .notices => t.notices = s.notices
  | .flags => t.flags = s.flags
  | .config => t.config = s.config
  | .image => t.image = s.image
  | .lines => t.lines = s.lines
  | .supply => t.supply = s.supply
  | .counters => t.counters = s.counters
  | .choices => t.choices = s.choices

/-- `t` differs from `s` in no piece but the named ones. -/
def State.changesOnly (s t : State) (parts : List Part) : Prop := ∀ p : Part, p ∉ parts → s.sameIn t p

/-- `t` differs from `s` in none of the named pieces. -/
def State.keeps (s t : State) (parts : List Part) : Prop := ∀ p : Part, p ∈ parts → s.sameIn t p

/-! ### Conditions that every step keeps -/

/-- The Notice Queue holds at most 24 notices, and one of each identity (R172). -/
def NoticesOk (q : List Notice) : Prop :=
  q.length ≤ 24 ∧ q.Pairwise fun a b => ¬(a.kind = b.kind ∧ a.subject = b.subject)

/-- ALERT follows the latched flags, of which there are thirteen (R171, R173). -/
def FlagsOk (f : FlagRec) : Prop := f.alert = alertOf f.latched ∧ f.latched &&& 0x1FFF#16 = f.latched

/-- The NORMAL queue uses at most 32 places; in URGENT wait supersedable frames alone, one of each kind and
destination (R160). -/
def FieldPortOk (p : FieldPort) : Prop :=
  p.normalUsed ≤ 32 ∧ (∀ w ∈ p.urgent, supersedable w.frame.kind = true) ∧
    p.urgent.Pairwise fun a b => ¬(a.frame.kind = b.frame.kind ∧ a.frame.dest = b.frame.dest)

/-- The Station queue uses at most 32 places (R162). -/
def StationPortOk (p : StationPort) : Prop := p.used ≤ 32

/-- The four conditions together. -/
def State.Ok (s : State) : Prop :=
  NoticesOk s.notices ∧ FlagsOk s.flags ∧ FieldPortOk s.fieldPort ∧ StationPortOk s.stationPort

/-- TRIP_OUT and CLOSE_OUT are not pulsing at once (R112). -/
def PulsesOk (c : ConnRec) : Prop := c.tripOut = none ∨ c.closeOut = none

/-- A connection that stands OPEN_LOCKED, or is opening toward it. -/
def ConnRec.lockedOut (c : ConnRec) : Prop :=
  c.state = .openLocked ∨ (c.state = .opening ∧ c.target = some .openLocked)

/-- What the part holds off while a zone is fire-confirmed (R111): both limits and the fan duty are zero, the connection
is locked out or opening toward that, and no string is in service or being restored. -/
def State.FireHolds (s : State) : Prop :=
  s.anyConfirmed = true →
    s.envelope.record.pChgLim = 0 ∧ s.envelope.record.pDisLim = 0 ∧ s.thermal.command.fanDuty = 0 ∧
    s.conn.lockedOut ∧
    ∀ i < 4, (s.stringAt i).state ≠ .inService ∧ (s.stringAt i).state ≠ .restoring

/-- What the trip history holds off: while it holds trip_limit entries, the connection is locked out or opening toward
that (R113). -/
def State.HistoryHolds (s : State) : Prop := s.tables.t9.tripLimit ≤ s.conn.history.length → s.conn.lockedOut

/-- A zone's clear timer runs below the fire-confirmed stages, and its countdown in them (R144, R147). -/
def FireZoneOk (z : FireZone) : Prop :=
  (∀ t, z.clearTimer = some t → z.stage.confirmed = false ∧ t.ceiling.confirmed = false) ∧
    (z.countdown ≠ none → z.stage.confirmed = true)

/-- A trip_limit of at least 1, the least of its range, in a set of tables (R108). -/
def Tables.limitsTrips (t : Tables) : Prop := 1 ≤ t.t9.tripLimit

/-- The guard of the container: what holds while a zone is fire-confirmed and while the history is full, the level of
RELEASE_OUT (R148), and the conditions that make these last. -/
structure State.Guarded (s : State) : Prop where
  fire : s.FireHolds
  history : s.HistoryHolds
  release : s.runs → s.fire.releaseOut = s.fire.zones.any (·.stage == .released)
  lockout : s.conn.lockedOut → s.conn.lockout ≠ .none
  zones : ∀ z ∈ s.fire.zones, FireZoneOk z
  eightZones : s.fire.zones.length = 8
  fourStrings : s.strings.length = 4
  limits : s.tables.limitsTrips
  imageLimits : s.image.tables.limitsTrips
  storeLimits : ∀ w, s.engine.store = some w → w.tables.limitsTrips

/-- Q lies within 0 to Q_cap, and the SOC is that of Q (R47 to R49). -/
def ChargeOk (r : ChargeRec) : Prop := r.q ≤ r.qCap ∧ r.soc = socOf r.q r.qCap

/-- The condition of every charge record, with stored SOCs of at most 1024 (R43, R58). -/
structure State.ChargesOk (s : State) : Prop where
  records : ∀ r ∈ s.strings, ChargeOk r.charge
  image : ∀ x ∈ s.image.soc, x ≤ 1024
  store : ∀ w, s.engine.store = some w → ∀ x ∈ w.soc, x ≤ 1024

end Sys2Proof.Machine
end

