-- ==== Sys2Proof/Certificates/Slice0/Obligations.lean ====
section
/-! DEFINITION. The statements about the model, for the provers. Each says which rule or section it formalises; a
statement of what a command does gives the state after it, and what it leaves alone. -/

open Sys2Proof Sys2Proof.Machine

/-! ### Stepping and resets -/

/-- A step takes the command at the front of the queue and executes it on the rest. -/
def Obligations.StepExecutesTheFrontCommand : Prop :=
  ∀ (s : State) (c : Instr) (rest : List Instr), s.pending = c :: rest → step s = exec c (s.setPending rest)

/-- Every command of the table completes, and none reaches the queue of the commands that wait. -/
def Obligations.EveryCommandCompletesAndKeepsTheQueue : Prop :=
  ∀ (c : Instr) (s : State), ∃ t, exec c s = .next t ∧ t.pending = s.pending

/-- On an empty queue a millisecond passes, unless a reset holds the part; and while one does, only pin levels and reset
events act: the model's choices (logs 1 and 9). -/
def Obligations.IdleAndHeldPartsOnlyWait : Prop :=
  (∀ s : State, s.pending = [] →
    (s.runs → step s = .next (s.setTime (s.time + 1))) ∧ (¬s.runs → step s = .next s)) ∧
  (∀ (c : Instr) (s : State), ¬s.runs → actsInReset c = false → exec c s = .next s)

/-- BROWN OUT and RESETN ASSERT begin a reset (R170, R173, R178, R179): the record being written is left bad, the
queues, flags and output pulses are gone, and the cause of the reset is marked. RELEASE_OUT falls at a brown-out and
stands at RESETN. -/
def Obligations.ResetEventsHoldThePart : Prop :=
  ∀ (s : State) (brownOut : Bool), ∃ t h,
    exec (if brownOut then .brownOut else .resetnAssert) s = .next t ∧
    t.sys = { s.sys with hold := some h } ∧
    (h.brownOut = true ↔ brownOut = true ∨ ∃ k, s.sys.hold = some k ∧ k.brownOut = true) ∧
    (h.resetn = true ↔ brownOut = false ∨ ∃ k, s.sys.hold = some k ∧ k.resetn = true) ∧
    t.fieldPort = .atReset ∧ t.stationPort = .atReset ∧ t.flags = ⟨0, false⟩ ∧
    t.conn = { s.conn with tripOut := none, closeOut := none } ∧
    t.fire = { s.fire with releaseOut := s.fire.releaseOut && !brownOut } ∧
    t.engine = { s.engine with store := none, restartPending := false } ∧
    (s.engine.store = none → t.image = s.image) ∧
    (∀ w, s.engine.store = some w → t.image = { s.image with ok := s.image.ok.set (w.record - 1) false }) ∧
    s.changesOnly t [.sys, .conn, .fire, .engine, .image, .fieldPort, .stationPort, .flags]

/-- RESET COMPLETE ends a reset (R17, R21, R42, R81, R100, R101, R104, R119, R120, R133, R155, R175, R177 to R180): part
time starts from 0, the cause is POWER_ON where a brown-out occurred, else RESET_LINE where RESETN did, else RESTART,
and the address comes from the pins. Each table and the parameters come from the image, or from the built-in default
where their record fails; and every block stands at its reset values, the Envelope Unit after the evaluations of
start-up, the Gate after its initial zero frame, and the Thermal Controller after its initial command. Its evaluation
number counts an evaluation for each unwatched zone (R145; log 28 orders what start-up does) and one for the initial zero
frame, which is made without a PCS entry too, although no frame then follows (log 43). What the part finds at its pins and
rails comes with the command (log 30). -/
def Obligations.ResetCompleteStartsThePart : Prop :=
  ∀ (s : State) (h : ResetHold) (found : ResetEnd), s.sys.hold = some h → ∃ t,
    exec (.resetComplete found) s = .next t ∧
    let p := t.params
    let m := t.coolantMaking
    let noLine := !(t.tables.t15.any (·.function == .breakerClosed))
    let fails := fun n : Nat => !(s.image.ok.getD (n - 1) false)
    t.time = 0 ∧ t.sys = ⟨none, h.cause, 120 + found.addrPins.val⟩ ∧
    h.cause = (if h.brownOut then .powerOn else if h.resetn then .resetLine else .restart) ∧
    t.image = s.image ∧
    (∀ n, 1 ≤ n → n ≤ 16 → t.tables.get n = (if fails n then Tables.builtIn.get n else s.image.tables.get n) ∧
      t.isFaulted n = fails n) ∧
    p = (if fails 17 then .builtIn else s.image.params) ∧ t.config.crcs = t.tables.crcs ∧
    t.config.scrubEnd = BitVec.ofNat 32 (p.scrubPeriod * 1000) ∧
    t.engine = ⟨none, s.image.ok.any (!·), false⟩ ∧
    t.supply = ⟨if found.vauxAbove then .normal else .holdup, none, found.vholdLow⟩ ∧
    t.lines = ⟨s.lines.inputs.map fun r => ⟨r.high, 0, .unknown⟩, ⟨s.lines.maint.high, 0, false⟩⟩ ∧
    t.rounds = ⟨.idle, 0, true, 0, none,
      BitVec.ofNat 32 (if found.vauxAbove then p.roundInterval else max p.roundInterval (p.holdupInterval * 1000)), 0⟩ ∧
    t.modules = t.tables.t16.map .atReset ∧ t.cellsHold = false ∧ t.limits = ⟨t.tables.t1, t.tables.t2⟩ ∧
    (∀ r ∈ t.strings, r.state = .awaiting ∧ r.cause = none ∧ r.pendingCause = none ∧ r.current = none ∧
      r.voltage = none ∧ r.feedback = .unknown ∧ r.extremes = .absent ∧ r.timer = none) ∧
    t.envelope = ⟨{ EnvelopeRec.atReset with
      fFire := t.fireFactor, fCoolant := 1024, fCells := 1024
      fConfig := if t.config.faulted.any id then 0 else 1024
      fEstop := 1024, number := ((List.range 8).filter t.zoneUnwatched).length + 1 }, 1000⟩ ∧
    t.gate = ⟨.held, some (if h.cause = .powerOn then .start else .restart), 0, 0, false, 0, 0, 0, 0,
      t.pcsAddress.map fun _ => 0, some (BitVec.ofNat 32 (p.stationTimeout * 1000)), none, none, true⟩ ∧
    t.grid = .atReset ∧ t.nodes = List.replicate 64 .atReset ∧
    t.conn.feedback = (if noLine then .isOpen else .unknown) ∧ t.conn.startAdopted = noLine ∧
    t.conn.request = .none ∧ t.conn.tripCause = none ∧ t.conn.target = none ∧ t.conn.reconnectEnd = none ∧
    t.conn.breakerEnd = none ∧ t.conn.historyEnd = 1000 ∧ t.conn.tripOut = none ∧ t.conn.closeOut = none ∧
    t.thermal = ⟨(List.range 8).map fun z =>
        ⟨t.zoneInUse z, none, false, if t.zoneInUse z then t.tables.t11.fallbackCode else 0, m.valves.getD z 0,
          dutyOf (m.valves.getD z 0)⟩,
      .ok, none,
      ⟨m.run, m.fan, dutyOf m.fan, 0, if (t.addressOf .chiller 0).isSome then .queued else .unaddressed⟩⟩ ∧
    t.fire.detectors = List.replicate 16 .atReset ∧ t.fire.timerEnd = 1000 ∧
    t.stationPort = .atReset ∧ s.keeps t [.pending, .choices]

/-- What a reset keeps and what its end announces (R42, R57, R58, R83, R119, R133, R145, R151, R170, R179): after a
POWER_ON every charge comes from the stored SOC and nothing is retained; after any other reset the charges, the retained
conditions, the trip history, the lockout, and the fire-confirmed zones with their countdowns are kept. The flags of
what stands are latched again, the initial zero frame and coolant command wait in the Field queues, and the notices
entered begin with those of failed records and end with STARTED; the order of the notices between these, of strings and
zones in index order, is the model's choice (logs 28 and 63). -/
def Obligations.ResetKeepsAndAnnounces : Prop :=
  ∀ (s : State) (h : ResetHold) (found : ResetEnd), s.sys.hold = some h → s.fire.zones.length = 8 → ∃ t,
    exec (.resetComplete found) s = .next t ∧
    let powerOn := h.cause == .powerOn
    let t9 := t.tables.t9
    (∀ (i : Nat) (r u : StringRec), s.strings[i]? = some r → t.strings[i]? = some u →
      let capacity := (t.tables.t10.entries.getD i .builtIn).capacityAh
      let cap := capacity * 36000000
      let stored := if s.image.ok.getD 17 false then s.image.soc.getD i 512 else 512
      (powerOn = true → u.charge = .atPowerOn stored capacity ∧ u.charge.q = stored * cap / 1024 ∧ u.charge.qCap = cap ∧
        u.charge.uncalibrated = true ∧ u.retained = .none) ∧
      (powerOn = false → u.retained = r.retained ∧ u.charge = { r.charge with
        qCap := cap, q := min r.charge.q cap, soc := min r.charge.q cap * 1024 / cap
        uncalibrated := r.charge.uncalibrated || decide (cap < r.charge.q)
        lastSeq := none, lastCurrent := none, lastTime := none, overrange := 0, filled := 0, gaps := 0 })) ∧
    t.strings.length = s.strings.length ∧
    (let aged := s.conn.history.map fun e => { e with time := e.time - s.time }
     let full := t9.tripLimit ≤ s.conn.history.length
     (powerOn = true → t.conn.history = [] ∧ (0 < t9.tripLimit → t.conn.lockout = .none)) ∧
     (powerOn = false → t.conn.history = (if full then lastEntries t9.tripLimit aged else aged) ∧
      t.conn.lockout = (if full ∧ s.conn.lockout = .none then .history else s.conn.lockout))) ∧
    t.conn.state = (if t.conn.lockout = .none then .openWait else .openLocked) ∧
    (∀ z < 8, t.fireZone z = { FireZone.atReset with unwatched := t.zoneUnwatched z } ∧
        (powerOn = true ∨ (s.fireZone z).stage.confirmed = false) ∨
      t.fireZone z = { FireZone.atReset with
        stage := (s.fireZone z).stage, target := .fire, fireTime := some 0, unwatched := t.zoneUnwatched z
        countdown := (s.fireZone z).countdown.map fun c =>
          if t.tables.t15.any (·.function == .releaseHold) then .paused (s.remaining c)
          else .running (BitVec.ofNat 32 (s.remaining c)) } ∧
        powerOn = false ∧ (s.fireZone z).stage.confirmed = true) ∧
    t.fire.releaseOut = t.fire.zones.any (·.stage == .released) ∧
    (∀ f : Flag, t.isLatched f = true ↔
      (f = .configFault ∧ ∃ n, 1 ≤ n ∧ n ≤ 18 ∧ s.image.ok.getD (n - 1) false = false) ∨
      (f = .lockout ∧ t.conn.lockout ≠ .none) ∨ (f = .breakerFail ∧ t.conn.lockout = .breakerFail) ∨
      (f = .fire ∧ t.anyConfirmed = true) ∨ (f = .release ∧ t.fire.zones.any (·.stage == .released) = true) ∨
      (f = .holdupLow ∧ found.vholdLow = true)) ∧
    (let fails := ((List.range 18).map (· + 1)).filter fun n => !(s.image.ok.getD (n - 1) false)
     let uncalibrated := (List.range 4).filter fun i =>
      if powerOn then (t.stringEntry i).inUse
      else (t.stringAt i).charge.uncalibrated && !(s.stringAt i).charge.uncalibrated
     let raised : List (NoticeKind × Option Nat) :=
      fails.map (fun n => (.configFault, some n)) ++ uncalibrated.map (fun i => (.socUncalibrated, some i)) ++
        ((List.range 8).filter fun z => (t.fireZone z).stage.confirmed).map (fun z => (.fire, some z)) ++
        ((List.range 8).filter t.zoneUnwatched).map (fun z => (.zoneUnwatched, some z)) ++
        [(.started, some (h.cause.code + (if found.vauxAbove then 0 else 4)))]
     t.notices = raised.foldl (fun q n => enterNotice q ⟨n.1, n.2, 1, 0⟩) [] ∧
     t.counters = { noticesLost := raised.length - 24
                    dispatchUnaddressed := if t.pcsAddress.isSome then 0 else 1
                    coolantUnaddressed := if (t.addressOf .chiller 0).isSome then 0 else 1 }) ∧
    (let m := t.coolantMaking
     let zero : Option Placed := t.pcsAddress.map fun a =>
      t.ownFrame kindDispatch a (dispatchPayload 0 0 0 false { held := true, corrective := true })
     let command : Option Placed := (t.addressOf .chiller 0).map fun a =>
      t.ownFrame kindCoolantCommand a (coolantCommandPayload m.run (m.valves.map dutyOf) (dutyOf m.fan))
     t.fieldPort = ⟨none, zero.toList ++ (if t.anyConfirmed then command.toList else []),
      if t.anyConfirmed then [] else command.toList, none⟩)

/-- The state after reset is what RESET COMPLETE leaves of a POWER_ON reset of the part on the initial image, which is
the model's choice, as is what stands at the pins (log 2); and it meets every condition below. -/
def Obligations.ResetStateFollowsFromPowerOn : Prop :=
  (∀ s : State, s = State.atReset.setSys ⟨some ⟨true, false⟩, .powerOn, 120⟩ →
    exec (.resetComplete ⟨0, true, false⟩) s = .next State.reset) ∧
  State.reset.Ok ∧ PulsesOk State.reset.conn ∧ State.reset.Guarded ∧ State.reset.ChargesOk

/-! ### Conditions that every step keeps -/

/-- The Notice Queue never holds more than 24 notices, nor two of one kind and subject (R172); the NORMAL queue uses at
most 32 places (R160); and the Station queue never uses more than its 32 places (R162, R163). Of URGENT this says only
that it holds supersedable frames, one of each kind and destination: the model does not check its 8 places (log 8). -/
def Obligations.QueuesKeepTheirForm : Prop :=
  ∀ s t : State, step s = .next t →
    (NoticesOk s.notices → NoticesOk t.notices) ∧ (FieldPortOk s.fieldPort → FieldPortOk t.fieldPort) ∧
    (StationPortOk s.stationPort → StationPortOk t.stationPort)

/-- ALERT is active exactly while a latched flag of severity ALARM or TRIP is set, and inactive from the start of
every reset (R173). NODE_SILENT, a WARNING, does not drive it. -/
def Obligations.AlertFollowsTheFlags : Prop :=
  (∀ s t : State, FlagsOk s.flags → step s = .next t → FlagsOk t.flags) ∧
  (∀ l : BitVec 16, alertOf l = true ↔ ∃ f : Flag, f ≠ .nodeSilent ∧ l.getLsbD f.bit = true) ∧
  (∀ (s : State) (b r : Bool), (s.beginReset b r).flags.alert = false)

/-- TRIP_OUT and CLOSE_OUT never pulse at once (R112). -/
def Obligations.OutputsNeverPulseTogether : Prop :=
  ∀ s t : State, PulsesOk s.conn → step s = .next t → PulsesOk t.conn

/-- The guard of the container lasts through every step: while a zone is fire-confirmed the limits and the fan are at
zero, the connection is locked out or opening toward that, and no string is in service (R111); a full trip history
keeps it locked out too (R113); RELEASE_OUT follows the RELEASED zones (R148). -/
def Obligations.GuardOutlastsEveryStep : Prop :=
  ∀ s t : State, s.Guarded → step s = .next t → t.Guarded

/-- Every charge record keeps Q within 0 to Q_cap, and its SOC is that of Q (R47 to R49, R56 to R58). -/
def Obligations.ChargeStaysWithinCapacity : Prop :=
  ∀ s t : State, s.ChargesOk → step s = .next t → t.ChargesOk

/-! ### Frames received -/

/-- A report that fits its layout, from a node whose role its kind belongs to, marks the node LIVE, reaches the block
of that role, and is then offered to the Station queue under the node's policy (R153, R155, R157, R158). The block of the
role takes what the payload says; a DETECTOR REPORT's pairs are taken in order, and then the zones that they name are
evaluated (R138). Under ALL every frame is offered, under NONE none, and under EVERY_N the one at which the forward counter
reaches N, or has been left at or above it by a load (log 50), which returns it to 0; one offered is admitted and counted
for its node while fewer than 28 places are used, and is otherwise counted in station_forward_lost (R158, R162). The
zones that a DETECTOR REPORT concerns are evaluated in index order (log 63). -/
def Obligations.FieldReportReachesItsBlock : Prop :=
  (∀ (c : Instr) (f : Frame) (s : State) (i : Nat) (e : NodeEntry), reportRow c = some f → s.runs →
    f.src ≠ s.sys.address → (s.nodeIndex fun e => e.address == f.src) = some i → s.nodeEntry i = some e →
    e.role.kind = some f.kind → payloadFits f.kind f.payload = true →
    exec c s =
      .next (((((s.setSlot .field none).nodeHeard i e).consume e f.payload)).forwardFrame i e f)) ∧
  (∀ (s : State) (e : NodeEntry) (payload : List Byte),
    (∀ x, e.role = .moduleMonitor → ModuleReport.read payload = some (x, []) →
      s.consume e payload = s.takeModuleReport e.recordIndex x) ∧
    (∀ x, e.role = .stringMonitor → StringReport.read payload = some (x, []) →
      s.consume e payload = s.takeStringReport e.recordIndex x) ∧
    (∀ x, e.role = .meter → GridSample.read payload = some (x, []) → s.consume e payload = s.takeGridSample x) ∧
    (∀ x, e.role = .pcs → PcsStatus.read payload = some (x, []) → s.consume e payload = s.takePcsStatus x) ∧
    (∀ x, e.role = .chiller → CoolantStatus.read payload = some (x, []) →
      s.consume e payload = s.takeCoolantStatus x) ∧
    (∀ pairs, e.role = .firePanel → detectorPairs payload = some pairs →
      let named := fun z : Nat => pairs.any fun p =>
        let d := s.detectorEntry (e.recordIndex + p.1)
        decide (e.recordIndex + p.1 ≤ 15) && d.inUse && d.zone == z
      s.consume e payload =
        ((List.range 8).filter named).foldl (fun t z => t.evaluateZone z)
          (pairs.foldl (fun t p => t.takeDetectorPair e.recordIndex e.address p) s))) ∧
  (∀ (s : State) (i : Nat) (e : NodeEntry) (f : Frame),
    let n := (s.nodeAt i).forwardCounter
    let offers : Bool := match e.policy with
      | .all => true
      | .none => false
      | .everyN k => decide (k ≤ n + 1)
    let after := match e.policy with
      | .all | .none => n
      | .everyN k => if k ≤ n + 1 then 0 else n + 1
    let t := s.forwardFrame i e f
    let counted := s.setNodes (s.nodes.modify i fun r => { r with forwardCounter := after })
    (offers = false → t = counted) ∧
    (offers = true → s.stationPort.used < 28 →
      t = (s.setNodes (s.nodes.modify i fun r =>
          { r with forwardCounter := after, forwarded := inc16 r.forwarded })).setStationPort
        { s.stationPort with queue := s.stationPort.queue ++ [.forwarded f] }) ∧
    (offers = true → 28 ≤ s.stationPort.used →
      t = counted.setCounters { s.counters with stationForwardLost := inc16 s.counters.stationForwardLost }))

/-- A frame whose payload does not fit its kind is counted as malformed, whatever its source and whatever else becomes of
it, and no block takes it (R153; log 16 of the source, of requests, and that such a frame is still counted by source). A
frame of the part's own address is a ring return and is only counted; a frame from an unknown source is counted, and
forwarded or dropped as forward_unknown says; a known node's frame of a kind that is not its role's is counted as a
mismatch, and forwarded; and one of a node of role OTHER, or one that is malformed, is forwarded alone (R157, R158). An offered frame joins the Station queue while fewer than 28 places are used, and is otherwise counted
(R162); the policy's part in a forwarding is that of FieldReportReachesItsBlock. -/
def Obligations.OtherFieldFramesAreCounted : Prop :=
  (∀ (c : Instr) (f : Frame) (s : State), reportRow c = some f → s.runs →
    let fits := payloadFits f.kind f.payload
    let k := if fits then s.counters else { s.counters with fieldPort := { s.counters.fieldPort with
      malformedFrames := inc16 s.counters.fieldPort.malformedFrames } }
    let r := (s.setSlot .field none).setCounters k
    (f.src = s.sys.address → exec c s = .next (r.setCounters { k with ringReturns := inc16 k.ringReturns })) ∧
    (f.src ≠ s.sys.address → (s.nodeIndex fun e => e.address == f.src) = none →
      let u := r.setCounters { k with unknownSources := inc16 k.unknownSources }
      exec c s = .next (if s.params.forwardUnknown then u.offerForwarded f else
        u.setCounters { u.counters with unknownDropped := inc16 u.counters.unknownDropped })) ∧
    (∀ (i : Nat) (e : NodeEntry), f.src ≠ s.sys.address →
      (s.nodeIndex fun e => e.address == f.src) = some i → s.nodeEntry i = some e →
      let h := r.nodeHeard i e
      (∀ own, e.role.kind = some own → f.kind ≠ own → exec c s = .next
        ((h.setCounters { h.counters with kindMismatches := inc16 h.counters.kindMismatches }).forwardFrame i e f)) ∧
      (e.role.kind = some f.kind → fits = false → exec c s = .next (h.forwardFrame i e f)) ∧
      (e.role = .other → exec c s = .next (h.forwardFrame i e f)))) ∧
  (∀ (s : State) (f : Frame),
    (s.stationPort.used < 28 → s.offerForwarded f =
      s.setStationPort { s.stationPort with queue := s.stationPort.queue ++ [.forwarded f] }) ∧
    (28 ≤ s.stationPort.used → s.offerForwarded f =
      s.setCounters { s.counters with stationForwardLost := inc16 s.counters.stationForwardLost }))

/-- A frame taken from a node makes it LIVE, restarts its silence timer, and raises NODE_LIVE where it was SILENT
(R155). -/
def Obligations.TakenFrameMakesItsNodeLive : Prop :=
  ∀ (s : State) (i : Nat) (e : NodeEntry), i < s.nodes.length →
    let t := s.nodeHeard i e
    let n : Notice := ⟨.nodeLive, some e.address, 1, s.time⟩
    (t.nodeAt i).state = .live ∧ (t.nodeAt i).taken = inc16 (s.nodeAt i).taken ∧
    (t.nodeAt i).silenceEnd = (if e.timeout = 0 then none else some (s.after e.timeout)) ∧
    (t.nodeAt i).forwardCounter = (s.nodeAt i).forwardCounter ∧
    (t.nodeAt i).forwarded = (s.nodeAt i).forwarded ∧ (∀ j, j ≠ i → t.nodeAt j = s.nodeAt j) ∧
    t.notices = (if (s.nodeAt i).state = .silent then enterNotice s.notices n else s.notices) ∧
    t.counters = (if (s.nodeAt i).state = .silent ∧ losesNotice s.notices n = true then
      { s.counters with noticesLost := inc16 s.counters.noticesLost } else s.counters) ∧
    s.changesOnly t [.nodes, .notices, .counters]

/-- A MODULE REPORT that fails a condition of R10 is discarded: stale_reports increments and every record is left
unchanged; and the frame that brought it is still forwarded under its node's policy (R11), as FieldReportReachesItsBlock
says of every frame. -/
def Obligations.StaleModuleReportIsDiscarded : Prop :=
  (∀ (s : State) (m : Nat) (x : ModuleReport), s.refusesReport m x →
    s.takeModuleReport m x = s.setCounters { s.counters with staleReports := inc16 s.counters.staleReports }) ∧
  (∀ (s : State) (i : Nat) (e : NodeEntry) (f : Frame) (x : ModuleReport) (rest : List Byte), s.runs →
    f.src ≠ s.sys.address → (s.nodeIndex fun e => e.address == f.src) = some i → s.nodeEntry i = some e →
    e.role = .moduleMonitor → moduleReportFits f.payload = true → ModuleReport.read f.payload = some (x, rest) →
    s.refusesReport e.recordIndex x →
    let h := (s.setSlot .field none).nodeHeard i e
    exec (.moduleReport f.dest f.src f.payload) s =
      .next ((h.setCounters { h.counters with staleReports := inc16 h.counters.staleReports }).forwardFrame i e
        { f with kind := kindModuleReport }))

/-- An accepted MODULE REPORT joins the reported set, and updates its module record alone: tag, temperatures and the
latest voltages of the string's cells, an open-wire cell's being absent (R10, R23). The round then waits for the others,
or, where it was the last one expected, closes as completed (R12). -/
def Obligations.AcceptedModuleReportUpdatesItsModule : Prop :=
  ∀ (s : State) (m : Nat) (x : ModuleReport) (o : OpenRound), s.rounds.phase = .collecting → x.tag = s.rounds.tag →
    s.rounds.openRound = some o → m ∈ o.expected → m ∉ o.reported →
    let cells := (s.stringEntry (stringOf m)).cells
    let o' : OpenRound := { o with
      reported := o.reported ++ [m]
      quietValid := if o.quiet && x.quietEcho then o.quietValid ++ [m] else o.quietValid }
    let modules := s.modules.modify m (fun r => { r with
      lastTag := some x.tag, temps := x.temps.map saturateTemp
      cells := r.cells.mapIdx fun c k => if c < cells then { k with latest := x.latest c } else k })
    let counters := if x.voltages.length = cells then s.counters else
      { s.counters with reportShapeErrors := inc16 s.counters.reportShapeErrors }
    let u := ((s.setRounds { s.rounds with openRound := some o' }).setModules modules).setCounters counters
    (∀ c, x.latest c = (if c ∈ x.openWire then none else match x.voltages[c]? with
      | some v => if v = 65535 then none else some (capNat 5000 v)
      | none => none)) ∧
    (o.reported.length + 1 ≠ o.expected.length → s.takeModuleReport m x = u) ∧
    (o.reported.length + 1 = o.expected.length → s.takeModuleReport m x = u.closeRound o' true)

/-- The sample of a string report is counted: Q moves by the current times the interval, within 0 to Q_cap, and the
batch takes the sample, whose sixteenth member has the batch trimmed (R47 to R49). Filled samples are counted one after
another (R45). -/
def Obligations.CountedSampleMovesTheCharge : Prop :=
  ∀ (r : ChargeRec) (current : Int) (interval : Nat) (trim : Int),
    let c := current * interval
    let q := clampInt 0 r.qCap (r.q - c)
    let ranged := if q = r.q - c then r.overrange else inc16 r.overrange
    (r.batchCount + 1 < 16 →
      r.sample current interval trim =
        { r with q := q.toNat, soc := socOf q.toNat r.qCap, overrange := ranged
                 batchSum := r.batchSum + c, batchCount := r.batchCount + 1 }) ∧
    (16 ≤ r.batchCount + 1 →
      let total := (r.batchSum + c) * trim + r.residue
      let correction := total.tdiv 65536
      let q' := clampInt 0 r.qCap (q - correction)
      r.sample current interval trim =
        { r with q := q'.toNat, soc := socOf q'.toNat r.qCap
                 overrange := if q' = q - correction then ranged else inc16 ranged
                 batchSum := 0, batchCount := 0, residue := total - correction * 65536 }) ∧
    (∀ n, let f := r.sample current interval trim
      r.fill current interval trim (n + 1) =
        { f with filled := inc16 f.filled }.fill current interval trim n)

/-- A STRING REPORT sets the measurements of its record, clears the masks of its string where the current is above
balance_current_limit (R41), and is counted (R44): a first report as one sample, a repeated one not at all, one in step
after the samples it finds missing, each of the last current (R45), and one after a gap as one sample that leaves the
string uncalibrated (R46). Of a string not in use, the contactor's feedback moves nothing (R18), and the flag of a retained
condition does not latch at the first report, as R36 has it of a string in use (log 54). -/
def Obligations.StringReportIsRecordedAndCounted : Prop :=
  ∀ (s : State) (i : Nat) (x : StringReport), i < 4 → i < s.strings.length → x.seq < 256 →
    let t := s.takeStringReport i x
    let r := (s.stringAt i).charge
    let u := (t.stringAt i).charge
    let ts := s.params.sampleInterval
    let above := s.params.balanceCurrentLimit < x.current.natAbs
    (t.stringAt i).current = some x.current ∧ (t.stringAt i).voltage = some (capNat 15000 x.voltage) ∧
    (t.stringAt i).feedback = (if x.closed then .closed else .isOpen) ∧
    (r.lastSeq = none → u = (r.sample x.current ts (s.trimOf i)).tied x s.time) ∧
    (∀ (l : Nat) (since : PartTime), r.lastSeq = some l → l < 256 → r.lastTime = some since →
      let d := (x.seq + 256 - l) % 256
      (d = 0 → u = r) ∧
      (1 ≤ d → d ≤ 17 → (s.time - since).toNat < 128 * ts →
        u = ((r.fill (r.lastCurrent.getD 0) ts (s.trimOf i) (d - 1)).sample x.current ts (s.trimOf i)).tied x s.time) ∧
      (1 ≤ d → (17 < d ∨ 128 * ts ≤ (s.time - since).toNat) →
        let c := (r.sample x.current ts (s.trimOf i)).tied x s.time
        u = { c with gaps := inc16 c.gaps, uncalibrated := true })) ∧
    (∀ k : ChargeRec, k.tied x s.time = { k with
      lastSeq := some x.seq, lastCurrent := some x.current, lastTime := some s.time }) ∧
    (above → ∀ m ∈ slotsOf i, (t.moduleAt m).mask = []) ∧
    (∀ j, j ≠ i → t.stringAt j = s.stringAt j) ∧
    ((s.stringEntry i).inUse = false →
      (t.stringAt i).state = (s.stringAt i).state ∧ (t.stringAt i).cause = (s.stringAt i).cause ∧
      (t.stringAt i).pendingCause = (s.stringAt i).pendingCause ∧ (t.stringAt i).timer = (s.stringAt i).timer ∧
      (t.stringAt i).retained = (s.stringAt i).retained ∧ (t.stringAt i).extremes = (s.stringAt i).extremes ∧
      (above → s.changesOnly t [.strings, .modules, .fieldPort, .notices, .counters]) ∧
      (¬above → s.changesOnly t [.strings, .notices, .counters]))

/-- The feedback that a STRING REPORT brings moves a string in use (R31 to R36): from AWAITING into service, into
ISOLATING, or to rest as its retained condition and pending cause say (log 14 orders the causes, and one that becomes
WELDED there keeps its cause as it stood: log 24); from ISOLATING to rest
when the contactor has opened, with a new open command where it is still closed after the timer has stopped; from
RESTORING into service; and against an unexpected movement. A string that enters ISOLATING has its monitor commanded to
open, one that leaves ISOLATED so has its masks cleared (R41), and one that enters WELDED trips the connection. -/
def Obligations.StringFeedbackMovesItsString : Prop :=
  ∀ (s : State) (i : Nat) (x : StringReport), i < s.strings.length → (s.stringEntry i).inUse = true →
    let t := s.takeStringReport i x
    let r := s.stringAt i
    let u : StringRec := { r with
      current := some x.current, voltage := some (capNat 15000 x.voltage)
      feedback := if x.closed then .closed else .isOpen, charge := (t.stringAt i).charge }
    let isolating := fun c : Option IsolationCause =>
      { u with state := .isolating, cause := c, pendingCause := none
               timer := some (s.time + BitVec.ofNat 32 s.tables.t10.contactorTime) }
    let locking := fun c : Option IsolationCause => c.filter fun k => k == .cellHard || k == .tempHard || k == .fire
    let kept := match r.retained with
      | .locked c => some c
      | .none | .welded => none
    let fire := if s.anyConfirmed then some IsolationCause.fire else none
    (r.state = .awaiting → x.closed = true →
      t.stringAt i =
        if r.retained = .welded then isolating (some .start)
        else match kept.or (fire.or r.pendingCause) with
          | some c => isolating (some c)
          | none => { u with state := .inService, cause := none, pendingCause := none }) ∧
    (r.state = .awaiting → x.closed = false →
      t.stringAt i =
        if r.retained = .welded then { u with state := .welded, pendingCause := none }
        else match kept.or ((locking r.pendingCause).or fire) with
          | some c => { u with state := .lockedOut, cause := some c, pendingCause := none, retained := .locked c }
          | none => { u with state := .isolated, cause := some .start, pendingCause := none }) ∧
    (r.state = .awaiting → r.retained = .welded → t.isLatched .contactorFail = true) ∧
    (r.state = .isolating → x.closed = false →
      t.stringAt i =
        if r.retained = .welded then { u with state := .welded, timer := none }
        else match locking r.cause with
          | some c => { u with state := .lockedOut, timer := none, retained := .locked c }
          | none => { u with state := .isolated, timer := none }) ∧
    (r.state = .isolating → x.closed = true →
      t.stringAt i = if r.timer = none then { u with timer := (isolating none).timer } else u) ∧
    (r.state = .restoring →
      t.stringAt i = if x.closed then { u with state := .inService, cause := none, timer := none } else u) ∧
    (r.state = .inService →
      t.stringAt i = if x.closed then u else { u with state := .isolated, cause := some .external }) ∧
    (r.state = .isolated → t.stringAt i = if x.closed then isolating (some .external) else u) ∧
    (r.state = .lockedOut → t.stringAt i = if x.closed then isolating r.cause else u) ∧
    (r.state = .welded → t.stringAt i = u) ∧
    (∀ a, s.addressOf .stringMonitor i = some a →
      ((t.stringAt i).state = .isolating ∧ (r.state ≠ .isolating ∨ r.timer = none)) →
      t.ownFrame kindContactorCommand a (contactorPayload false) ∈ t.fieldPort.urgent) ∧
    (i < 4 → (r.state = .inService ∨ r.state = .isolated) → ((t.stringAt i).state = .isolating ∨
      (t.stringAt i).state = .lockedOut ∨ (t.stringAt i).state = .welded ∨ (t.stringAt i).state = .restoring) →
      ∀ m ∈ slotsOf i, (t.moduleAt m).mask = []) ∧
    (r.state ≠ .welded → (t.stringAt i).state = .welded → s.conn.state = .connected →
      t.conn.state = .opening ∧ t.conn.tripCause = some .welded ∧ t.conn.target = some .openLocked) ∧
    s.keeps t [.pending, .time, .sys, .rounds, .cellsHold, .limits, .grid, .thermal, .fire, .nodes, .stationPort, .engine,
      .config, .image, .lines, .supply, .choices]

/-- A GRID SAMPLE is classed by its sequence: a repeated one is only counted, and one taken becomes the latest sample
with its extremes and ROCOF, in a history that a first or gap sample, or one after the meter's silence, empties (R102,
R103). It is then handed to the stages and the Gate, in the order that is free (log 4: `choices` counts the orders
taken, of a repeated sample too), and last to the reconnection check (R115). -/
def Obligations.GridSampleIsTakenOrRepeated : Prop :=
  ∀ (s : State) (x : GridSample), x.seq < 256 → (∀ l, s.grid.lastSeq = some l → l < 256) →
    let v := s.setChoices (s.choices + 1)
    (s.grid.lastSeq = some x.seq →
      s.takeGridSample x = v.setCounters { s.counters with gridDuplicates := inc16 s.counters.gridDuplicates }) ∧
    (s.grid.lastSeq ≠ some x.seq →
      let inStep := s.grid.lastSeq.any fun l => (l + 1) % 256 == x.seq
      let f := clampInt 40000 70000 x.f
      let history := match inStep && !s.grid.stale, s.grid.f with
        | true, some last => lastEntries 10 (s.grid.history ++ [last])
        | _, _ => []
      let n := s.params.rocofWindow
      let g : GridRec := { s.grid with
        lastSeq := some x.seq, vA := some (capNat 2000 x.vA), vB := some (capNat 2000 x.vB)
        vC := some (capNat 2000 x.vC), f := some f
        vMin := some (min (capNat 2000 x.vA) (min (capNat 2000 x.vB) (capNat 2000 x.vC)))
        vMax := some (max (capNat 2000 x.vA) (max (capNat 2000 x.vB) (capNat 2000 x.vC)))
        arrival := some s.time, stale := false, history := history
        rocof := if n ≤ history.length then
            history[history.length - n]?.map fun back => ((f - back) * 1000).tdiv (n * s.params.gridSampleInterval)
          else none }
      let w := (v.setCounters (if s.grid.lastSeq = none ∨ inStep = true then s.counters else
        { s.counters with gridGaps := inc16 s.counters.gridGaps })).setGrid g
      s.takeGridSample x =
        if Config.gateFirst s.choices then w.gateSample.evaluateStages.reconnectSample
        else w.evaluateStages.gateSample.reconnectSample)

/-- What a taken sample does (R95, R105, R106, R109, R115). A stage in use whose quantity is available picks up, or at
delay 0 operates with its pick-up time set (log 33), beyond its trip level, and clears past its restore level; each that
has operated acts, and that they act in index order, so that the lowest TRIP stage becomes the trip cause recorded, is the
model's choice (log 61). A connected part rides through while a TRIP stage is picked up and none has operated. The Gate
makes an autonomous frame where the frequency-response term has moved by fr_step. Reconnection begins timing when every
condition holds, and stops when one fails. The evaluation and the corrective check are those of EnvelopeAndGateTimersAct,
the frame that of DispatchFramesKeepToTheEnvelope. -/
def Obligations.StagesAndConnectionFollowTheSample : Prop :=
  ∀ s : State,
    (∀ i < 8, i < s.grid.stages.length →
      let e := s.stageEntry i
      let r := s.stageAt i
      let held : Prop := e.inUse = false ∨ s.grid.value e.quantity = none
      (held → s.evaluateStage i = s) ∧
      (∀ x, e.inUse = true → s.grid.value e.quantity = some x →
        let beyond := match e.direction with
          | .under => x < e.trip
          | .over => (e.trip : Int) < x
        let past := match e.direction with
          | .under => (e.restore : Int) ≤ x
          | .over => x ≤ e.restore
        let t := s.evaluateStage i
        (r.state = .clear → (beyond → t.stageAt i =
          if e.delay = 0 then ⟨.operated, none, some s.time⟩
          else ⟨.pickedUp, some (s.time + BitVec.ofNat 32 e.delay), some s.time⟩) ∧ (¬beyond → t.stageAt i = r)) ∧
        (r.state ≠ .clear → (past → t.stageAt i = ⟨.clear, none, none⟩) ∧ (¬past → t.stageAt i = r)) ∧
        (∀ j, j ≠ i → t.stageAt j = s.stageAt j) ∧ s.changesOnly t [.grid])) ∧
    (let moved := s.forEach (List.range 8) State.evaluateStage
     let operated := (List.range 8).filter fun i =>
      (moved.stageAt i).state == .operated && (s.stageAt i).state != .operated
     s.evaluateStages =
      (operated.foldl (fun t i => match (t.stageEntry i).action with
        | .trip => t.trip (.stage i)
        | .notify => t.raise .stageOperated (some i)) moved).followStages) ∧
    (let picked := ∃ i < 8, (s.stageEntry i).inUse = true ∧ (s.stageEntry i).action = .trip ∧
      (s.stageAt i).state = .pickedUp
     let operated := ∃ i < 8, (s.stageEntry i).inUse = true ∧ (s.stageEntry i).action = .trip ∧
      (s.stageAt i).state = .operated
     let t := s.followStages
     (s.conn.state = .connected → picked → ¬operated →
      t.conn = { s.conn with state := .rideThrough } ∧ t.counters.rideThroughs = inc16 s.counters.rideThroughs) ∧
     (s.conn.state = .connected → (¬picked ∨ operated) → t = s) ∧
     (s.conn.state = .rideThrough → picked → t = s) ∧
     (s.conn.state = .rideThrough → ¬picked → t = (s.setConn { s.conn with state := .connected }).changeEval) ∧
     (s.conn.state ≠ .connected → s.conn.state ≠ .rideThrough → t = s) ∧
     (let c := s.conn
      let allowed := (c.request = .connect ∨ (c.request = .none ∧ s.tables.t9.autoReconnect = true)) ∧
        s.nodeStateOf .meter 0 = .live ∧ s.lineIsActive .eStop = false ∧
        (∀ z ∈ s.fire.zones, z.stage ≠ .preAlarm ∧ z.stage.confirmed = false) ∧ ¬picked ∧ ¬operated ∧
        c.feedback = .isOpen ∧ c.startAdopted = true ∧
        ∃ lo hi f, s.grid.vMin = some lo ∧ s.grid.vMax = some hi ∧ s.grid.f = some f ∧
          s.tables.t9.vWindowLow ≤ lo ∧ hi ≤ s.tables.t9.vWindowHigh ∧ (s.tables.t9.fWindowLow : Int) ≤ f ∧
          f ≤ s.tables.t9.fWindowHigh
      (c.state = .openWait → allowed → s.reconnectSample.conn = { c with
        state := .reconnectTiming, reconnectEnd := some (s.time + BitVec.ofNat 32 (s.tables.t9.reconnectTime * 1000)) }) ∧
      (c.state = .reconnectTiming → ¬allowed →
        s.reconnectSample.conn = { c with state := .openWait, reconnectEnd := none }) ∧
      ((c.state = .openWait ∧ ¬allowed) ∨ (c.state = .reconnectTiming ∧ allowed) ∨
        (c.state ≠ .openWait ∧ c.state ≠ .reconnectTiming) → s.reconnectSample = s))) ∧
    (let applies := (s.gate.state = .passing ∧ s.gate.frParticipation = true) ∨
      (s.gate.state = .failsafe ∧ s.params.failsafeFr = true)
     let moved := s.params.frStep ≤ (s.frTerm - s.gate.pFrApplied).natAbs
     (applies → moved → s.gateSample = s.makeFrame .autonomous) ∧ (¬applies ∨ ¬moved → s.gateSample = s))

/-- A PCS STATUS is stored with its powers saturated; a change to FAULT is noticed; and one in excess of the last
order starts the overshoot timer, which one not in excess stops and arms again (R98, R99). That the check compares the
saturated power is the model's reading (log 64). -/
def Obligations.PcsStatusIsStoredAndChecked : Prop :=
  ∀ (s : State) (r : PcsStatus),
    let t := s.takePcsStatus r
    let p := clampInt (-4000) 4000 r.p
    let excess := s.gate.pPrev.natAbs + s.params.overshootTol < p.natAbs
    let n : Notice := ⟨.pcsFault, none, 1, s.time⟩
    let faults := r.state = .fault ∧ (s.gate.lastPcs.map (·.state)) ≠ some .fault
    t.gate =
      { s.gate with
        lastPcs := some ⟨p, clampInt (-4000) 4000 r.q, r.state⟩
        overshootEnd :=
          if excess then
            (if s.gate.overshootEnd = none ∧ s.gate.overshootArmed = true then some (s.after s.params.overshootTime)
            else s.gate.overshootEnd)
          else none
        overshootArmed := if excess then s.gate.overshootArmed else true } ∧
    t.notices = (if faults then enterNotice s.notices n else s.notices) ∧
    t.counters = (if faults ∧ losesNotice s.notices n = true then
      { s.counters with noticesLost := inc16 s.counters.noticesLost } else s.counters) ∧
    s.changesOnly t [.gate, .notices, .counters]

/-- A COOLANT STATUS is stored, and the coolant state that it gives is entered: a change raises its notice, latches
COOLANT_LOST where it is to LOST, and causes an evaluation and a coolant command in NORMAL (R128 to R131). A state that is
held changes nothing more, but that LOST latches COOLANT_LOST again where the flag has been cleared (R171; log 51). -/
def Obligations.CoolantStatusSetsTheCoolantState : Prop :=
  ∀ (s : State) (x : CoolantStatus),
    let r : ChillerStatus := ⟨x.state, saturateTemp x.supply, saturateTemp x.returnTemp, capNat 65535 x.flow, s.time⟩
    let z := s.tables.t11
    let meets := r.supply ≤ z.supplyRestore ∧ z.flowMin + z.flowHyst ≤ r.flow
    let beyond := z.supplyLimit < r.supply ∨ r.flow < z.flowMin
    let c : CoolantState :=
      if x.state = .fault then .lost
      else if x.state = .standby then (if s.thermal.coolant = .degraded then .degraded else .ok)
      else if s.thermal.coolant = .ok then (if beyond then .degraded else .ok)
      else if meets then .ok else .degraded
    let v := s.setThermal { s.thermal with lastStatus := some r }
    let t := s.takeCoolantStatus x
    t.thermal.coolant = c ∧ t.thermal.lastStatus = some r ∧
    (c = s.thermal.coolant → t = if c = .lost then v.latch .coolantLost else v) ∧
    (c ≠ s.thermal.coolant →
      let w := v.setThermal { v.thermal with coolant := c }
      let noticed := match c with
        | .ok => w.raise .coolantOk none
        | .degraded => w.raise .coolantDegraded none
        | .lost => (w.latch .coolantLost).raise .coolantLost none
      t = noticed.changeEval.makeCoolant false) ∧
    (c = .lost → t.isLatched .coolantLost = true) ∧
    s.changesOnly t [.thermal, .envelope, .gate, .fieldPort, .notices, .flags, .counters]

/-- A pair of a DETECTOR REPORT that maps to no detector in use is counted; one that maps moves that detector's record
alone, and for an unmasked detector with a notice and the flag of a fault that it enters, and a notice of its return; a
masked one raises no notice and latches no flag (R138, R139; log 35 of a masked one's return). The loop step moves the runs and the loop state by the code, out of SILENT first, and a
reading is read by type (R135, R139; log 34 of the reading that restores the loop). A reading of a detector that is not
masked moves its runs and its grade; of a masked one it zeroes the grade runs, and there is no grade (R140). -/
def Obligations.DetectorPairMovesItsDetector : Prop :=
  (∀ (s : State) (first node slot code : Nat),
    let t := s.takeDetectorPair first node (slot, code)
    (15 < first + slot ∨ (s.detectorEntry (first + slot)).inUse = false →
      t = s.setCounters { s.counters with detectorPairsUnmapped := inc16 s.counters.detectorPairsUnmapped }) ∧
    (first + slot ≤ 15 → (s.detectorEntry (first + slot)).inUse = true → first + slot < s.fire.detectors.length →
      t.detectorAt (first + slot) =
        ((s.detectorAt (first + slot)).takePair (s.detectorEntry (first + slot)) node slot code s.time).1 ∧
      (∀ j, j ≠ first + slot → t.detectorAt j = s.detectorAt j) ∧ t.fire.zones = s.fire.zones ∧
      (let i := first + slot
       let was := if (s.detectorAt i).loop = .silent then .normal else (s.detectorAt i).loop
       let now := (t.detectorAt i).loop
       let masked := (s.detectorEntry i).mask
       let entered := (now = .isOpen ∨ now = .short) ∧ now ≠ was
       let returned := (was = .isOpen ∨ was = .short) ∧ now = .normal
       t.notices =
         (if entered ∧ masked = false then enterNotice s.notices ⟨.detectorFault, some i, 1, s.time⟩
         else if returned ∧ masked = false then enterNotice s.notices ⟨.detectorRestored, some i, 1, s.time⟩ else s.notices) ∧
       (entered → masked = false → t.isLatched .detectorFault = true) ∧ (masked = true → t.flags = s.flags)) ∧
      s.changesOnly t [.fire, .flags, .notices, .counters])) ∧
  (∀ (d : DetectorRec) (e : DetectorEntry) (node slot code : Nat) (now : PartTime),
    let taken := { d with node := some node, slot := some slot, lastTime := some now, reports := inc16 d.reports }
    let v := if d.loop = .silent then { taken with
        loop := .normal, openRun := 0, shortRun := 0, normalRun := 0, preRun := 0, alarmRun := 0, clearRun := 0 }
      else taken
    let r : Int := match e.type with
      | .smoke | .gas => code
      | .heat => clampInt (-80) 250 ((code : Int) - 32768)
    let entering := fun (w : DetectorRec) (l : LoopState) (run : Nat) =>
      if v.loop ≠ l ∧ e.persist ≤ run then { w with loop := l, grade := .none, loopFaults := inc16 v.loopFaults } else w
    let faulty := { v with normalRun := 0, preRun := 0, alarmRun := 0, clearRun := 0 }
    let w := { v with reading := some r, openRun := 0, shortRun := 0 }
    let n := inc8 v.normalRun
    let t := (d.takePair e node slot code now).1
    (code = 65535 → t =
      entering { faulty with openRun := inc8 v.openRun, shortRun := 0 } .isOpen (inc8 v.openRun)) ∧
    (code = 65534 → t =
      entering { faulty with shortRun := inc8 v.shortRun, openRun := 0 } .short (inc8 v.shortRun)) ∧
    (code ≠ 65535 → code ≠ 65534 →
      (v.loop = .normal → t = w.gradeStep e r) ∧
      (v.loop ≠ .normal → e.persist ≤ n → t = { w with loop := .normal, normalRun := 0 }.gradeStep e r) ∧
      (v.loop ≠ .normal → n < e.persist → t = { w with normalRun := n }))) ∧
  (∀ (d : DetectorRec) (e : DetectorEntry) (r : Int),
    (e.mask = true → d.gradeStep e r = { d with preRun := 0, alarmRun := 0, clearRun := 0, grade := .none }) ∧
    (e.mask = false →
    let alarm := e.alarmLevel ≤ r
    let pre := e.preLevel ≤ r
    let t := d.gradeStep e r
    t.alarmRun = (if alarm then inc8 d.alarmRun else 0) ∧
    t.preRun = (if alarm ∨ pre then inc8 d.preRun else 0) ∧
    t.clearRun = (if alarm ∨ pre then 0 else inc8 d.clearRun) ∧
    t.grade =
      (if e.persist ≤ t.alarmRun then .alarm
      else if d.grade = .none ∧ e.persist ≤ t.preRun then .pre
      else if d.grade ≠ .none ∧ e.persist ≤ t.clearRun then .none
      else d.grade) ∧
    t.loop = d.loop ∧ t.reports = d.reports ∧ t.loopFaults = d.loopFaults))

/-- A frame on the Station Port, by the row STATION FRAME or, a DISPATCH, by the row DISPATCH (R159), counted where its
payload does not fit its kind (R153), whatever its source, and a request to another address too (log 16): one that is not
the station controller's is counted and otherwise ignored; one of a kind that the part alone originates is counted and
noticed; one to the part that is no request is counted as misaddressed; a malformed DISPATCH goes no further; and any
other joins the Field NORMAL queue, or, when it is full, is counted in field_forward_lost alone (log 17). -/
def Obligations.StationFramesAreSorted : Prop :=
  ∀ (c : Instr) (f : Frame) (s : State),
    (c = .stationFrame f ∨ (f.kind = kindDispatch ∧ c = .dispatch f.dest f.src f.payload)) → s.runs → (f.src ≠ 0 ∨ f.dest ≠ s.sys.address ∨ f.kind ≠ kindManagementRequest) →
    let fits := payloadFits f.kind f.payload
    let k := if fits then s.counters else { s.counters with stationPort := { s.counters.stationPort with
      malformedFrames := inc16 s.counters.stationPort.malformedFrames } }
    let r := (s.setSlot .station none).setCounters k
    (f.src ≠ 0 → exec c s =
      .next (r.setCounters { k with stationForeignSrc := inc16 k.stationForeignSrc })) ∧
    (f.src = 0 →
      let h := r.stationHeard
      (isPartOwned f.kind = true → exec c s =
        .next ((h.setCounters { h.counters with usurpedFrames := inc16 h.counters.usurpedFrames }).raise .usurpedKind
          (some f.kind))) ∧
      (isPartOwned f.kind = false → f.dest = s.sys.address → exec c s =
        .next (h.setCounters { h.counters with stationMisaddressed := inc16 h.counters.stationMisaddressed })) ∧
      (isPartOwned f.kind = false → f.dest ≠ s.sys.address → f.kind ≠ kindDispatch →
        exec c s =
          .next (if s.fieldPort.normalUsed < 32 then
            h.setFieldPort { s.fieldPort with normal := s.fieldPort.normal ++ [⟨f, none⟩] }
          else h.setCounters { h.counters with fieldForwardLost := inc16 h.counters.fieldForwardLost })) ∧
      (f.dest ≠ s.sys.address → f.kind = kindDispatch → fits = false → exec c s = .next h))

/-- A DISPATCH to the PCS (R92 to R94): the request is saturated and put in force, a frame is made on a fresh
envelope and placed in NORMAL, and a DISPATCH RESULT carries what was made and whether it was queued. One to any other
address is counted as misdirected. A result takes a free place of the Station queue; in a full one it evicts the oldest
result that waits, or is lost where none does, and either is counted (R162). -/
def Obligations.DispatchIsMadeAndAnswered : Prop :=
  (∀ (s : State) (dest : Nat) (payload : List Byte) (o : DispatchOrder) (rest : List Byte), s.runs →
    dest ≠ s.sys.address → payloadFits kindDispatch payload = true → DispatchOrder.read payload = some (o, rest) →
    let h := (s.setSlot .station none).stationHeard
    (s.pcsAddress ≠ some dest → exec (.dispatch dest 0 payload) s =
      .next (h.setCounters { h.counters with dispatchMisdirected := inc16 h.counters.dispatchMisdirected })) ∧
    (let e := (h.setGate { h.gate with
       pReqLast := clampInt (-4000) 4000 o.p, qReqLast := clampInt (-4000) 4000 o.q
       frParticipation := o.fr, number := o.number }).evaluate
     let m := e.making .station e.gate.pReqLast e.gate.qReqLast
     s.pcsAddress = some dest → exec (.dispatch dest 0 payload) s =
      .next ((e.placeDispatch .station dest m).placeResult
        ⟨o.number, m.p, m.q, m.flags.word, e.gate.state, e.fieldPort.admits (e.dispatchFrame dest m)⟩)) ∧
    (s.pcsAddress = some dest → s.stationPort.used < 32 →
      ∃ t, exec (.dispatch dest 0 payload) s = .next t ∧
        let e := (h.setGate { h.gate with
          pReqLast := clampInt (-4000) 4000 o.p, qReqLast := clampInt (-4000) 4000 o.q
          frParticipation := o.fr, number := o.number }).evaluate
        let m := e.making .station e.gate.pReqLast e.gate.qReqLast
        let placed := e.placeNormal (e.dispatchFrame dest m)
        let queued := e.fieldPort.admits (e.dispatchFrame dest m)
        t.stationPort.queue = s.stationPort.queue ++ [.result ⟨o.number, m.p, m.q, m.flags.word, e.gate.state, queued⟩] ∧
        t.gate = (if queued then e.gate.made m s.time else e.gate) ∧
        t.envelope = e.envelope ∧ t.fieldPort = placed.fieldPort ∧
        t.counters = (if queued then placed.counters else
          { placed.counters with dispatchFramesLost := inc16 placed.counters.dispatchFramesLost }) ∧
        s.changesOnly t [.gate, .envelope, .fieldPort, .stationPort, .notices, .counters])) ∧
  (∀ (s : State) (r : DispatchResult),
    let p := s.stationPort
    (p.used < 32 → s.placeResult r = s.setStationPort { p with queue := p.queue ++ [.result r] }) ∧
    (∀ before old after, 32 ≤ p.used → p.queue = before ++ .result old :: after →
      (∀ f ∈ before, f.isResult = false) →
      s.placeResult r = (s.setStationPort { p with queue := before ++ after ++ [.result r] }).setCounters
        { s.counters with resultsEvicted := inc16 s.counters.resultsEvicted }) ∧
    (32 ≤ p.used → (∀ f ∈ p.queue, f.isResult = false) →
      s.placeResult r = s.setCounters { s.counters with resultsLost := inc16 s.counters.resultsLost }))

/-- A dispatch frame of every type is made from the request in force on a fresh evaluation of the envelope, and goes
into URGENT where it is corrective or the initial zero frame and into NORMAL otherwise; one that is admitted leaves its
outputs, its frequency-response term and its time in the gate record, one refused is counted in dispatch_frames_lost, and
without a PCS entry none is made and dispatch_unaddressed advances (R92; log 43 of the evaluation there). Every making
keeps to the envelope it is made on (R87 to R91): active power within the two limits, ramped from the last output, never
past the clamped target nor across zero, reactive power within Q_max, both zero while the gate is HELD, and the limit flags
accordingly, six of them clear in HELD. The frequency-response term is that of T7, or of its default while it is faulted,
at the deviation from f_nom, where participation, or failsafe_fr in FAILSAFE, has it apply and a frequency is available
(R87, R101; log 44 of the step in which the meter returns), and 0 otherwise. -/
def Obligations.DispatchFramesKeepToTheEnvelope : Prop :=
  (∀ (s : State) (type : FrameType) (pReq qReq : Int),
    let m := s.making type pReq qReq
    let env := s.envelope.record
    let target := pReq + s.frTerm
    let clamped := clampInt (-(env.pChgLim : Int)) env.pDisLim target
    let prev := s.gate.pPrev
    let rate := if type = .autonomous then s.params.frRamp else s.params.dispatchRamp
    let elapsed := match s.gate.lastFrame with
      | some x => min (s.time - x).toNat 10000
      | none => 10000
    let allowance := if s.conn.state = .rideThrough then 0 else rate * elapsed / 1000
    let carries := s.conn.state = .connected ∨ s.conn.state = .rideThrough
    m.p ≤ env.pDisLim ∧ -(env.pChgLim : Int) ≤ m.p ∧ -(s.params.qMax : Int) ≤ m.q ∧ m.q ≤ s.params.qMax ∧
    m.p.natAbs ≤ clamped.natAbs ∧ 0 ≤ m.p * clamped ∧ m.fr = s.frTerm ∧
    (s.gate.state = .held → m.p = 0 ∧ m.q = 0 ∧ m.flags.clampDis = false ∧ m.flags.clampChg = false ∧
      m.flags.ramp = false ∧ m.flags.rideFreeze = false ∧ m.flags.frAdded = false ∧ m.flags.qClamp = false) ∧
    (s.gate.state ≠ .held →
      m.q = (if carries then clampInt (-(s.params.qMax : Int)) s.params.qMax qReq else 0) ∧
      (clamped.sign = prev.sign → clamped.natAbs ≤ prev.natAbs → m.p = clamped) ∧
      (clamped.sign = prev.sign → prev.natAbs ≤ clamped.natAbs →
        m.p = clamped.sign * min (clamped.natAbs : Int) (prev.natAbs + allowance)) ∧
      (clamped.sign ≠ prev.sign → m.p = clamped.sign * min (clamped.natAbs : Int) allowance) ∧
      (m.flags.clampDis = true ↔ (env.pDisLim : Int) < target) ∧
      (m.flags.clampChg = true ↔ target < -(env.pChgLim : Int)) ∧
      (m.flags.ramp = true ↔ m.p ≠ clamped ∧ s.conn.state ≠ .rideThrough) ∧
      (m.flags.rideFreeze = true ↔ m.p ≠ clamped ∧ s.conn.state = .rideThrough) ∧
      (m.flags.frAdded = true ↔ s.frTerm ≠ 0) ∧ (m.flags.qClamp = true ↔ m.q ≠ qReq)) ∧
    (m.flags.held = true ↔ s.gate.state = .held) ∧ (m.flags.failsafe = true ↔ s.gate.state = .failsafe) ∧
    (m.flags.autonomous = true ↔ type = .autonomous) ∧
    (m.flags.corrective = true ↔ type = .corrective ∨ type = .initialZero)) ∧
  (∀ (s : State) (type : FrameType) (a : Nat) (m : Making),
    let f : Placed :=
      ⟨⟨a, s.sys.address, kindDispatch, dispatchPayload s.gate.number m.p m.q false m.flags⟩, none⟩
    let made := { s.gate with pPrev := m.p, qPrev := m.q, pFrApplied := m.fr, lastFrame := some s.time }
    let urgent := type = .corrective ∨ type = .initialZero
    let t := s.placeDispatch type a m
    (urgent → t = (s.placeUrgent f).setGate made) ∧
    (¬urgent → s.fieldPort.admits f = true → t = (s.placeNormal f).setGate made) ∧
    (¬urgent → s.fieldPort.admits f = false → t = (s.placeNormal f).setCounters { (s.placeNormal f).counters with
      dispatchFramesLost := inc16 s.counters.dispatchFramesLost })) ∧
  (∀ (s : State) (type : FrameType),
    let e := s.setEnvelope { s.envelope with record := s.evaluation }
    (s.pcsAddress = none → s.makeFrame type =
      e.setCounters { s.counters with dispatchUnaddressed := inc16 s.counters.dispatchUnaddressed }) ∧
    (∀ a, s.pcsAddress = some a → s.makeFrame type =
      e.placeDispatch type a (e.making type s.gate.pReqLast s.gate.qReqLast))) ∧
  (∀ s : State,
    let applies := (s.gate.state = .passing ∧ s.gate.frParticipation = true) ∨
      (s.gate.state = .failsafe ∧ s.params.failsafeFr = true)
    let available := s.nodeStateOf .meter 0 = .live ∧ s.grid.stale = false
    let t7 : Curve := if s.config.faulted.getD 6 false = true then [(-5000, 0), (5000, 0)] else s.tables.t7
    (∀ f, applies → available → s.grid.f = some f →
      s.frTerm = t7.at (clampInt (-5000) 5000 (f - s.params.fNom))) ∧
    (¬applies ∨ ¬available ∨ s.grid.f = none → s.frTerm = 0))

/-- The receive slot of a port (R152, R153; log 20 says which of the bytes each command brings). A SYNC byte has a
hunting side take a frame, and is nothing to a side that takes one. To a side that takes a frame, a LEN above 64 and a
gap of more than 5 ms each end the frame, and are counted; otherwise the bytes join those taken; and a hunting side
discards them. At the last byte, a DEST or SRC above 127 and a CRC that fails are each counted, and the frame goes no
further; a frame with neither is received as its port receives frames. -/
def Obligations.ReceiveSlotFollowsItsEvents : Prop :=
  ∀ (s : State) (port : Port) (dest src kind len : Byte) (bytes payload : List Byte) (gap : Nat) (crc : BitVec 16), s.runs →
    let good := crc16 (dest :: src :: kind :: BitVec.ofNat 8 payload.length :: payload) = crc
    let named := dest.toNat ≤ 127 ∧ src.toNat ≤ 127
    let counted := fun (t : State) (f : PortCounters → PortCounters) => t.setCounters (match port with
      | .field => { s.counters with fieldPort := f s.counters.fieldPort }
      | .station => { s.counters with stationPort := f s.counters.stationPort })
    let free := s.setSlot port none
    (s.slot port = none →
      exec (.syncReceived port) s = .next (s.setSlot port (some [])) ∧
      exec (.lengthError port ⟨dest, src, kind, len⟩) s = .next s ∧ exec (.truncatedFrame port ⟨bytes, gap⟩) s = .next s) ∧
    (∀ taken, s.slot port = some taken →
      exec (.syncReceived port) s = .next s ∧
      exec (.lengthError port ⟨dest, src, kind, len⟩) s =
        .next (if len.toNat ≤ 64 then s.setSlot port (some [dest, src, kind, len])
          else counted free fun c => { c with lengthErrors := inc16 c.lengthErrors }) ∧
      exec (.truncatedFrame port ⟨bytes, gap⟩) s =
        .next (if gap ≤ 5 then s.setSlot port (some (taken ++ bytes))
          else counted free fun c => { c with truncatedFrames := inc16 c.truncatedFrames })) ∧
    (¬(good ∧ named) → exec (.faultyFrameEnd port dest src kind payload crc) s =
      .next (counted free fun c => { c with
        addressErrors := if named then c.addressErrors else inc16 c.addressErrors
        crcErrors := if good then c.crcErrors else inc16 c.crcErrors })) ∧
    (good ∧ named → exec (.faultyFrameEnd port dest src kind payload crc) s =
      exec (match port with
        | .field => .fieldFrame ⟨dest.toNat, src.toNat, kind.toNat, payload⟩
        | .station => .stationFrame ⟨dest.toNat, src.toNat, kind.toNat, payload⟩) s)

/-! ### Queues and transmission -/

/-- Where a placed frame goes (R160). In URGENT it takes the place of a waiting one of its kind and destination there,
or joins the end, and removes those that wait in NORMAL, each of which is counted, and for a DISPATCH by the Gate too
(R97). In NORMAL one that may supersede
takes the place of a waiting one of its kind and destination, in a full queue too; any other joins the end while fewer
than 32 places are used, and is refused and counted otherwise. -/
def Obligations.PlacedFramesJoinReplaceOrAreRefused : Prop :=
  ∀ (s : State) (p : Placed),
    (let same := s.fieldPort.urgent.any p.matches
     let removed := (s.fieldPort.normal.filter p.matches).length
     let n := (if same then 1 else 0) + removed
     let t := s.placeUrgent p
     t.fieldPort.urgent =
       (if same then s.fieldPort.urgent.map (fun w => if p.matches w then p else w) else s.fieldPort.urgent ++ [p]) ∧
     t.fieldPort.normal = s.fieldPort.normal.filter (fun w => !(p.matches w)) ∧
     t.fieldPort.sending = s.fieldPort.sending ∧
     t.counters = { s.counters with
       fieldSuperseded := capNat 65535 (s.counters.fieldSuperseded + n)
       dispatchSuperseded := if p.frame.kind = kindDispatch then capNat 65535 (s.counters.dispatchSuperseded + n)
         else s.counters.dispatchSuperseded } ∧
     p ∈ t.fieldPort.urgent ∧ (∀ w ∈ t.fieldPort.normal, p.matches w = false) ∧
     s.changesOnly t [.fieldPort, .counters]) ∧
    (let replaces := supersedable p.frame.kind = true ∧ s.fieldPort.normal.any p.matches = true
     let t := s.placeNormal p
     t.fieldPort.urgent = s.fieldPort.urgent ∧ t.fieldPort.sending = s.fieldPort.sending ∧
     (replaces → t.fieldPort.normal = s.fieldPort.normal.map (fun w => if p.matches w then p else w) ∧
       t.counters = { s.counters with
         fieldSuperseded := inc16 s.counters.fieldSuperseded
         dispatchSuperseded := if p.frame.kind = kindDispatch then inc16 s.counters.dispatchSuperseded
           else s.counters.dispatchSuperseded }) ∧
     (¬replaces → s.fieldPort.normalUsed < 32 →
       t = s.setFieldPort { s.fieldPort with normal := s.fieldPort.normal ++ [p] }) ∧
     (¬replaces → 32 ≤ s.fieldPort.normalUsed →
       t = s.setCounters { s.counters with fieldNormalRefused := inc16 s.counters.fieldNormalRefused }) ∧
     (s.fieldPort.admits p = true ↔ replaces ∨ s.fieldPort.normalUsed < 32) ∧
     s.changesOnly t [.fieldPort, .counters])

/-- A notice raised repeats the waiting one of its kind and subject, or joins the end, or in a full queue displaces
the first of the lowest severity where that is not above its own; a notice lost is counted (R172). While at least 2
Station places are free, the waiting notice of the highest severity, the first of those, leaves the Notice Queue for the
end of the Station queue (R163, R172). -/
def Obligations.NoticesEnterAndLeaveTheQueue : Prop :=
  (∀ (s : State) (k : NoticeKind) (x : Option Nat),
    let n : Notice := ⟨k, x, 1, s.time⟩
    let same := fun w : Notice => w.kind = k ∧ w.subject = x
    let t := s.raise k x
    ((∃ w ∈ s.notices, same w) →
      t = s.setNotices (s.notices.map fun w => if same w then { w with repeats := inc8 w.repeats } else w)) ∧
    ((∀ w ∈ s.notices, ¬same w) → s.notices.length < 24 → t = s.setNotices (s.notices ++ [n])) ∧
    ((∀ w ∈ s.notices, ¬same w) → 24 ≤ s.notices.length →
      (∀ (before after : List Notice) (w : Notice), s.notices = before ++ w :: after →
        (∀ v ∈ before, w.rank < v.rank) → (∀ v ∈ after, w.rank ≤ v.rank) →
        t.notices = (if w.rank ≤ k.severity.rank then before ++ after ++ [n] else s.notices)) ∧
      t.counters = { s.counters with noticesLost := inc16 s.counters.noticesLost }) ∧
    s.changesOnly t [.notices, .counters]) ∧
  (∀ (s : State) (before after : List Notice) (n : Notice), s.runs → s.notices = before ++ n :: after →
    (∀ v ∈ before, v.rank < n.rank) → (∀ v ∈ after, v.rank ≤ n.rank) → s.stationPort.used ≤ 30 →
    exec .noticeMove s =
      .next ((s.setNotices (before ++ after)).setStationPort
        { s.stationPort with queue := s.stationPort.queue ++ [.notice n] }))

/-- The arbiter starts the first URGENT frame, and the first NORMAL one where URGENT is empty; the Station port starts
the first of its queue; and neither starts while a frame is in transmission (R161, R162). The last byte of a frame frees
its place: on the Field Port the open round's own WAKE CALL, BLEED HOLD or SAMPLE CALL, known by its round's serial number
(log 7), starts its phase timer (R6 to R8, R161), and on the Station Port it does nothing more but for the response to
RESTART while restart pending holds (R162), since the notice move that R163 tests then is a command of its own, by the
model's choice (log 19). -/
def Obligations.TransmittersSendInOrderAndFreePlaces : Prop :=
  ∀ s : State, s.runs →
    (∀ p rest, s.fieldPort.sending = none → s.fieldPort.urgent = p :: rest →
      exec .fieldTransmitStart s =
        .next (s.setFieldPort { s.fieldPort with urgent := rest, sending := some (p, .urgent) })) ∧
    (∀ p rest, s.fieldPort.sending = none → s.fieldPort.urgent = [] → s.fieldPort.normal = p :: rest →
      exec .fieldTransmitStart s =
        .next (s.setFieldPort { s.fieldPort with normal := rest, sending := some (p, .normal) })) ∧
    (∀ p, s.fieldPort.sending = some p → exec .fieldTransmitStart s = .next s) ∧
    (∀ f rest, s.stationPort.sending = none → s.stationPort.queue = f :: rest →
      exec .stationTransmitStart s =
        .next (s.setStationPort { s.stationPort with queue := rest, sending := some f })) ∧
    (∀ f, s.stationPort.sending = some f → exec .stationTransmitStart s = .next s) ∧
    (∀ (p : Placed) (q : FieldQueue), s.fieldPort.sending = some (p, q) →
      (∀ o, s.rounds.openRound = some o → p.round ≠ some o.serial) →
      exec .fieldFrameSent s = .next (s.setFieldPort { s.fieldPort with sending := none })) ∧
    (∀ (p : Placed) (q : FieldQueue) (o : OpenRound) (ms : Nat), s.fieldPort.sending = some (p, q) →
      s.rounds.openRound = some o → p.round = some o.serial →
      ((s.rounds.phase = .waking ∧ p.frame.kind = kindWakeCall ∧ ms = s.params.wakeSettle) ∨
        (s.rounds.phase = .quietSettle ∧ p.frame.kind = kindBleedHold ∧ ms = s.params.quietSettle) ∨
        (s.rounds.phase = .collecting ∧ p.frame.kind = kindSampleCall ∧ ms = s.params.roundDeadline)) →
      exec .fieldFrameSent s =
        .next ((s.setFieldPort { s.fieldPort with sending := none }).setRounds
          { s.rounds with openRound := some { o with phaseTimer := some (s.time + BitVec.ofNat 32 ms) } })) ∧
    (∀ f, s.stationPort.sending = some f →
      (s.engine.restartPending = false ∨ ∀ r, f = .response r → ¬(r.code = 12 ∧ r.status = .ok)) →
      exec .stationFrameSent s = .next (s.setStationPort { s.stationPort with sending := none }))

/-! ### Requests -/

/-- A request row is a valid station frame: it ends FAILSAFE and restarts the silence timer, and is then served with
its code's body (R85, R86, R159, R165). A served request reserves a place and leaves one response of its code there,
whatever else its body does; while restart pending holds or no place is free it is discarded and counted (R163, R171). -/
def Obligations.RequestRowsAreServedWithOneResponse : Prop :=
  (∀ (c : Instr) (s : State) (code : Nat) (args : List Byte), requestRow c = some (code, args) → s.runs →
    ∃ body, requestOf code args = some body ∧
      exec c s = .next ((s.setSlot .station none).stationHeard.serve code body)) ∧
  (∀ (s : State) (code : Nat) (args : List Byte) (body : State → Answer), requestOf code args = some body →
    (s.engine.restartPending = false → s.stationPort.used < 32 →
      ∃ r, r.code = code ∧ (s.serve code body).stationPort =
          { s.stationPort with queue := s.stationPort.queue ++ [.response r] } ∧
        s.keeps (s.serve code body) [.pending, .time, .sys, .image]) ∧
    (s.engine.restartPending = true ∨ 32 ≤ s.stationPort.used →
      s.serve code body =
        s.setCounters { s.counters with requestsDiscarded := inc16 s.counters.requestsDiscarded }))

/-- A request that needs MAINT is refused with REFUSED_MAINT while it is inactive, and changes nothing else
(R165, R175). -/
def Obligations.ProtectedRequestsNeedMaint : Prop :=
  ∀ (c : Instr) (s : State) (code : Nat) (args : List Byte), requestRow c = some (code, args) → s.takesRequests →
    s.lines.maint.active = false →
    (code = 12 ∨ code = 17 ∨ code = 21 ∨ code = 22 ∨
      ((code = 6 ∨ code = 7) ∧ ∃ b rest, args = b :: rest ∧ isProtectedTable b.toNat = true)) →
    exec c s = .next (s.requestArrives.withResponse code .refusedMaint .none)

/-- READ STATUS, READ ENVELOPE and READ TABLE answer OK with what they read; READ ENVELOPE alone changes more than the
queue: its evaluation's record (R80, R166, R169). The snapshot of READ STATUS names the worst string state and zone
stage in the orders of R166; that the worst string state and the uncalibrated strings are taken over strings not in use
too is the model's choice (log 57). -/
def Obligations.PlainReadsAnswerWithTheirRecords : Prop :=
  ∀ (s : State) (b : Byte) (c : TableContents), s.takesRequests →
    let a := s.requestArrives
    let v := a.statusView
    let order : List StringState := [.welded, .lockedOut, .isolating, .restoring, .isolated, .awaiting, .inService]
    exec (.readStatus []) s = .next (a.withResponse 1 .ok (.status v)) ∧
    (v.cause = s.sys.cause ∧ v.time = s.time ∧ v.mode = s.supply.mode ∧ v.holdupLow = s.supply.holdupLow ∧
      v.roundPhase = s.rounds.phase ∧ v.roundTag = s.rounds.tag ∧ v.gate = a.gate ∧ v.grid = s.grid ∧
      v.connState = s.conn.state ∧ v.tripCause = s.conn.tripCause ∧ v.target = s.conn.target ∧
      v.lockout = s.conn.lockout ∧ v.request = s.conn.request ∧ v.feedback = s.conn.feedback ∧
      v.trips = s.conn.history.map (fun e => ((s.time - e.time).toNat / 1000, e.cause)) ∧
      v.coolant = s.thermal.coolant ∧ v.command = s.thermal.command ∧ v.chiller = s.thermal.lastStatus ∧
      v.writing = s.engine.store.isSome ∧ v.dirty = s.engine.dirty ∧ v.flags = s.flags.latched ∧
      v.counters = a.counters ∧ v.noticesWaiting = a.notices.length ∧ v.maintActive = s.lines.maint.active ∧
      (∀ i, i ∈ v.uncalibrated ↔ i < 4 ∧ (s.stringAt i).charge.uncalibrated = true)) ∧
    (∀ before after x, order = before ++ x :: after → (∀ r ∈ s.strings, r.state ∉ before) →
      (∃ r ∈ s.strings, r.state = x) → v.worstString = x) ∧
    (∀ z ∈ s.fire.zones, z.stage.rank ≤ v.worstZone.rank) ∧
    (v.worstZone = .normal ∨ ∃ z ∈ s.fire.zones, z.stage = v.worstZone) ∧
    exec (.readEnvelope []) s = .next (a.evaluate.withResponse 4 .ok (.envelope a.evaluation)) ∧
    (s.tables.get b.toNat = some c →
      exec (.readTable [b]) s =
        .next (a.withResponse 5 .ok
          (.table c (s.config.crcs.getD (b.toNat - 1) 0) (s.config.faulted.getD (b.toNat - 1) false))))

/-- READ RECORDS and SCAN CELLS answer OK to arguments within their ranges, and change nothing but the queue. The
reading goes round its group from the start index, or the next above it, and names the index that follows (R167). The
scan steps from its start in its direction to the first cell that stops it, its count, or the last cell (R168); a
direction byte above 1 is free by the model's choice (log 10), and the threshold is read as unsigned (log 25). -/
def Obligations.RecordReadsAnswerAndChangeNothing : Prop :=
  ∀ s : State, s.takesRequests →
    let a := s.requestArrives
    (∀ (k string start count : Byte) (c : RecordClass), RecordClass.named k.toNat = some c → string.toNat ≤ 3 →
      (c = .cell → (s.stringEntry string.toNat).inUse = true) → start.toNat < c.size →
      let group := s.recordGroup c string.toNat
      let n := min (min (max count.toNat 1) c.largest) group.length
      (group ≠ [] → ∃ j, j < group.length ∧ (∀ i < j, group.getD i 0 < start.toNat) ∧
        (start.toNat ≤ group.getD j 0 ∨ (j = 0 ∧ ∀ g ∈ group, g < start.toNat)) ∧
        exec (.readRecords [k, string, start, count]) s =
          .next (a.withResponse 2 .ok (.records
            ((List.range n).map fun i =>
              let g := group.getD ((j + i) % group.length) 0
              (g, a.recordView c string.toNat g))
            n (group.getD ((j + n) % group.length) 0)
            (if c = .zone then some (s.thermal.command, s.thermal.lastStatus) else none)))) ∧
      (group = [] → exec (.readRecords [k, string, start, count]) s =
        .next (a.withResponse 2 .ok (.records [] 0 0
          (if c = .zone then some (s.thermal.command, s.thermal.lastStatus) else none)))) ∧
      (∀ i, i ∈ group ↔ if c = .cell then
        ∃ p q, p < (s.stringEntry string.toNat).modules ∧ q < (s.stringEntry string.toNat).cells ∧ i = 16 * p + q
        else i < c.size)) ∧
    (∀ (string start dir count t hi lo mode : Byte) (test : CellTest) (untilPass : Bool), string.toNat ≤ 3 →
      (s.stringEntry string.toNat).inUse = true → start.toNat ∈ s.cellGroup string.toNat →
      CellTest.named t.toNat = some test → scanMode mode.toNat = some untilPass →
      let group := s.cellGroup string.toNat
      let ahead := if scanUp dir.toNat then group.filter (start.toNat ≤ ·)
        else (group.filter (· ≤ start.toNat)).reverse
      let wanted := min (max count.toNat 1) 192
      let stops := fun i : Nat =>
        let k := s.cellAt string.toNat i
        let threshold := hi.toNat * 256 + lo.toNat
        (match test with
          | .vGe => ∃ v, k.latest = some v ∧ threshold ≤ v
          | .vLe => ∃ v, k.latest = some v ∧ v ≤ threshold
          | .bandNotNormal => k.band ≠ .normal
          | .bleedOn => s.bleeds string.toNat i = true
          | .unknown => k.band = .unknown) ↔ untilPass = true
      let answers := fun (stop : Option Nat) (examined : Nat) =>
        exec (.scanCells [string, start, dir, count, t, hi, lo, mode]) s =
          .next (a.withResponse 3 .ok (.scan stop examined (wanted - examined)))
      (∀ before i after, ahead.take wanted = before ++ i :: after → (∀ j ∈ before, ¬stops j) → stops i →
        answers (some i) (before.length + 1)) ∧
      ((∀ j ∈ ahead.take wanted, ¬stops j) → answers none (ahead.take wanted).length))

/-- A LOAD TABLE or LOAD ENTRY that passes its checks replaces the working table, records its CRC, ends its fault and
sets the dirty flag, before what the new contents bring (R169). A whole T8, T12 or T14 is longer than a frame's 64 bytes;
that LOAD TABLE takes it whole is the model's choice (log 18). The new contents bring: of T8, stages at CLEAR (R107); of
T9, a truncated history (R113); of T10, the Q_cap, SOC and SOC_UNCALIBRATED of a changed capacity (R56), cleared masks
(R41) and histories; of T12, detectors without grade (R150); of T12 and T13, an evaluation of every zone; of T14, the
records of changed nodes at UNSEEN, with their counts of frames kept (log 29), and the silence effects of those that were
LIVE (R154; log 37); of T15, changed lines at UNKNOWN, whose old function takes an active one as inactive (R174; log 38); of T16, the modules' zones (R20); of the
other tables, nothing more. What a load brings to several records it brings in index order (log 63). A load that ends the
last config fault causes an evaluation (R73). -/
def Obligations.TakenLoadReplacesTheTable : Prop :=
  (∀ (s : State) (b : Byte) (bytes : List Byte) (c : TableContents), s.takesRequests → s.config.crcs.length = 16 →
    s.config.faulted.length = 16 → (isProtectedTable b.toNat = true → s.maintActive) → isTable b.toNat = true →
    c.number = b.toNat →
    let a := s.requestArrives
    let i := b.toNat - 1
    let stored := fun t : State =>
      t.tables = s.tables.put c ∧ t.params = s.params ∧ t.config.crcs[i]? = some c.crc ∧
      t.config.faulted[i]? = some false ∧ (∀ j, j ≠ i → t.config.crcs[j]? = s.config.crcs[j]? ∧
        t.config.faulted[j]? = s.config.faulted[j]?) ∧ t.engine = { s.engine with dirty := true }
    (tableLengthOk b.toNat bytes = true → parseTable b.toNat bytes = some c → c.valid = true →
      (∀ x, c = .t10 x → s.stringSettingsBusy x = false) →
      ∃ t, exec (.loadTable (b :: bytes)) s = .next t ∧
        t = a.answer 6 (fun s => ((s.takeTable c none), .ok, .crc c.crc)) ∧ stored t) ∧
    (∀ k : Byte, entryLengthOk b.toNat bytes = true → s.entryResult b.toNat k.toNat bytes = some c →
      ∃ t, exec (.loadEntry (b :: k :: bytes)) s = .next t ∧
        t = a.answer 7 (fun s => ((s.takeTable c (some k.toNat)), .ok, .crc c.crc)) ∧ stored t)) ∧
  (∀ (s : State) (c : TableContents) (entry : Option Nat),
    let put := (s.setConfig { s.config with
        tables := s.tables.put c, crcs := s.config.crcs.set (c.number - 1) c.crc
        faulted := s.config.faulted.set (c.number - 1) false }).setEngine { s.engine with dirty := true }
    let u := put.tableLoaded s c entry
    let zones := fun t : State => (List.range 8).foldl (fun t z => t.evaluateZone z) t
    s.takeTable c entry = (if s.anyFault = true ∧ put.anyFault = false then u.changeEval else u) ∧
    (c.number ≤ 7 ∨ c.number = 11 → u = put) ∧
    (∀ x, c = .t8 x →
      let stages := s.grid.stages.mapIdx fun i r =>
        if (entry = none ∧ i < 8) ∨ entry = some i then ⟨.clear, none, none⟩ else r
      u = (put.setGrid { s.grid with stages := stages }).followStages) ∧
    (∀ x, c = .t9 x →
      let kept := if x.tripLimit ≤ s.conn.history.length then lastEntries (x.tripLimit - 1) s.conn.history
        else s.conn.history
      u = (put.setConn { s.conn with history := kept }).watchReconnect ∧
      (s.conn.state ≠ .reconnectTiming → u.conn = { s.conn with history := kept })) ∧
    (∀ x, c = .t10 x →
      (∀ (i : Nat) (r k : StringRec), s.strings[i]? = some r → u.strings[i]? = some k →
        let cap := (put.stringEntry i).capacityAh * 36000000
        let q := min r.charge.q cap
        let changed := i < 4 ∧ (s.stringEntry i).capacityAh ≠ (put.stringEntry i).capacityAh
        k = if changed then
            { r with charge := { r.charge with qCap := cap, q := q, soc := q * 1024 / cap, uncalibrated := true } }
          else r) ∧
      (∀ (m : Nat) (r k : ModuleRec), m < 48 → s.modules[m]? = some r → u.modules[m]? = some k →
        let old := s.stringEntry (m / 12)
        let new := put.stringEntry (m / 12)
        k.cells = r.cells ∧ k.quality = r.quality ∧
        k.mask = (if (old.inUse = true ∧ new.inUse = false) ∨ old.cells ≠ new.cells then [] else r.mask) ∧
        k.history = (if s.moduleInUse m = true ∧ put.moduleInUse m = false then [] else r.history)) ∧
      put.changesOnly u [.strings, .modules, .fieldPort, .notices, .counters]) ∧
    (∀ x, c = .t12 x →
      let detectors := s.fire.detectors.mapIdx fun i d =>
        if i < 16 ∧ put.detectorEntry i ≠ s.detectorEntry i then
          { d with grade := .none, preRun := 0, alarmRun := 0, clearRun := 0 }
        else d
      u = zones (put.setFire { s.fire with detectors := detectors })) ∧
    (∀ x, c = .t13 x → u = zones put) ∧
    (∀ x, c = .t14 x →
      let kept := fun i : Nat => match s.nodeEntry i, put.nodeEntry i with
        | none, none => true
        | some p, some q => p.address == q.address && p.role == q.role && p.recordIndex == q.recordIndex
        | _, _ => false
      let lost := (List.range 64).filterMap fun i =>
        if (s.nodeAt i).state = .live ∧ kept i = false then s.nodeEntry i else none
      let unsupervised := fun i : Nat => (put.nodeEntry i).map (·.timeout) = some 0
      let nodes := s.nodes.mapIdx fun i r =>
        if kept i = false then { r with state := .unseen, silenceEnd := none, forwardCounter := 0 }
        else if unsupervised i then { r with silenceEnd := none } else r
      u = lost.foldl (fun t e => t.silenceEffects e.role e.recordIndex) (put.setNodes nodes)) ∧
    (∀ x, c = .t15 x →
      let changed := (List.range 8).filter fun i =>
        let p := s.lineEntry i
        let q := put.lineEntry i
        p.function != q.function || p.zone != q.zone || p.polarity != q.polarity
      let held := fun (f : LineFunction) => (List.range 8).any fun i => (put.lineEntry i).function == f
      let inputs := s.lines.inputs.mapIdx fun i r =>
        if i ∈ changed then { r with state := .unknown, since := s.time } else r
      let afresh := put.setLines { s.lines with inputs := inputs }
      let released := fun (t : State) (i : Nat) =>
        let active := (s.lineAt i).state == .active
        match (s.lineEntry i).function with
        | .none => t
        | .manualCall | .panelFire => if active then t.fireLineMoved (s.lineEntry i) else t
        | .releaseHold => if active || !held .releaseHold then t.resumeCountdowns else t
        | .eStop => if active then t.changeEval else t
        | .breakerClosed =>
          if t.conn.startAdopted = false then
            (if held .breakerClosed then t.setConn { t.conn with feedback := .isOpen }
            else (t.setConn { t.conn with feedback := .isOpen, startAdopted := true }))
          else if t.conn.feedback = .isOpen then t else t.breakerMoved false
      u = changed.foldl released afresh) ∧
    (∀ x, c = .t16 x →
      u = put.setModules (s.modules.mapIdx fun m r => { r with zone := x.getD m 0 })))

/-- SET PARAMETER stores the clamped value, sets the dirty flag, and answers OK or CLAMPED with the value in force
(R165, R169). The order of the identities, max_bleed at 10 among them, is read from the manual's text (log 31); the clamp
takes the bounds of logs 3 and 32, and a value held that its partner has left out of range is clamped and answered CLAMPED
(log 58). A max_bleed stored reduces each mask that holds more cells to that many of the highest quiet voltage, the lower
position on a tie, a cell without one below every other (log 55), and leaves every other mask (R39). The clamped value of
each identity lies within its parameter's range (R2, R3, R6 to R8, R13, R37, R47 to R50, R68, R82, R103, R157, R177, R180;
log 65 of the yes / no ones), and what is stored is that value, with every other parameter as it was. -/
def Obligations.SetParameterStoresTheClampedValue : Prop :=
  (∀ (p : Params) (v : Int),
    let within := fun lo hi : Int => if v < lo then lo else if hi < v then hi else v
    (∀ row ∈ ([(2, 1, 60), (4, 5, 100), (5, 2, 50), (6, 10, 200), (7, 1, 8), (8, 5, 200), (9, 0, (p.onDelta : Int) - 1),
        (10, 1, 16), (11, 0, 10000), (12, -80, 250), (13, 1, 100)] ++ [(14, -512, 511), (15, -512, 511), (16, -512, 511),
        (17, -512, 511), (18, 0, 1024), (19, 0, 5000), (21, 0, 5000), (23, 0, 1024), (24, 0, 1024), (26, 1, 4000),
        (27, 1, 4000), (28, 1, 200), (29, 0, 4000)] ++ [(30, 1, 60), (31, -4000, 4000), (32, 0, 1), (33, 0, 1000),
        (34, 500, 10000), (35, 2, 10), (36, 10, 100), (37, 0, 1), (38, 1, 30), (39, 1, 60)] : List (Nat × Int × Int)),
      p.clampValue row.1 v = within row.2.1 row.2.2) ∧
    p.clampValue 1 v = within 100 10000 - within 100 10000 % 100 ∧
    p.clampValue 3 v = (if 16 ≤ v then 16 else if 8 ≤ v then 8 else if 4 ≤ v then 4 else if 2 ≤ v then 2 else 1) ∧
    p.clampValue 20 v = min (within 0 5000) (p.fullLevel - 1) ∧
    p.clampValue 22 v = max (within 0 5000) (p.emptyLevel + 1) ∧
    (v < 55000 → p.clampValue 25 v = 50000) ∧ (55000 < v → p.clampValue 25 v = 60000) ∧
    (v = 55000 → p.clampValue 25 v = 50000 ∨ p.clampValue 25 v = 60000) ∧
    (∀ id, 1 ≤ id → id ≤ 39 → 1 ≤ p.onDelta → p.trims.length = 4 →
      let q := p.set id (p.clampValue id v)
      q.get id = some (p.clampValue id v) ∧ ∀ j, j ≠ id → q.get j = p.get j)) ∧
  (∀ (s : State) (id a3 a2 a1 a0 : Byte) (old : Int), s.takesRequests → s.params.get id.toNat = some old →
    let v := toSigned32 (((a3.toNat * 256 + a2.toNat) * 256 + a1.toNat) * 256 + a0.toNat)
    let x := s.params.clampValue id.toNat v
    let stored := (s.requestArrives.setConfig { s.config with params := s.params.set id.toNat x }).setEngine
      { s.engine with dirty := true }
    let status : Status := if x = v then .ok else .clamped
    (id.toNat ≠ 10 →
      exec (.setParameter [id, a3, a2, a1, a0]) s = .next (stored.withResponse 8 status (.parameter x))) ∧
    (id.toNat = 10 → ∃ t, exec (.setParameter [id, a3, a2, a1, a0]) s = .next t ∧
      t.stationPort = (stored.withResponse 8 status (.parameter x)).stationPort ∧
      (∀ m < 48, m < s.modules.length →
        let r := s.moduleAt m
        let quiet := fun c : Nat => ((r.cells[c]?).bind (·.quiet)).getD 0
        let above := fun c => r.mask.filter fun d => decide (quiet c < quiet d) || (quiet d == quiet c && decide (d < c))
        (t.moduleAt m).mask =
          (if x.toNat < r.mask.length then r.mask.filter fun c => (above c).length < x.toNat else r.mask) ∧
        (t.moduleAt m).cells = r.cells ∧ (t.moduleAt m).quality = r.quality) ∧
      stored.changesOnly t [.modules, .fieldPort, .stationPort, .counters]))

/-- STORE IMAGE takes a snapshot and starts writing its first record; each record written takes the snapshot's
contents, marked by its check, and the eighteenth ends the store, with STORE_DONE or STORE_FAILED; a STORE IMAGE while one
writes is refused with REFUSED_BUSY, and the write goes on (R170). -/
def Obligations.StoreWritesTheSnapshot : Prop :=
  ∀ s : State,
    (s.takesRequests → s.engine.store = none →
      exec (.storeImage []) s =
        .next ((s.requestArrives.setEngine { s.engine with
          store := some ⟨s.tables, s.params, s.strings.map (·.charge.soc), 1, s.after 20, none⟩
          dirty := false }).withResponse 9 .ok .none)) ∧
    (∀ w, s.takesRequests → s.engine.store = some w →
      exec (.storeImage []) s = .next (s.requestArrives.withResponse 9 .refusedBusy .none)) ∧
    (∀ (w : StoreWrite) (correct : Bool), s.runs → s.engine.store = some w → s.due (some w.due) = true →
      let failed := if w.failed = none ∧ correct = false then some w.record else w.failed
      let m := s.setImage (s.image.written w correct)
      (w.record < 18 → exec (.storeRecordWritten correct) s =
        .next (m.setEngine { s.engine with
          store := some { w with record := w.record + 1, due := s.after 20, failed := failed } })) ∧
      (18 ≤ w.record → failed = none → exec (.storeRecordWritten correct) s =
        .next ((m.setEngine { s.engine with store := none }).raise .storeDone none)) ∧
      (18 ≤ w.record → ∀ n, failed = some n → exec (.storeRecordWritten correct) s =
        .next ((m.setEngine { s.engine with store := none, dirty := true }).raise .storeFailed (some n))))

/-- CLEAR FLAGS clears the named latched flags alone, and CLEAR COUNTERS the counters of `Counters` with those of charge
and detector records, but not the taken and forwarded counts of the node records, which no rule names as cleared
(log 29); neither touches anything else (R171). -/
def Obligations.ClearRequestsClearWhatTheyName : Prop :=
  ∀ (s : State) (hi lo : Byte), s.takesRequests →
    let a := s.requestArrives
    let kept := s.flags.latched &&& ~~~(BitVec.ofNat 16 (hi.toNat * 256 + lo.toNat))
    exec (.clearFlags [hi, lo]) s = .next ((a.setFlags ⟨kept, alertOf kept⟩).withResponse 10 .ok (.flags kept)) ∧
    ∃ t, exec (.clearCounters []) s = .next t ∧ t.counters = {} ∧
      t.strings = s.strings.map (fun r => { r with charge := { r.charge with overrange := 0, filled := 0, gaps := 0 } }) ∧
      t.fire = { s.fire with detectors := s.fire.detectors.map fun d => { d with reports := 0, loopFaults := 0 } } ∧
      t.stationPort = (a.withResponse 11 .ok .none).stationPort ∧
      a.changesOnly t [.counters, .strings, .fire, .stationPort]

/-- RESTART, with MAINT, sets restart pending; and when the last byte of its response leaves, a reset of kind RESTART
begins: neither brown-out nor RESETN is marked (R171, R179). -/
def Obligations.RestartEndsInAReset : Prop :=
  ∀ s : State,
    (s.takesRequests → s.maintActive →
      exec (.restart []) s =
        .next ((s.requestArrives.setEngine { s.engine with restartPending := true }).withResponse 12 .ok .none)) ∧
    (∀ r : Response, s.runs → s.engine.restartPending = true → s.stationPort.sending = some (.response r) →
      r.code = 12 → r.status = .ok →
      ∃ t, exec .restartReset s = .next t ∧ exec .stationFrameSent s = .next t ∧
        t.sys.hold = some ⟨false, false⟩ ∧ t.fire = s.fire ∧ t.engine.restartPending = false ∧
        t.stationPort = .atReset ∧ t.fieldPort = .atReset ∧
        s.changesOnly t [.sys, .conn, .engine, .image, .fieldPort, .stationPort, .flags])

/-- START ROUND begins a round of its scope, quiet only in NORMAL supply, where none is open (R4, R5): of every module,
whatever the index byte says (log 41), of a string or of a module. While one is open it is refused with REFUSED_BUSY, of a
string or module out of range or not in use with REFUSED_INVALID, and of a scope without modules with REFUSED_STATE. STOP ROUND closes a round that settles or collects as
aborted; in WAKING it abandons the round without a close, back to the state it was begun from while its WAKE CALL still
waits, and otherwise to IDLE, or in HOLDUP to SUSPENDED after a SLEEP CALL, which is counted as refused and lost where
the NORMAL queue is full, and where wake pending stands as it was (log 46); and at rest it does nothing (R15). -/
def Obligations.RoundRequestsBeginAndStopRounds : Prop :=
  ∀ s : State, s.takesRequests →
    let a := s.requestArrives
    let rest := s.rounds.phase = .idle ∨ s.rounds.phase = .suspended
    let begins := fun (kind index quiet : Byte) (scope : Scope) =>
      let q := decide (quiet.toNat = 1) && decide (s.supply.mode = .normal)
      exec (.startRound [kind, index, quiet]) s =
        .next (a.answer 13 fun s => (s.beginRound scope q, .ok, .round scope q))
    let refused := fun (kind index quiet : Byte) (status : Status) =>
      exec (.startRound [kind, index, quiet]) s = .next (a.withResponse 13 status .none)
    (∀ index quiet : Byte, rest → s.modulesInUse ≠ [] → quiet.toNat ≤ 1 → begins 0 index quiet .all) ∧
    (∀ i quiet : Byte, rest → i.toNat ≤ 3 → (s.stringEntry i.toNat).inUse = true → s.modulesOf i.toNat ≠ [] →
      quiet.toNat ≤ 1 → begins 1 i quiet (.string i.toNat)) ∧
    (∀ m quiet : Byte, rest → m.toNat ≤ 47 → s.moduleInUse m.toNat = true → quiet.toNat ≤ 1 →
      begins 2 m quiet (.module m.toNat)) ∧
    (∀ kind index quiet : Byte, ¬rest → refused kind index quiet .refusedBusy) ∧
    (∀ i quiet : Byte, rest → 3 < i.toNat ∨ (s.stringEntry i.toNat).inUse = false → refused 1 i quiet .refusedInvalid) ∧
    (∀ m quiet : Byte, rest → 47 < m.toNat ∨ s.moduleInUse m.toNat = false → refused 2 m quiet .refusedInvalid) ∧
    (∀ index quiet : Byte, rest → s.modulesInUse = [] → refused 0 index quiet .refusedState) ∧
    (∀ i quiet : Byte, rest → i.toNat ≤ 3 → (s.stringEntry i.toNat).inUse = true → s.modulesOf i.toNat = [] →
      refused 1 i quiet .refusedState) ∧
    (rest → exec (.stopRound []) s = .next (a.withResponse 14 .ok .none)) ∧
    (∀ o, (s.rounds.phase = .collecting ∨ s.rounds.phase = .quietSettle) → s.rounds.openRound = some o →
      exec (.stopRound []) s =
        .next (a.answer 14 fun s =>
          ((s.setCounters { s.counters with roundsAborted := inc16 s.counters.roundsAborted }).closeRound o false, .ok,
            .none))) ∧
    (∀ o, s.rounds.phase = .waking → s.rounds.openRound = some o →
      let aborted := a.setCounters { a.counters with roundsAborted := inc16 a.counters.roundsAborted }
      let waits := ∃ p ∈ s.fieldPort.normal, p.frame.kind = kindWakeCall ∧ p.round = some o.serial
      let ended := fun (t : State) (x : RoundPhase) (pending : Bool) =>
        (t.setRounds { s.rounds with phase := x, openRound := none, wakePending := pending }).withResponse 14 .ok .none
      (waits → exec (.stopRound []) s =
        .next (ended aborted (if o.cameSuspended then .suspended else .idle) s.rounds.wakePending)) ∧
      (¬waits → s.supply.mode = .normal → exec (.stopRound []) s = .next (ended aborted .idle false)) ∧
      (¬waits → s.supply.mode = .holdup → s.fieldPort.normalUsed < 32 → exec (.stopRound []) s =
        .next (ended (aborted.setFieldPort { s.fieldPort with normal := s.fieldPort.normal ++
          [⟨⟨127, s.sys.address, kindSleepCall, []⟩, some o.serial⟩] }) .suspended s.rounds.wakePending)) ∧
      (¬waits → s.supply.mode = .holdup → 32 ≤ s.fieldPort.normalUsed → exec (.stopRound []) s =
        .next (ended (aborted.setCounters { aborted.counters with
          fieldNormalRefused := inc16 a.counters.fieldNormalRefused
          roundFramesLost := inc16 a.counters.roundFramesLost }) .suspended s.rounds.wakePending)))

/-- An isolation cause moves a string by its state (R30): in AWAITING it pends, a locking one before any that does not lock
but not before another locking one (log 60); a string IN_SERVICE or RESTORING goes to ISOLATING; one ISOLATING takes a
locking cause for one that does not lock; one ISOLATED is locked out by a locking cause; and one LOCKED_OUT or WELDED
stands. One that so leaves IN_SERVICE or ISOLATED, as one that goes to RESTORING, has its masks cleared (R41). ISOLATE,
RESTORE and RESET STRING move their string (R30, R33, R35): by cause REQUEST, to RESTORING, and with MAINT from
LOCKED_OUT, or from WELDED with its contactor open, to ISOLATED with cause REQUEST, no retained condition and no hard
counts; a RESTORE that a reason refuses changes nothing but the queue. The reason is the first that applies in the order of
R33, and CAUSE_PRESENT stands for a condition of R29, over the cells and modules in use alone (log 36): the hard conditions
by the T1 and T2 in effect since the last close (R19; log 48), and the stale condition as it is found at the request, with
the miss_limit and the T10 then in force (log 52). -/
def Obligations.StringRequestsMoveTheirString : Prop :=
  (∀ (s : State) (i : Nat) (c : IsolationCause), i < s.strings.length →
    let r := s.stringAt i
    let t := s.raiseCause i c
    let u := t.stringAt i
    let locks := fun k : IsolationCause => k == .cellHard || k == .tempHard || k == .fire
    (r.state = .awaiting → u = if r.pendingCause = none ∨ (locks c = true ∧ r.pendingCause.any locks = false) then
      { r with pendingCause := some c } else r) ∧
    (r.state = .inService ∨ r.state = .restoring → u = { r with
      state := .isolating, cause := some c, pendingCause := none
      timer := some (s.time + BitVec.ofNat 32 s.tables.t10.contactorTime) } ∧
      ∀ a, s.addressOf .stringMonitor i = some a →
        s.ownFrame kindContactorCommand a (contactorPayload false) ∈ t.fieldPort.urgent) ∧
    (r.state = .isolating → u = if locks c = true ∧ r.cause.any locks = false then { r with cause := some c } else r) ∧
    (r.state = .isolated → u = if locks c = true then
      { r with state := .lockedOut, cause := some c, retained := .locked c } else r) ∧
    (r.state = .lockedOut ∨ r.state = .welded → t = s) ∧
    (i < 4 → r.state = .inService ∨ (r.state = .isolated ∧ locks c = true) →
      ∀ m ∈ slotsOf i, (t.moduleAt m).mask = []) ∧
    (∀ j, j ≠ i → t.stringAt j = s.stringAt j) ∧
    s.changesOnly t [.strings, .modules, .envelope, .gate, .fieldPort, .notices, .counters]) ∧
  (∀ (s : State) (b : Byte), s.takesRequests → b.toNat ≤ 3 → (s.stringEntry b.toNat).inUse = true →
    b.toNat < s.strings.length →
    let a := s.requestArrives
    let i := b.toNat
    let r := s.stringAt i
    let ends := s.time + BitVec.ofNat 32 s.tables.t10.contactorTime
    exec (.isolateString [b]) s = .next (a.answer 15 (fun s => (s.raiseCause i .request, .ok, .none))) ∧
    (s.restoreRefusal i = none → ∃ t, exec (.restoreString [b]) s = .next t ∧
      t = a.answer 16 (fun s => (s.restore i, .ok, .none)) ∧
      t.stringAt i = { r with state := .restoring, cause := none, timer := some ends } ∧
      (∀ m, s.addressOf .stringMonitor i = some m →
        s.ownFrame kindContactorCommand m (contactorPayload true) ∈ t.fieldPort.urgent) ∧
      (∀ m ∈ slotsOf i, (t.moduleAt m).mask = []) ∧ (∀ j, j ≠ i → t.stringAt j = s.stringAt j)) ∧
    (∀ reason, s.restoreRefusal i = some reason →
      exec (.restoreString [b]) s = .next (a.withResponse 16 .refusedState (.restore reason))) ∧
    (s.maintActive → (r.state = .lockedOut ∨ (r.state = .welded ∧ r.feedback = .isOpen)) →
      ∃ t, exec (.resetString [b]) s = .next t ∧ t = a.answer 17 (fun s => (s.resetString i, .ok, .none)) ∧
        t.stringAt i = { r with state := .isolated, cause := some .request, retained := .none } ∧
        (∀ m ∈ slotsOf i, ∀ k ∈ (t.moduleAt m).cells, k.hardCount = 0) ∧
        (∀ j, j ≠ i → t.stringAt j = s.stringAt j)) ∧
    (s.maintActive → r.state ≠ .lockedOut → ¬(r.state = .welded ∧ r.feedback = .isOpen) →
      exec (.resetString [b]) s = .next (a.withResponse 17 .refusedState .none))) ∧
  (∀ (s : State) (i : Nat),
    let r := s.stringAt i
    let fire := ∃ z ∈ s.fire.zones, z.stage = .preAlarm ∨ z.stage.confirmed = true
    let inCell := fun (m p : Nat) (k : CellRec) =>
      p < 16 ∧ p < (s.stringEntry (m / 12)).cells ∧ (s.moduleAt m).cells[p]? = some k
    let fresh := fun m => (s.moduleAt m).quality = .fresh
    let present :=
      (∃ m ∈ s.modulesOf i, ∃ p k, inCell m p k ∧
        (s.limits.t1.hardPersist ≤ k.hardCount ∨ (fresh m ∧ (k.band = .lowHard ∨ k.band = .highHard)))) ∨
      (∃ m ∈ s.modulesOf i, fresh m ∧ ∃ x ∈ (s.moduleAt m).temps, s.limits.t2.tMaxHard ≤ x) ∨
      ((s.stringEntry i).stalePolicy = .string ∧ ∃ m ∈ s.modulesOf i, (s.moduleAt m).quality = .stale ∨
        (fresh m ∧ ∃ p k, inCell m p k ∧ s.params.missLimit ≤ k.absentRun)) ∨
      s.nodeStateOf .stringMonitor i ≠ .live ∨ s.lineIsActive .eStop = true
    let vs := ((List.range 4).filter fun j => (s.stringAt j).state == .inService).map fun j =>
      ((s.stringAt j).voltage).getD 0
    (s.restoreRefusal i = some .notIsolated ↔ r.state ≠ .isolated) ∧
    (r.state = .isolated → (s.restoreRefusal i = some .fireStage ↔ fire)) ∧
    (r.state = .isolated → ¬fire → (s.restoreRefusal i = some .causePresent ↔ present)) ∧
    (r.state = .isolated → ¬fire → ¬present →
      (s.restoreRefusal i = some .voltageUnknown ↔ r.voltage = none ∨ r.feedback ≠ .isOpen) ∧
      (∀ v, r.voltage = some v → r.feedback = .isOpen →
        let apart := ((v : Int) - (vs.sum / vs.length : Nat)).natAbs
        (vs ≠ [] ∧ s.tables.t10.rejoinWindow < apart → s.restoreRefusal i = some .voltageMismatch) ∧
        (vs = [] ∨ apart ≤ s.tables.t10.rejoinWindow → s.restoreRefusal i = none))))

/-- RELEASE GATE passes a HELD gate unless the emergency stop is active, and changes no other (R84); CONNECT and
DISCONNECT store the request, a CONNECT is refused in OPEN_LOCKED, and a DISCONNECT trips a closed breaker and ends
RECONNECT_TIMING (R117); RESET LOCKOUT, refused during a fire and in OPEN_LOCKED with the breaker closed, empties the
history and ends the lockout (R118); RESET FIRE, refused outside zones 0 to 7 and while an ALARM or a line stands, takes
its zone to NORMAL, hands on the fall, lets RELEASE_OUT go where no zone is RELEASED, and has the zone rise at once to what
its sources give (R149); and a request without a known code is answered UNKNOWN_REQUEST (R165). -/
def Obligations.GateConnectionAndFireRequestsAct : Prop :=
  (∀ s : State, s.takesRequests →
    let a := s.requestArrives
    (s.gate.state = .held → s.lineIsActive .eStop = false →
      exec (.releaseGate []) s =
        .next (((a.setGate { a.gate with state := .passing, heldCause := none }).raise .gatePassing none).withResponse
          18 .ok (.gate .passing))) ∧
    (s.gate.state = .held → s.lineIsActive .eStop = true →
      exec (.releaseGate []) s = .next (a.withResponse 18 .refusedState (.gate .held))) ∧
    (s.gate.state ≠ .held → exec (.releaseGate []) s = .next (a.withResponse 18 .ok (.gate .passing))) ∧
    (s.conn.state ≠ .openLocked →
      exec (.connect []) s =
        .next ((a.setConn { s.conn with request := .connect }).withResponse 19 .ok (.connection s.conn.state))) ∧
    (s.conn.state = .openLocked →
      exec (.connect []) s = .next (a.withResponse 19 .refusedState (.connection .openLocked))) ∧
    (s.conn.state = .reconnectTiming →
      exec (.disconnect []) s = .next (((a.setConn { s.conn with
        request := .disconnect, reconnectEnd := none, state := .openWait }).changeEval).withResponse 20 .ok
          (.connection .openWait))) ∧
    ((s.conn.state = .openWait ∨ s.conn.state = .opening ∨ s.conn.state = .openLocked) →
      exec (.disconnect []) s =
        .next ((a.setConn { s.conn with request := .disconnect }).withResponse 20 .ok (.connection s.conn.state))) ∧
    ((s.conn.state = .connected ∨ s.conn.state = .rideThrough ∨ s.conn.state = .closing) →
      ∃ t, exec (.disconnect []) s = .next t ∧ t.conn.request = .disconnect ∧ t.conn.state = .opening ∧
        t.conn.tripCause = some .disconnect) ∧
    (s.maintActive → s.anyConfirmed = false → s.conn.state = .openLocked → s.conn.feedback ≠ .closed →
      ∃ t, exec (.resetLockout []) s = .next t ∧ t.conn = { s.conn with history := [], lockout := .none, state := .openWait }
        ∧ s.keeps t [.strings, .modules, .limits, .fire, .grid, .thermal, .flags, .nodes, .config]) ∧
    (s.maintActive → s.anyConfirmed = true ∨ (s.conn.state = .openLocked ∧ s.conn.feedback = .closed) →
      exec (.resetLockout []) s = .next (a.withResponse 21 .refusedState .none)) ∧
    (s.maintActive → s.anyConfirmed = false → s.conn.state ≠ .openLocked →
      exec (.resetLockout []) s = .next ((a.setConn { s.conn with
        history := [], lockout := .none
        target := if s.conn.state = .opening then some .openWait else s.conn.target }).withResponse 21 .ok .none)) ∧
    (∀ z : Byte, s.maintActive → 7 < z.toNat →
      exec (.resetFire [z]) s = .next (a.withResponse 22 .refusedInvalid .none)) ∧
    (∀ z : Byte, s.maintActive → z.toNat ≤ 7 →
      (.alarm ∈ s.sources z.toNat ∨ (s.fireZone z.toNat).lineIndication = true ↔ s.resetFireBlocked z.toNat = true) ∧
      (s.resetFireBlocked z.toNat = true →
        exec (.resetFire [z]) s = .next (a.withResponse 22 .refusedState .none))) ∧
    (∀ z : Byte, s.maintActive → z.toNat ≤ 7 → s.resetFireBlocked z.toNat = false →
      exec (.resetFire [z]) s =
        .next (a.answer 22 fun s =>
          (s.resetFireZone z.toNat, .ok, .fireStage ((s.resetFireZone z.toNat).fireZone z.toNat).stage))) ∧
    exec (.unknownRequest []) s = .next (a.withResponse 0 .unknownRequest .none) ∧
    (∀ (b : Byte) (args : List Byte), requestOf b.toNat args = none →
      exec (.unknownRequest (b :: args)) s = .next (a.withResponse b.toNat .unknownRequest .none))) ∧
  (∀ (s : State) (z : Nat), z < 8 → s.fire.zones.length = 8 → s.resetFireBlocked z = false →
    let r := s.fireZone z
    let graded := ((s.sources z).filter (· != .none)).length
    let target : FireStage := if 2 ≤ graded then .preAlarm else if graded = 1 then .watch else .normal
    let v := { r with stage := .normal, clearTimer := none, countdown := none, fireTime := none }
    let cleared := s.setFire { s.fire with zones := s.fire.zones.set z v }
    let told := if r.stage = .normal then cleared
      else (cleared.raise .fireCleared (some z)).changeEval.makeCoolant false
    let t := s.resetFireZone z
    t = (told.setFire { told.fire with
      releaseOut := told.fire.releaseOut && told.fire.zones.any (·.stage == .released) }).evaluateZone z ∧
    t.fireZone z = { v with stage := target, target := target, unwatched := s.zoneUnwatched z } ∧
    (t.fire.releaseOut = true ↔ s.fire.releaseOut = true ∧ ∃ j < 8, j ≠ z ∧ (s.fireZone j).stage = .released) ∧
    (∀ j, j ≠ z → t.fireZone j = s.fireZone j))

/-! ### Rounds, closes, cooling and fire -/

/-- A round that begins holds its scope, its mode, and the in-use modules of the scope as its expected set; it wakes the
monitors first from SUSPENDED or while wake pending holds, else it holds bleeding if it is QUIET, and else it calls its
samples under the next tag (R5 to R8); a first frame that the full NORMAL queue refuses ends it, a WAKE CALL without a
close and any other as aborted (R9). A round that closes leaves for IDLE, or in HOLDUP for SUSPENDED with a SLEEP CALL, counted as
refused and lost where the NORMAL queue is full (R12), which leaves wake pending as it stood (log 46); the reported modules
become FRESH, and the expected ones that a completed round missed count a miss and become STALE at miss_limit, with their
notices in index order (R13, R15; log 63); and the Cell Store is handed the close record (R14). -/
def Obligations.RoundsBeginAndClose : Prop :=
  (∀ (s : State) (scope : Scope) (quiet : Bool),
    let o : OpenRound :=
      { scope := scope, quiet := quiet, expected := s.modulesInUse.filter scope.covers, reported := []
        quietValid := [], holdupSeen := s.supply.mode == .holdup, phaseTimer := none, serial := s.rounds.serial + 1
        cameSuspended := s.rounds.phase == .suspended }
    let wakes := s.rounds.phase = .suspended ∨ s.rounds.wakePending = true
    let tag := (s.rounds.tag + 1) % 256
    let begun : Rounds := { s.rounds with openRound := some o, serial := s.rounds.serial + 1 }
    let sends := fun (kind : Nat) (payload : List Byte) (r : Rounds) =>
      (s.setFieldPort { s.fieldPort with normal := s.fieldPort.normal ++
        [⟨⟨127, s.sys.address, kind, payload⟩, some o.serial⟩] }).setRounds r
    let t := s.beginRound scope quiet
    let lost : Counters := { s.counters with
      fieldNormalRefused := inc16 s.counters.fieldNormalRefused
      roundFramesLost := inc16 s.counters.roundFramesLost
      roundsAborted := inc16 s.counters.roundsAborted }
    (∀ m, m ∈ o.expected ↔ m < 48 ∧ s.moduleInUse m = true ∧ (match scope with
      | .all => True
      | .string i => m / 12 = i
      | .module k => m = k)) ∧
    (s.fieldPort.normalUsed < 32 →
      t = if wakes then sends kindWakeCall [] { begun with phase := .waking }
        else if quiet then sends kindBleedHold [] { begun with phase := .quietSettle }
        else sends kindSampleCall (sampleCallPayload tag quiet scope) { begun with phase := .collecting, tag := tag }) ∧
    (32 ≤ s.fieldPort.normalUsed →
      t = if wakes then (s.setRounds { begun with openRound := none }).setCounters lost
        else ((s.setRounds (if quiet then begun else { begun with tag := tag })).setCounters lost).closeRound o false)) ∧
  (∀ (s : State) (o : OpenRound) (completed : Bool), s.rounds.openRound = some o → o.expected.Nodup →
    let missed := fun m => decide (m ∈ o.expected) && !(o.reported.contains m) && completed
    let misses := fun m => inc8 (s.moduleAt m).missCount
    let goesStale := fun m => missed m && decide (s.params.missLimit ≤ misses m) && (s.moduleAt m).quality != .stale
    let usable := o.quiet && completed && !o.holdupSeen
    ∃ w : State,
      s.closeRound o completed =
        w.close ⟨o.scope, completed, o.quiet, o.reported, usable, if usable then o.quietValid else []⟩ ∧
      w.rounds = { s.rounds with
        phase := if s.supply.mode = .holdup then .suspended else .idle, openRound := none } ∧
      (s.supply.mode = .normal → w.fieldPort = s.fieldPort) ∧
      (s.supply.mode = .holdup → s.fieldPort.normalUsed < 32 → w.fieldPort = { s.fieldPort with
        normal := s.fieldPort.normal ++ [⟨⟨127, s.sys.address, kindSleepCall, []⟩, some o.serial⟩] }) ∧
      (s.supply.mode = .holdup → 32 ≤ s.fieldPort.normalUsed → w.fieldPort = s.fieldPort ∧
        w.counters.fieldNormalRefused = inc16 s.counters.fieldNormalRefused ∧
        w.counters.roundFramesLost = inc16 s.counters.roundFramesLost) ∧
      w.modules.length = s.modules.length ∧
      (∀ m < s.modules.length, w.moduleAt m =
        if m ∈ o.expected ∧ m ∈ o.reported then { s.moduleAt m with quality := .fresh, missCount := 0 }
        else if missed m then { s.moduleAt m with
          missCount := misses m, quality := if goesStale m then .stale else (s.moduleAt m).quality }
        else s.moduleAt m) ∧
      w.notices =
        (o.expected.filter goesStale).foldl (fun q m => enterNotice q ⟨.moduleStale, some m, 1, s.time⟩) s.notices ∧
      s.changesOnly w [.rounds, .fieldPort, .modules, .notices, .counters])

/-- The judging part of a close (R22 to R27). Of an in-use module that reported, each cell's band is read from T1, its
hard count and absent run count on or fall to 0, and the max temperature joins the history; a STALE module's cells are
UNKNOWN; and where quiet is usable the latest voltages of the quiet-valid modules become quiet voltages. Each string in
use takes its extremes from its FRESH modules; the cells hold indication is that of the CONTAINER strings in a stale
condition, and evaluations inside the close see it (log 49); a string with a hard count at hard_persist, with a module at
T_max_hard, or, under STRING policy, in a stale condition has its cause raised, each judged over the cells and modules in
use alone (log 36), and the strings taken in index order (logs 59 and 63); and then come bleeding, and what the end of the
close hands on: to the Thermal Controller and the Fire Supervisor in that order (log 28), and then the calibration and the
evaluation in an order that is free (R36, R53; log 5). -/
def Obligations.CloseJudgesModulesAndStrings : Prop :=
  ∀ (s : State) (c : CloseRecord),
    let j := (s.judgeModules c).judgeStrings
    let u := s.evaluateClose c
    let w := (u.setChoices (u.choices + 1)).thermalClose.fireClose
    let inCell := fun (m p : Nat) (k : CellRec) =>
      p < 16 ∧ p < (s.stringEntry (m / 12)).cells ∧ (j.moduleAt m).cells[p]? = some k
    let fresh := fun i m => m ∈ s.modulesOf i ∧ (j.moduleAt m).quality = .fresh
    let stale := fun i => ∃ m ∈ s.modulesOf i, (j.moduleAt m).quality = .stale ∨
      ((j.moduleAt m).quality = .fresh ∧ ∃ p k, inCell m p k ∧ s.params.missLimit ≤ k.absentRun)
    let hard := fun i => ∃ m ∈ s.modulesOf i, ∃ p k, inCell m p k ∧ s.tables.t1.hardPersist ≤ k.hardCount
    let hot := fun i => ∃ m ∈ s.modulesOf i, m ∈ c.reported ∧ ∃ x ∈ (s.moduleAt m).temps, s.tables.t2.tMaxHard ≤ x
    s.close c = (if Config.calibrationFirst u.choices then (w.calibrateAll c).changeEval else w.changeEval.calibrateAll c) ∧
    u = (j.forEach j.stringsInUse (State.raiseCloseCauses c)).bleedClose c ∧
    j.modules.length = s.modules.length ∧
    (∀ (m : Nat) (r t : ModuleRec), s.modules[m]? = some r → j.modules[m]? = some t →
      let reporting := s.moduleInUse m && c.reported.contains m
      let silent := s.moduleInUse m && !(c.reported.contains m) && r.quality == .stale
      t = { r with cells := t.cells, history := t.history } ∧
      t.history = (match r.temps.max? with
        | some x => if reporting then lastEntries 8 (r.history ++ [x]) else r.history
        | none => r.history) ∧
      t.cells.length = r.cells.length ∧
      (∀ (p : Nat) (k : CellRec), r.cells[p]? = some k →
        let q := if c.quietUsable && c.quietValid.contains m then { k with quiet := k.latest } else k
        let v := s.tables.t1
        let band : Band := match k.latest with
          | none => .unknown
          | some x =>
            if x ≤ v.minHard then .lowHard else if x < v.minWarn then .lowWarn else if x ≤ v.maxWarn then .normal
            else if x < v.maxHard then .highWarn else .highHard
        t.cells[p]? = some (
          if reporting && decide (p < (s.stringEntry (m / 12)).cells) then { q with
            band := band
            hardCount := if band = .lowHard ∨ band = .highHard then capNat 4 (k.hardCount + 1) else 0
            absentRun := if k.latest = none then inc8 k.absentRun else 0 }
          else if silent then { q with band := .unknown, hardCount := 0 }
          else q))) ∧
    (∀ (i : Nat) (r : StringRec), s.strings[i]? = some r →
      ∃ e : Extremes, j.strings[i]? = some { r with extremes := e } ∧
        ((s.stringEntry i).inUse = false → e = r.extremes) ∧
        ((s.stringEntry i).inUse = true →
          let reading := fun v k => ∃ m p x, fresh i m ∧ inCell m p x ∧ x.latest = some v ∧ k = 16 * (m % 12) + p
          let temp := fun x => ∃ m, fresh i m ∧ x ∈ (j.moduleAt m).temps
          (∀ v k, e.vMax = some (v, k) ↔ reading v k ∧ ∀ v' k', reading v' k' → v' < v ∨ (v' = v ∧ k ≤ k')) ∧
          (∀ v k, e.vMin = some (v, k) ↔ reading v k ∧ ∀ v' k', reading v' k' → v < v' ∨ (v' = v ∧ k ≤ k')) ∧
          (∀ x, e.tMax = some x ↔ temp x ∧ ∀ y, temp y → y ≤ x) ∧
          (∀ x, e.tMin = some x ↔ temp x ∧ ∀ y, temp y → x ≤ y))) ∧
    (j.cellsHold = true ↔ ∃ i < 4, (s.stringEntry i).inUse = true ∧ (s.stringEntry i).stalePolicy = .container ∧ stale i) ∧
    (u.isLatched .cellHard = true ↔ s.isLatched .cellHard = true ∨ ∃ i < 4, (s.stringEntry i).inUse = true ∧ hard i) ∧
    (u.isLatched .tempHard = true ↔ s.isLatched .tempHard = true ∨ ∃ i < 4, (s.stringEntry i).inUse = true ∧ hot i) ∧
    (∀ i < 4, (s.stringEntry i).inUse = true →
      let held := stale i ∧ (s.stringEntry i).stalePolicy = .string
      (hard i ∨ hot i ∨ held → (u.stringAt i).state ≠ .inService ∧ (u.stringAt i).state ≠ .restoring) ∧
      (hard i ∨ hot i → (u.stringAt i).state ≠ .isolated) ∧
      (¬hard i → ¬hot i → ¬held → u.stringAt i = j.stringAt i)) ∧
    u.limits = ⟨s.tables.t1, s.tables.t2⟩ ∧
    s.changesOnly u [.modules, .strings, .cellsHold, .limits, .envelope, .gate, .fieldPort, .notices, .flags, .counters]

/-- Bleeding at a close (R38 to R41): the mask of a module that is STALE or whose zone is not below balance_temp_limit is
cleared; at a quiet usable round each module within the scope takes, where it is eligible, the cells that stand on_delta
above its string's reference, or bleed and stand above off_delta, of these the max_bleed highest, and otherwise none;
and a BLEED SET waits for each module that needs one (log 15 of which do after each kind of round): an older one to its
monitor is replaced in its place, at an aborted close as well (R160; log 47), every other frame keeps its place, and a new
one joins the end, so that a BLEED HOLD that waits is sent ahead of it (R15). Calibration (R50 to R53): an armed latch whose
level the quiet extremes reach sets Q to Q_cap or to 0 and is disarmed, both at once are a conflict, and each latch arms
again past its re-arm level over the whole string. -/
def Obligations.CloseBalancesAndCalibrates : Prop :=
  (∀ (s : State) (c : CloseRecord) (m : Nat), m < 48 → m < s.modules.length →
    let t := s.bleedClose c
    let p := s.params
    let r := s.moduleAt m
    let string := s.stringAt (m / 12)
    let cool := fun k => ∃ x, s.zoneTemp (s.moduleAt k).zone = some x ∧ x < p.balanceTempLimit
    let cleared := r.quality = .stale ∨ ¬cool m
    let fit := (string.state = .inService ∨ string.state = .isolated) ∧
      (∃ x, string.current = some x ∧ x.natAbs ≤ p.balanceCurrentLimit) ∧ s.supply.mode = .normal ∧
      ∀ z ∈ s.fire.zones, z.stage ≠ .preAlarm ∧ z.stage.confirmed = false
    let eligible := fun k => fit ∧ k ∈ s.modulesOf (m / 12) ∧ c.scope.covers k = true ∧
      (s.moduleAt k).quality = .fresh ∧ k ∈ c.quietValid ∧ cool k
    let quiet := fun k v => ∃ q, (q, v) ∈ s.quietVoltages k
    let place := fun w : Placed => (w.frame.kind, w.frame.dest)
    let decides := c.quiet = true ∧ c.quietUsable = true ∧ s.moduleInUse m = true ∧ c.scope.covers m = true
    (∀ q v, (q, v) ∈ s.quietVoltages m ↔ q < 16 ∧ q < (s.stringEntry (m / 12)).cells ∧
      ∃ k, r.cells[q]? = some k ∧ k.quiet = some v) ∧
    (¬decides → cleared → (t.moduleAt m).mask = []) ∧ (¬decides → ¬cleared → (t.moduleAt m).mask = r.mask) ∧
    (decides → (¬eligible m ∨ ∀ k v, eligible k → ¬quiet k v) → (t.moduleAt m).mask = []) ∧
    (∀ reference k, decides → eligible m → eligible k → quiet k reference →
      (∀ k' v, eligible k' → quiet k' v → reference ≤ v) →
      let wanted := (s.quietVoltages m).filter fun x => decide (reference + p.onDelta ≤ x.2 ∨
        (x.1 ∈ r.mask ∧ reference + min p.offDelta (p.onDelta - 1) < x.2))
      (t.moduleAt m).mask = (wanted.filter fun x =>
        decide ((wanted.filter fun y => decide (x.2 < y.2 ∨ (y.2 = x.2 ∧ y.1 < x.1))).length < p.maxBleed)).map (·.1)) ∧
    (∀ a, s.addressOf .moduleMonitor m = some a → (∀ k, s.addressOf .moduleMonitor k = some a → k = m) →
      (if c.quiet = true then s.moduleInUse m = true ∨ r.resend = true else (cleared ∧ r.mask ≠ []) ∨ r.resend = true) →
      (t.moduleAt m).resend = false →
      s.ownFrame kindBleedSet a (bleedSetPayload (t.moduleAt m).mask) ∈ t.fieldPort.normal) ∧
    (∃ added, t.fieldPort.normal.map place = s.fieldPort.normal.map place ++ added ∧
      ∀ x ∈ added, x.1 = kindBleedSet) ∧
    (∀ a, s.fieldPort.setAheadOfHold a = false → ∀ before after w, t.fieldPort.normal = before ++ w :: after →
      w.frame.kind = kindBleedSet → w.frame.dest = a → ∀ h ∈ after, h.frame.kind ≠ kindBleedHold) ∧
    t.moduleAt m = { r with mask := (t.moduleAt m).mask, resend := (t.moduleAt m).resend } ∧
    s.changesOnly t [.modules, .fieldPort, .counters]) ∧
  (∀ (s : State) (c : CloseRecord) (i : Nat), i < 4 → i < s.strings.length →
    let t := s.calibrateAll c
    let p := s.params
    let r := (s.stringAt i).charge
    let ms := (s.modulesOf i).filter fun m => c.quietValid.contains m
    let quiet := fun v => ∃ m ∈ ms, ∃ q, (q, v) ∈ s.quietVoltages m
    (c.quietUsable = false ∨ (∀ v, ¬quiet v) → (t.stringAt i).charge = r) ∧
    (∀ hi lo, c.quietUsable = true → quiet hi → quiet lo → (∀ v, quiet v → lo ≤ v ∧ v ≤ hi) →
      let full := r.fullArmed = true ∧ p.fullLevel ≤ hi
      let empty := r.emptyArmed = true ∧ (lo : Int) ≤ p.emptyLevel
      let whole := ms.length = (s.modulesOf i).length
      let k : ChargeRec :=
        if full ∧ ¬empty then { r with
          lastCalibration := some ⟨true, s.time, r.q⟩, q := r.qCap, soc := socOf r.qCap r.qCap
          fullArmed := false, uncalibrated := false }
        else if empty ∧ ¬full then { r with
          lastCalibration := some ⟨false, s.time, r.q⟩, q := 0, soc := socOf 0 r.qCap
          emptyArmed := false, uncalibrated := false }
        else r
      (t.stringAt i).charge = { k with
        fullArmed := k.fullArmed || decide (whole ∧ (hi : Int) ≤ min p.fullRearm (p.fullLevel - 1))
        emptyArmed := k.emptyArmed || decide (whole ∧ max p.emptyRearm (p.emptyLevel + 1) ≤ lo) }) ∧
    s.changesOnly t [.strings, .notices, .counters])

/-- The Thermal Controller's making (R123, R125 to R127): while a zone is fire-confirmed every valve is fully open and
the fan stopped; otherwise each valve follows its zone's demand, at least prealarm_code in PRE_ALARM, and the fan the
greatest demand, all capped in HOLDUP and 0 while the holdup is low. The command is recorded, and placed in URGENT or
NORMAL for the chiller. At a close each zone's temperature and demand are set anew first (R121, R122). -/
def Obligations.CoolantCommandFollowsTheDemands : Prop :=
  (∀ (s : State) (urgent : Bool), s.thermal.zones.length = 8 →
    let m := s.coolantMaking
    let demand := fun z => (s.thermal.zones.map (·.demand)).getD z 0
    let cap := fun code => if s.supply.holdupLow then 0
      else if s.supply.mode = .holdup then min code s.tables.t11.holdupCap else code
    let thermal := fun o : CommandOutcome => { s.thermal with
      zones := s.thermal.zones.mapIdx fun z r =>
        { r with valveCode := m.valves.getD z 0, valveDuty := dutyOf (m.valves.getD z 0) }
      command := ⟨m.run, m.fan, dutyOf m.fan, s.time, o⟩ }
    let t := s.makeCoolant urgent
    (s.anyConfirmed = true → m = ⟨true, List.replicate 8 255, 0⟩) ∧
    (s.anyConfirmed = false →
      m.valves = (List.range 8).map (fun z =>
        cap (if (s.fireZone z).stage = .preAlarm then max (demand z) s.tables.t11.prealarmCode else demand z)) ∧
      m.fan = cap ((List.range 8).foldl (fun x z => max x (demand z)) 0) ∧
      (m.run = true ↔ 0 < m.fan ∨ ∃ v ∈ m.valves, 0 < v)) ∧
    (∀ code, dutyOf code = if code = 0 then 0 else (32 + code % 32) * 2 ^ (code / 32) / 2) ∧
    (s.addressOf .chiller 0 = none → t = (s.setThermal (thermal .unaddressed)).setCounters
      { s.counters with coolantUnaddressed := inc16 s.counters.coolantUnaddressed }) ∧
    (∀ a, s.addressOf .chiller 0 = some a →
      let f : Placed := ⟨⟨a, s.sys.address, kindCoolantCommand,
        coolantCommandPayload m.run (m.valves.map dutyOf) (dutyOf m.fan)⟩, none⟩
      (urgent = true → t = (s.placeUrgent f).setThermal (thermal .queued)) ∧
      (urgent = false → s.fieldPort.admits f = true → t = (s.placeNormal f).setThermal (thermal .queued)) ∧
      (urgent = false → s.fieldPort.admits f = false →
        t = ((s.placeNormal f).setThermal (thermal .dropped)).setCounters { (s.placeNormal f).counters with
          coolantFramesLost := inc16 s.counters.coolantFramesLost }))) ∧
  (∀ (s : State), s.thermalClose = (s.setThermal { s.thermal with zones := s.zonesAfterClose }).makeCoolant false ∧
    (∀ z x, s.zoneTemp z = some x ↔
      let temp := fun y => ∃ m < 48, s.moduleInUse m = true ∧ (s.moduleAt m).zone = z ∧
        (s.moduleAt m).quality = .fresh ∧ y ∈ (s.moduleAt m).temps
      temp x ∧ ∀ y, temp y → y ≤ x) ∧
    (∀ (z : Nat) (r t : ZoneRec), s.thermal.zones[z]? = some r → s.zonesAfterClose[z]? = some t →
      let e11 := s.zoneEntry z
      (t.inUse = true ↔ ∃ m < 48, s.moduleInUse m = true ∧ (s.moduleAt m).zone = z) ∧
      (t.inUse = false → t = { r with inUse := false, temp := none, cooling := false, demand := 0 }) ∧
      (t.inUse = true → s.zoneTemp z = none →
        t = { r with inUse := true, temp := none, demand := s.tables.t11.fallbackCode }) ∧
      (∀ x, t.inUse = true → s.zoneTemp z = some x →
        let e := x - e11.tSet
        let cooling := if r.cooling then decide (-(e11.hyst : Int) < e) else decide (0 ≤ e)
        t = { r with
          inUse := true, temp := some x, cooling := cooling
          demand := if cooling then (clampInt 1 255 ((e11.base : Int) + e11.k * max e 0)).toNat else 0 })))

/-- An evaluation of a zone (R143 to R146): its sources and its line indication give the target. A fire-confirmed stage
stands, and its flags latch again (R171; log 51). A stage rises to its target at once, with what a rise to PRE_ALARM or
to FIRE brings; one above its target runs its clear timer toward the greatest target since it started; and at its target
it runs none. Reaching FIRE latches the flag, locks the connection out, takes every string from service, clears every
mask, brings the limits to zero, commands the chiller in URGENT, and starts the release where it is enabled (R147). At a
close every cell source is graded first (R141). -/
def Obligations.FireZonesFollowTheirSources : Prop :=
  (∀ (s : State) (z : Nat), z < 8 → s.fire.zones.length = 8 →
    let r := s.fireZone z
    let sources := s.sources z
    let alarms := (sources.filter (· == .alarm)).length
    let graded := (sources.filter (· != .none)).length
    let target : FireStage :=
      if r.lineIndication = true ∨ 2 ≤ alarms then .fire else if alarms = 1 ∨ 2 ≤ graded then .preAlarm
      else if graded = 1 then .watch else .normal
    let t := s.evaluateZone z
    let v := { r with target := target, unwatched := s.zoneUnwatched z }
    let release := s.tables.t13.releaseEnable.getD z false
    let delay := s.tables.t13.releaseDelay * 1000
    let hold := s.lineIsActive .releaseHold
    sources = r.cellGrade :: ((List.range 16).filter fun i => (s.detectorEntry i).inUse && (s.detectorEntry i).zone == z &&
      !(s.detectorEntry i).mask && (s.detectorAt i).loop == .normal && (s.detectorAt i).grade != .none).map
        (fun i => (s.detectorAt i).grade) ∧
    (s.zoneUnwatched z = true ↔ (∃ i < 16, (s.detectorEntry i).inUse = true ∧ (s.detectorEntry i).zone = z) ∧
      ∀ i < 16, (s.detectorEntry i).inUse = true → (s.detectorEntry i).zone = z →
        (s.detectorEntry i).mask = true ∨ (s.detectorAt i).loop ≠ .normal) ∧
    (r.stage.confirmed = true → t.fireZone z = v ∧ t.isLatched .fire = true ∧
      (r.stage = .released → t.isLatched .release = true)) ∧
    (r.stage.confirmed = false → target = r.stage → t.fireZone z = { v with clearTimer := none }) ∧
    (r.stage.confirmed = false → target.rank < r.stage.rank → t.fireZone z = { v with clearTimer := some (
      match r.clearTimer with
      | none => ⟨s.time + BitVec.ofNat 32 (s.tables.t13.clearTime * 1000), target⟩
      | some c => ⟨c.ends, if c.ceiling.rank < target.rank then target else c.ceiling⟩) }) ∧
    (r.stage.rank < target.rank → target ≠ .fire → t.fireZone z = { v with stage := target, clearTimer := none }) ∧
    (r.stage.rank < target.rank → target = .preAlarm → (∀ m < 48, (t.moduleAt m).mask = []) ∧
      (s.conn.state = .reconnectTiming → t.conn.state = .openWait)) ∧
    (r.stage.rank < target.rank → target = .fire →
      t.fireZone z = { v with
        clearTimer := none, fireTime := some s.time
        stage := if !release then .fire else if delay = 0 ∧ hold = false then .released else .releaseDelay
        countdown :=
          if !release then r.countdown
          else if hold then some (.paused delay)
          else if delay = 0 then none else some (.running (s.time + BitVec.ofNat 32 delay)) } ∧
      t.isLatched .fire = true ∧ t.conn.lockedOut ∧
      (∀ i < 4, (t.stringAt i).state ≠ .inService ∧ (t.stringAt i).state ≠ .restoring) ∧
      (∀ m < 48, (t.moduleAt m).mask = []) ∧
      t.envelope.record.pChgLim = 0 ∧ t.envelope.record.pDisLim = 0 ∧ t.thermal.command.fanDuty = 0 ∧
      (∀ a, s.addressOf .chiller 0 = some a → s.ownFrame kindCoolantCommand a
        (coolantCommandPayload true (s.thermal.zones.map fun _ => 4032) 0) ∈ t.fieldPort.urgent) ∧
      (release = true → delay = 0 → hold = false → t.fire.releaseOut = true ∧ t.isLatched .release = true)) ∧
    (∀ k, k ≠ z → t.fireZone k = s.fireZone k) ∧ t.fire.detectors = s.fire.detectors ∧
    t.fire.timerEnd = s.fire.timerEnd ∧
    s.changesOnly t [.modules, .strings, .envelope, .gate, .conn, .thermal, .fire, .fieldPort, .notices, .flags,
      .counters]) ∧
  (∀ (s : State) (z : Nat),
    let reports := fun m => m < 48 ∧ s.moduleInUse m = true ∧ (s.moduleAt m).zone = z ∧ (s.moduleAt m).quality = .fresh
    let t13 := s.tables.t13
    let hot := ∃ m, reports m ∧ ∃ x ∈ (s.moduleAt m).temps, t13.tFire ≤ x
    let rising := ∃ m newest earlier, reports m ∧ (s.moduleAt m).history = earlier ++ [newest] ∧
      ∃ y ∈ lastEntries t13.riseWindow earlier, t13.riseThreshold ≤ newest - y
    (hot → s.cellSource z = .alarm) ∧ (¬hot → rising → s.cellSource z = .pre) ∧
    (¬hot → ¬rising → s.cellSource z = .none) ∧
    s.fireClose = (s.setFire { s.fire with
      zones := s.fire.zones.mapIdx fun i r => { r with cellGrade := s.cellSource i } }).evaluateZones (List.range 8))

/-! ### Timers -/

/-- The interval timer restarts and begins a round at rest, quiet at every quiet_every-th in NORMAL; a round is skipped
where one is open, or where no module is in use (R2, R3). The settle times lead on: wake_settle ends wake pending and goes
on to the BLEED HOLD of a QUIET round, and it and quiet_settle to the SAMPLE CALL of the next tag (R6 to R8); where the
NORMAL queue is full, the frame is counted as refused and lost, and the round closes as aborted (R9). The deadline closes
the round as completed (R12). -/
def Obligations.RoundTimersLeadARoundOn : Prop :=
  ∀ s : State, s.runs →
    (s.due (some s.rounds.intervalEnd) = true →
      let v := s.setRounds { s.rounds with intervalEnd := s.time + BitVec.ofNat 32 (if s.supply.mode = .holdup then
        max s.params.roundInterval (s.params.holdupInterval * 1000) else s.params.roundInterval) }
      let n := s.rounds.quietCounter + 1
      (s.rounds.phase.isAtRest = true → s.modulesInUse ≠ [] → s.supply.mode = .normal →
        exec .intervalExpiry s =
          .next ((v.setRounds { v.rounds with quietCounter := if s.params.quietEvery ≤ n then 0 else n }).beginRound
            .all (decide (s.params.quietEvery ≤ n)))) ∧
      (s.rounds.phase.isAtRest = true → s.modulesInUse ≠ [] → s.supply.mode = .holdup →
        exec .intervalExpiry s = .next (v.beginRound .all false)) ∧
      (s.rounds.phase.isAtRest = false ∨ s.modulesInUse = [] →
        exec .intervalExpiry s =
          .next (v.setCounters { s.counters with roundsSkipped := inc16 s.counters.roundsSkipped }))) ∧
    (∀ o : OpenRound, s.rounds.openRound = some o → s.due o.phaseTimer = true →
      let tag := (s.rounds.tag + 1) % 256
      let woken := { s.rounds with wakePending := false }
      let sends := fun (kind : Nat) (payload : List Byte) (r : Rounds) (x : RoundPhase) =>
        (s.setFieldPort { s.fieldPort with normal := s.fieldPort.normal ++
          [⟨⟨127, s.sys.address, kind, payload⟩, some o.serial⟩] }).setRounds
          { r with phase := x, openRound := some { o with phaseTimer := none } }
      let aborts := fun r : Rounds => ((s.setRounds r).setCounters { s.counters with
        fieldNormalRefused := inc16 s.counters.fieldNormalRefused
        roundFramesLost := inc16 s.counters.roundFramesLost
        roundsAborted := inc16 s.counters.roundsAborted }).closeRound o false
      let samples := fun r : Rounds => if s.fieldPort.normalUsed < 32 then
          sends kindSampleCall (sampleCallPayload tag o.quiet o.scope) { r with tag := tag } .collecting
        else aborts { r with tag := tag }
      (s.rounds.phase = .waking → o.quiet = true →
        exec .wakeSettleExpiry s =
          .next (if s.fieldPort.normalUsed < 32 then sends kindBleedHold [] woken .quietSettle else aborts woken)) ∧
      (s.rounds.phase = .waking → o.quiet = false → exec .wakeSettleExpiry s = .next (samples woken)) ∧
      (s.rounds.phase = .quietSettle → exec .quietSettleExpiry s = .next (samples s.rounds)) ∧
      (s.rounds.phase = .collecting → exec .roundDeadlineExpiry s = .next (s.closeRound o true)))

/-- A contactor that has not opened within contactor_time while its monitor is LIVE is WELDED: the retained condition
and flag CONTACTOR_FAIL are set, and a breaker closed or closing opens toward OPEN_LOCKED (R32, R36, R110); without a
LIVE monitor the timer stops alone. One that has not closed by then leaves its string ISOLATED with cause EXTERNAL, and
neither latches the flag nor trips (R33). A LIVE node's silence makes it SILENT, with the effects of its role (R155,
R156): a string monitor's raises MONITOR_SILENT, which with the string at rest or isolating also places a CONTACTOR OPEN
(log 13), of a string not in use too (log 40); the PCS's stops the overshoot timer; the chiller's gives coolant LOST, and
in LOST has no effect, so that a cleared flag COOLANT_LOST does not latch (log 51); a panel's makes its detectors SILENT and
evaluates their zones in index order (R139; log 63); the meter's makes the sample stale and trips; and the others have
none. -/
def Obligations.ContactorAndNodeTimersAct : Prop :=
  (∀ s : State, s.runs →
    (∀ i : Fin 4, i.val < s.strings.length → s.due (s.stringAt i).timer = true →
      ((s.stringAt i).state = .isolating → s.nodeStateOf .stringMonitor i = .live →
        ∃ t, exec (.contactorTimerExpiry i) s = .next t ∧
        t.stringAt i = { s.stringAt i with state := .welded, retained := .welded, timer := none } ∧
        t.isLatched .contactorFail = true ∧
        ((s.conn.state = .connected ∨ s.conn.state = .rideThrough ∨ s.conn.state = .closing) →
          t.conn.state = .opening ∧ t.conn.target = some .openLocked ∧ t.conn.tripCause = some .welded ∧
          t.conn.lockout ≠ .none) ∧
        (∀ j, j ≠ i.val → t.stringAt j = s.stringAt j) ∧
        s.keeps t [.rounds, .modules, .limits, .grid, .thermal, .fire, .nodes, .config, .image, .lines, .supply, .engine,
          .stationPort]) ∧
      ((s.stringAt i).state = .isolating → s.nodeStateOf .stringMonitor i ≠ .live →
        exec (.contactorTimerExpiry i) s =
          .next (s.setStrings (s.strings.modify i fun r => { r with timer := none }))) ∧
      ((s.stringAt i).state = .restoring →
        exec (.contactorTimerExpiry i) s =
          .next (((s.setStrings (s.strings.modify i fun r =>
            { r with state := .isolated, cause := some .external, timer := none })).raise .contactorFail
              (some i.val)).changeEval))) ∧
    (∀ (i : Fin 64) (e : NodeEntry), s.nodeEntry i = some e → (s.nodeAt i).state = .live →
      s.due (s.nodeAt i).silenceEnd = true →
      exec (.nodeSilenceExpiry i) s =
        .next ((((s.setNodes (s.nodes.modify i fun r => { r with state := .silent, silenceEnd := none })).latch
          .nodeSilent).raise .nodeSilent (some e.address)).silenceEffects e.role e.recordIndex))) ∧
  (∀ (s : State) (i : Nat),
    let state := (s.stringAt i).state
    let command := match s.addressOf .stringMonitor i with
      | none => s.setCounters { s.counters with contactorUnaddressed := inc16 s.counters.contactorUnaddressed }
      | some a => s.placeUrgent (s.ownFrame kindContactorCommand a (contactorPayload false))
    let lost := s.setThermal { s.thermal with coolant := .lost }
    let reached := fun k : Nat => decide (i ≤ k) && (s.detectorEntry k).inUse
    let detectors := s.fire.detectors.mapIdx fun k d =>
      if k < 16 ∧ reached k = true then { d with
        loop := .silent, grade := .none, openRun := 0, shortRun := 0, normalRun := 0, preRun := 0, alarmRun := 0
        clearRun := 0 }
      else d
    let zones := (List.range 8).filter fun z => (List.range 16).any fun k => reached k && (s.detectorEntry k).zone == z
    s.silenceEffects .moduleMonitor i = s ∧ s.silenceEffects .other i = s ∧
    (state = .awaiting ∨ state = .inService ∨ state = .restoring →
      s.silenceEffects .stringMonitor i = s.raiseCause i .monitorSilent) ∧
    (state = .isolating ∨ state = .isolated ∨ state = .lockedOut ∨ state = .welded →
      s.silenceEffects .stringMonitor i = command.raiseCause i .monitorSilent) ∧
    s.silenceEffects .pcs i = s.setGate { s.gate with overshootEnd := none } ∧
    (s.thermal.coolant = .lost → s.silenceEffects .chiller i = s) ∧
    (s.thermal.coolant ≠ .lost → s.silenceEffects .chiller i =
      (((lost.latch .coolantLost).raise .coolantLost none).changeEval).makeCoolant false) ∧
    s.silenceEffects .firePanel i =
      zones.foldl (fun t z => t.evaluateZone z) (s.setFire { s.fire with detectors := detectors }) ∧
    s.silenceEffects .meter i = (s.setGrid { s.grid with stale := true }).trip .meterLost)

/-- An evaluation of the change group is followed by the corrective check (R77, R79, R96): a corrective frame is due where
the last active power lies outside the new limits, or the last reactive power is not 0 and the connection carries none;
one made in PASSING or FAILSAFE raises DISPATCH_CORRECTED, but without a PCS entry none is raised (log 43). The envelope
timer restarts for 1000 ms and causes such an evaluation (R78);
station silence takes a PASSING gate to FAILSAFE with failsafe_P, and makes a frame (R85); and an overshoot that lasts
latches its flag, disarms the check and trips the connection (R99, R110). -/
def Obligations.EnvelopeAndGateTimersAct : Prop :=
  (∀ s : State,
    let e := s.setEnvelope { s.envelope with record := s.evaluation }
    let due := (s.evaluation.pDisLim : Int) < s.gate.pPrev ∨ s.gate.pPrev < -(s.evaluation.pChgLim : Int) ∨
      (s.gate.qPrev ≠ 0 ∧ s.conn.state ≠ .connected ∧ s.conn.state ≠ .rideThrough)
    (¬due → s.changeEval = e) ∧
    (due → s.gate.state = .held ∨ s.pcsAddress = none → s.changeEval = e.makeFrame .corrective) ∧
    (due → s.gate.state ≠ .held → s.pcsAddress ≠ none →
      s.changeEval = (e.makeFrame .corrective).raise .dispatchCorrected none)) ∧
  (∀ s : State, s.runs →
    (s.due (some s.envelope.timerEnd) = true →
      exec .envelopeTimerExpiry s =
        .next (s.setEnvelope { s.envelope with timerEnd := s.time + 1000 }).changeEval) ∧
    (s.due s.gate.silenceEnd = true →
      (s.gate.state = .passing →
        exec .stationSilenceExpiry s =
          .next (((s.setGate { s.gate with
            silenceEnd := none, state := .failsafe, pReqLast := s.params.failsafeP, qReqLast := 0 }).raise
            .gateFailsafe none).makeFrame .failsafe)) ∧
      (s.gate.state ≠ .passing →
        exec .stationSilenceExpiry s = .next (s.setGate { s.gate with silenceEnd := none }))) ∧
    (s.due s.gate.overshootEnd = true →
      ∃ t, exec .overshootTimerExpiry s = .next t ∧ t.isLatched .pcsOvershoot = true ∧
        t.gate.overshootEnd = none ∧ t.gate.overshootArmed = false ∧
        ((s.conn.state = .connected ∨ s.conn.state = .rideThrough) →
          t.conn.state = .opening ∧ t.conn.tripCause = some .pcsOvershoot ∧
          t.conn.tripOut = some (s.time + BitVec.ofNat 32 s.tables.t9.tripPulse)) ∧
        s.keeps t [.rounds, .modules, .strings, .limits, .grid, .thermal, .fire, .nodes, .config, .image, .lines, .supply]))

/-- The timers of the grid and the breaker: a stage whose delay is over operates and acts (R106); the breaker timer
locks the connection out with BREAKER_FAIL, but for a lockout of FIRE or WELDED in OPENING (R112, R116); the reconnect
timer pulses CLOSE_OUT (R115); the history is pruned each second (R113); and pulses end (R112). -/
def Obligations.GridAndBreakerTimersAct : Prop :=
  ∀ s : State, s.runs →
    (∀ i : Fin 8, (s.stageAt i).state = .pickedUp → s.due (s.stageAt i).timer = true →
      let v := s.setGrid { s.grid with
        stages := s.grid.stages.modify i fun r => { r with state := .operated, timer := none } }
      exec (.stageDelayExpiry i) s = .next (match (s.stageEntry i).action with
        | .trip => v.trip (.stage i)
        | .notify => v.raise .stageOperated (some i.val))) ∧
    (s.conn.state = .opening → s.due s.conn.breakerEnd = true →
      ∃ t, exec .openTimeout s = .next t ∧
        t.conn = { s.conn with
          state := .openLocked, breakerEnd := none, tripCause := none, target := none
          lockout := if s.conn.lockout = .fire ∨ s.conn.lockout = .welded then s.conn.lockout else .breakerFail } ∧
        t.isLatched .breakerFail = true ∧ t.isLatched .lockout = true ∧
        s.changesOnly t [.conn, .flags, .notices, .counters, .envelope, .gate, .fieldPort]) ∧
    (s.conn.state = .closing → s.due s.conn.breakerEnd = true →
      ∃ t, exec .closeTimeout s = .next t ∧
        t.conn = { s.conn with
          state := .openLocked, breakerEnd := none, lockout := .breakerFail, closeOut := none
          tripOut := some (s.time + BitVec.ofNat 32 s.tables.t9.tripPulse) } ∧
        t.isLatched .breakerFail = true ∧ t.isLatched .lockout = true ∧
        s.changesOnly t [.conn, .flags, .notices, .counters, .envelope, .gate, .fieldPort]) ∧
    (s.conn.state = .reconnectTiming → s.due s.conn.reconnectEnd = true →
      ∃ t, exec .reconnectTimerExpiry s = .next t ∧
        t.conn = { s.conn with
          state := .closing, reconnectEnd := none, tripOut := none
          closeOut := some (s.time + BitVec.ofNat 32 s.tables.t9.closePulse)
          breakerEnd := some (s.time + BitVec.ofNat 32 s.tables.t9.closeTimeout) } ∧
        s.changesOnly t [.conn, .notices, .counters, .envelope, .gate, .fieldPort]) ∧
    (s.due (some s.conn.historyEnd) = true →
      exec .historyTimerExpiry s =
        .next (s.setConn { s.conn with
          historyEnd := s.time + 1000
          history := s.conn.history.filter fun t => decide ((s.time - t.time).toNat < s.tables.t9.tripWindow * 1000) })) ∧
    (s.due s.conn.tripOut = true → exec .tripPulseEnd s = .next (s.setConn { s.conn with tripOut := none })) ∧
    (s.due s.conn.closeOut = true → exec .closePulseEnd s = .next (s.setConn { s.conn with closeOut := none }))

/-- A clear timer lowers its zone to the ceiling, and runs on below it (R144); the fire timer restarts and evaluates
every zone (R143); and a countdown that ends releases its zone: RELEASE_OUT is asserted and flag RELEASE latches
(R147, R148). -/
def Obligations.FireTimersAct : Prop :=
  ∀ s : State, s.runs →
    (∀ (z : Fin 8) (c : ClearTimer), z.val < s.fire.zones.length → (s.fireZone z).clearTimer = some c →
      s.due (some c.ends) = true →
      ∃ t, exec (.clearTimerExpiry z) s = .next t ∧ (t.fireZone z).stage = c.ceiling ∧
        (t.fireZone z).clearTimer =
          (if (s.fireZone z).target.rank < c.ceiling.rank then some ⟨s.clearEnd, (s.fireZone z).target⟩ else none) ∧
        (∀ j, j ≠ z.val → t.fireZone j = s.fireZone j) ∧
        s.changesOnly t [.fire, .envelope, .gate, .thermal, .fieldPort, .notices, .counters]) ∧
    (s.due (some s.fire.timerEnd) = true →
      exec .fireTimerExpiry s =
        .next ((s.setFire { s.fire with timerEnd := s.time + 1000 }).evaluateZones (List.range 8))) ∧
    (∀ (z : Fin 8) (ends : PartTime), z.val < s.fire.zones.length → (s.fireZone z).countdown = some (.running ends) →
      s.due (some ends) = true →
      ∃ t, exec (.releaseCountdownEnd z) s = .next t ∧ (t.fireZone z).stage = .released ∧
        (t.fireZone z).countdown = none ∧ t.fire.releaseOut = true ∧ t.isLatched .release = true ∧
        (∀ j, j ≠ z.val → t.fireZone j = s.fireZone j) ∧
        s.changesOnly t [.fire, .envelope, .gate, .thermal, .fieldPort, .flags, .notices, .counters])

/-! ### Lines, supply and configuration -/

/-- A level at a pin restarts its count, and a line whose level has stood for its debounce takes its state, with what
its function brings: nothing for NONE, MAINT its own state, the fire lines their indications, and RELEASE_HOLD the
countdowns (R142, R147, R175). A zone has a line indication while any line of function MANUAL_CALL or PANEL_FIRE with its
number or 15 is active, and each zone that the line applies to is evaluated, in index order (log 63). While RELEASE_HOLD is active every countdown
stands with what remained of it, which runs on when it ends; one of which nothing is left then releases its zone. -/
def Obligations.LinesSettleAndAct : Prop :=
  (∀ s : State,
    (∀ (i : Fin 8) (high : Bool), (s.lineAt i).high ≠ high →
      exec (.lineLevelChange (.line i) high) s =
        .next (s.setLines { s.lines with
          inputs := s.lines.inputs.modify i fun r => { r with high := high, since := s.time } })) ∧
    (∀ high : Bool, s.lines.maint.high ≠ high →
      exec (.lineLevelChange .maint high) s =
        .next (s.setLines { s.lines with maint := { s.lines.maint with high := high, since := s.time } })) ∧
    (s.runs → 20 ≤ (s.time - s.lines.maint.since).toNat → s.lines.maint.active = s.lines.maint.high →
      exec .maintChange s =
        .next (s.setLines { s.lines with maint := { s.lines.maint with active := !s.lines.maint.high } })) ∧
    (∀ (i : Fin 8) (x : LineState), s.runs → (s.lineEntry i).debounce ≤ (s.time - (s.lineAt i).since).toNat →
      (s.lineEntry i).stateOf (s.lineAt i).high = x → (s.lineAt i).state ≠ x →
      let v := s.setLines { s.lines with inputs := s.lines.inputs.modify i fun r => { r with state := x } }
      ((s.lineEntry i).function = .none → exec (.unassignedLineChange i) s = .next v) ∧
      (((s.lineEntry i).function = .manualCall ∨ (s.lineEntry i).function = .panelFire) →
        exec (.fireLineChange i) s = .next (v.fireLineMoved (s.lineEntry i))) ∧
      (s.lineOf .releaseHold = some i.val →
        exec .releaseHoldChange s = .next (if x = .active then v.pauseCountdowns else v.resumeCountdowns)))) ∧
  (∀ (s : State) (e : LineEntry),
    let applies := fun (l : LineEntry) (z : Nat) => l.zone == z || l.zone == 15
    let indicated := fun z : Nat => (List.range 8).any fun i =>
      let l := s.lineEntry i
      (l.function == .manualCall || l.function == .panelFire) && applies l z && (s.lineAt i).state == .active
    let zones := s.fire.zones.mapIdx fun z r =>
      if z < 8 ∧ applies e z = true then { r with lineIndication := indicated z } else r
    s.fireLineMoved e =
      ((List.range 8).filter (applies e)).foldl (fun t z => t.evaluateZone z) (s.setFire { s.fire with zones := zones })) ∧
  (∀ s : State,
    let left := fun c : Countdown => match c with
      | .running ends => if (s.time - ends).toNat < 2147483648 then 0 else (ends - s.time).toNat
      | .paused ms => ms
    s.pauseCountdowns = s.setFire { s.fire with
      zones := s.fire.zones.map fun r => { r with countdown := r.countdown.map fun c => .paused (left c) } }) ∧
  (∀ (s : State) (z : Nat), z < 8 → s.fire.zones.length = 8 →
    let r := s.fireZone z
    let t := s.resumeCountdowns
    (∀ ms, r.countdown = some (.paused ms) → ms ≠ 0 →
      t.fireZone z = { r with countdown := some (.running (s.time + BitVec.ofNat 32 ms)) }) ∧
    (r.countdown = some (.paused 0) → t.fireZone z = { r with countdown := none, stage := .released } ∧
      t.fire.releaseOut = true ∧ t.isLatched .release = true) ∧
    ((∀ ms, r.countdown ≠ some (.paused ms)) → t.fireZone z = r) ∧
    s.changesOnly t [.fire, .envelope, .gate, .thermal, .fieldPort, .flags, .notices, .counters])

/-- The breaker line: its first state after a reset adopts the breaker (R119), and a later change is the movement of
R112, R114 or R116. An open breaker is adopted with no more effect. A closed one, adopted or closed without command in
an open state, is opened at once against a lockout or a fire-confirmed zone, with no entry in the history; is tripped by
a trip cause that stands, of several OPERATED stages by the lowest (log 12); and is otherwise taken up as CONNECTED or
RIDE_THROUGH. One that opens without command is an EXTERNAL trip, and in an open state or in CLOSING only the feedback
becomes OPEN. One that opens in OPENING reaches its target, one that closes there is pulsed again, and one that closes
in CLOSING connects. The emergency stop holds the gate (R83) and trips, and its end causes an evaluation (R74, R176). -/
def Obligations.BreakerAndStopLinesAct : Prop :=
  ∀ (s : State) (i : Nat) (x : LineState), s.runs → s.settles i = some x →
    let v := s.setLines { s.lines with inputs := s.lines.inputs.modify i fun r => { r with state := x } }
    let c := s.conn
    let t9 := s.tables.t9
    let pulsed := fun k : ConnRec => { k with
      closeOut := none, tripOut := some (s.time + BitVec.ofNat 32 t9.tripPulse)
      breakerEnd := some (s.time + BitVec.ofNat 32 t9.openTimeout) }
    let barred := c.lockout ≠ .none ∨ s.anyConfirmed = true
    let closedState : ConnState := if s.anyTripPickedUp then .rideThrough else .connected
    let kept := c.history.filter fun h => decide ((s.time - h.time).toNat < t9.tripWindow * 1000)
    let full := t9.tripLimit ≤ kept.length + 1
    let foundClosed := fun t : State =>
      (barred → t.conn = { pulsed c with
        feedback := .closed, startAdopted := true, reconnectEnd := none, state := .opening, target := some .openLocked
        tripCause := some (if s.anyConfirmed then .fire else .enforces c.lockout) }) ∧
      (∀ k, ¬barred → v.standingTrip = some k → t.conn = { pulsed c with
        feedback := .closed, startAdopted := true, reconnectEnd := none, state := .opening, tripCause := some k
        history := kept ++ [⟨s.time, k⟩], target := some (if full then .openLocked else .openWait)
        lockout := if full then .history else .none }) ∧
      (¬barred → v.standingTrip = none → t.conn = { c with
        feedback := .closed, startAdopted := true, reconnectEnd := none, state := closedState }) ∧
      s.keeps t [.strings, .modules, .limits, .fire, .grid, .thermal, .nodes, .config, .rounds]
    (∀ k, v.standingTrip = some k ↔
      (∃ n < 8, k = .stage n ∧ n ∈ s.tripStages .operated ∧ ∀ j < n, j ∉ s.tripStages .operated) ∨
      (s.tripStages .operated = [] ∧ v.lineIsActive .eStop = true ∧ k = .eStop) ∨
      (s.tripStages .operated = [] ∧ v.lineIsActive .eStop = false ∧ s.nodeStateOf .meter 0 = .silent ∧ k = .meterLost)) ∧
    (s.lineOf .breakerClosed = some i →
      (c.startAdopted = false → x = .inactive →
        exec .breakerAdoption s = .next (v.setConn { c with feedback := .isOpen, startAdopted := true })) ∧
      (c.startAdopted = false → x = .active → ∃ t, exec .breakerAdoption s = .next t ∧ foundClosed t) ∧
      (c.startAdopted = true → c.feedback = .isOpen → x = .active →
        (c.state = .openWait ∨ c.state = .reconnectTiming ∨ c.state = .openLocked) →
        ∃ t, exec .breakerFeedbackChange s = .next t ∧ foundClosed t) ∧
      (c.startAdopted = true → c.feedback = .closed → x = .inactive → (c.state = .connected ∨ c.state = .rideThrough) →
        ∃ t, exec .breakerFeedbackChange s = .next t ∧ t.conn = { c with
          feedback := .isOpen, history := kept ++ [⟨s.time, .external⟩]
          state := if full then .openLocked else .openWait
          lockout := if full ∧ c.lockout = .none then .history else c.lockout } ∧
          t.counters.trips = inc16 s.counters.trips ∧ (full → t.isLatched .lockout = true) ∧
          s.keeps t [.strings, .modules, .limits, .fire, .grid, .thermal, .nodes, .config, .rounds]) ∧
      (c.startAdopted = true → c.feedback = .closed → x = .inactive →
        (c.state = .openWait ∨ c.state = .reconnectTiming ∨ c.state = .openLocked ∨ c.state = .closing) →
        exec .breakerFeedbackChange s = .next (v.setConn { c with feedback := .isOpen })) ∧
      (c.startAdopted = true → c.feedback = .isOpen → x = .active → c.state = .closing →
        ∃ t, exec .breakerFeedbackChange s = .next t ∧ t.conn = { c with
          feedback := .closed, breakerEnd := none, state := closedState
          request := if c.request = .connect then .none else c.request } ∧
          s.keeps t [.strings, .modules, .limits, .fire, .grid, .thermal, .flags, .nodes, .config, .rounds]) ∧
      (c.startAdopted = true → c.feedback = .isOpen → x = .active → c.state = .opening →
        exec .breakerFeedbackChange s = .next (v.setConn { pulsed c with feedback := .closed })) ∧
      (c.startAdopted = true → c.feedback = .closed → x = .inactive → c.state = .opening →
        ∃ t, exec .breakerFeedbackChange s = .next t ∧ t.conn = { c with
          feedback := .isOpen, breakerEnd := none, tripCause := none, target := none
          state := if c.target = some .openLocked then .openLocked else .openWait } ∧
          s.keeps t [.strings, .modules, .limits, .fire, .grid, .thermal, .flags, .nodes, .config, .rounds])) ∧
    (s.lineOf .eStop = some i →
      (x = .active → ∃ t, exec .eStopActive s = .next t ∧ t.gate.state = .held ∧ t.gate.heldCause = some .eStop ∧
        ((c.state = .connected ∨ c.state = .rideThrough ∨ c.state = .closing) → t.conn.state = .opening ∧
          t.conn.tripCause = some .eStop) ∧
        (∀ k < 4, (t.stringAt k).state ≠ .inService ∧ (t.stringAt k).state ≠ .restoring) ∧
        s.keeps t [.rounds, .grid, .fire, .nodes, .config, .image, .supply, .engine, .stationPort]) ∧
      (x = .inactive → exec .eStopInactive s = .next v.changeEval))

/-- The supply: VAUX below its threshold begins HOLDUP with its notice, which an open round sees, and in which every mask is
clear (R16, R41, R177), and the chiller is commanded anew, as at every change below (R126); its return runs the
restore timer, which a dip stops and whose end brings NORMAL with a notice; and VHOLD's low condition latches its flag
and raises its notice where it begins, and ends with a notice (R178). -/
def Obligations.SupplyEventsMoveTheMode : Prop :=
  ∀ s : State, s.runs →
    (s.supply.mode = .normal → ∃ t, exec .vauxFall s = .next t ∧
      t.supply = { s.supply with mode := .holdup, restoreEnd := none } ∧ (∀ m < 48, (t.moduleAt m).mask = []) ∧
      t.rounds = { s.rounds with openRound := s.rounds.openRound.map fun o => { o with holdupSeen := true } } ∧
      t.notices = enterNotice s.notices ⟨.supplyHoldup, none, 1, s.time⟩ ∧ t.thermal.command.time = s.time ∧
      s.changesOnly t [.supply, .rounds, .modules, .thermal, .fieldPort, .notices, .counters]) ∧
    (s.supply.mode = .holdup → exec .vauxRise s =
      .next (s.setSupply { s.supply with
        restoreEnd := some (s.time + BitVec.ofNat 32 (s.params.auxRestoreDelay * 1000)) })) ∧
    exec .vauxRestoreDip s = .next (s.setSupply { s.supply with restoreEnd := none }) ∧
    (s.due s.supply.restoreEnd = true → ∃ t, exec .auxRestoreExpiry s = .next t ∧
      t.supply = { s.supply with mode := .normal, restoreEnd := none } ∧
      t.notices = enterNotice s.notices ⟨.supplyNormal, none, 1, s.time⟩ ∧ t.thermal.command.time = s.time ∧
      s.changesOnly t [.supply, .thermal, .fieldPort, .notices, .counters]) ∧
    (s.supply.holdupLow = false → ∃ t, exec .holdupLowBegin s = .next t ∧
      t.supply = { s.supply with holdupLow := true } ∧ t.isLatched .holdupLow = true ∧
      t.notices = enterNotice s.notices ⟨.holdupLow, none, 1, s.time⟩ ∧ t.thermal.command.time = s.time ∧
      s.changesOnly t [.supply, .thermal, .fieldPort, .flags, .notices, .counters]) ∧
    (s.supply.holdupLow = true → ∃ t, exec .holdupLowEnd s = .next t ∧
      t.supply = { s.supply with holdupLow := false } ∧
      t.notices = enterNotice s.notices ⟨.holdupRecovered, none, 1, s.time⟩ ∧ t.thermal.command.time = s.time ∧
      s.changesOnly t [.supply, .thermal, .fieldPort, .notices, .counters])

/-- A scrub pass restarts its timer and marks as faulted each table whose contents no longer give the recorded CRC,
leaving the tables themselves alone; each that was not faulted before latches CONFIG_FAULT and raises its notice, in
order (R180). The first fault to arise while no table was faulted causes an evaluation (R73), made after the pass
(log 56). -/
def Obligations.ScrubMarksTheTablesThatDiffer : Prop :=
  ∀ s : State, s.runs → s.due (some s.config.scrubEnd) = true → s.config.faulted.length = 16 →
    let differs := fun n : Nat => ((s.tables.get n).map TableContents.crc).getD 0 ≠ s.config.crcs.getD (n - 1) 0
    let found := ((List.range 16).map (· + 1)).filter fun n => decide (differs n) && !s.isFaulted n
    let v := s.setConfig { s.config with scrubEnd := s.time + BitVec.ofNat 32 (s.params.scrubPeriod * 1000) }
    let w := found.foldl (fun t n => ((t.setConfig { t.config with faulted := t.config.faulted.set (n - 1) true }).latch
      .configFault).raise .configFault (some n)) v
    ∃ t, exec .scrubTimerExpiry s = .next t ∧
    t = (if s.anyFault = false ∧ found ≠ [] then w.changeEval else w) ∧
    w.config = { s.config with
      scrubEnd := s.time + BitVec.ofNat 32 (s.params.scrubPeriod * 1000)
      faulted := s.config.faulted.mapIdx fun i b => b || found.contains (i + 1) } ∧
    w.notices = found.foldl (fun q n => enterNotice q ⟨.configFault, some n, 1, s.time⟩) s.notices ∧
    (∀ f : Flag, w.isLatched f = true ↔ s.isLatched f = true ∨ (f = .configFault ∧ found ≠ [])) ∧
    s.changesOnly w [.config, .flags, .notices, .counters] ∧
    t.config = w.config ∧ t.isLatched .configFault = w.isLatched .configFault ∧
    (∀ n, 1 ≤ n → n ≤ 16 → (t.isFaulted n = true ↔ s.isFaulted n = true ∨ differs n)) ∧
    s.changesOnly t [.config, .flags, .notices, .envelope, .gate, .fieldPort, .counters]

/-! ### The envelope and the connection -/

/-- The container factors, the combined factor and the two limits of an evaluation (R69 to R75, R77): the six factors by
the connection state, the zones' stages, the coolant state, the cells hold indication, the config faults and the stop
line; their least; the sums of the strings' limits scaled by it and capped; and every factor within 0 to 1024, given
tables, parameters and fire settings within their ranges;
the limits are zero while the breaker is open, a stop line is active, a table is faulted or the cells hold. A breakpoint
table gives its end values outside its span, and within it the interpolated value, truncated toward zero (R62). A string
that counts has the temperature, SOC and voltage factors of its extremes and its SOC, a faulted table standing at its
default (R63 to R66; the voltage factors take the working T1: log 53), and the limits of its rating by the least of each
direction's; one that does not count has none (R59, R67). The limiting cause is that of the first row of R76 that applies
(log 11 of a string without readings). -/
def Obligations.EnvelopeStaysWithinCapsAndRatings : Prop :=
  (∀ s : State,
    let e := s.evaluation
    let zone := fun z : FireZone =>
      min (match z.stage with
        | .normal | .watch => 1024
        | .preAlarm => s.tables.t13.prealarmFactor
        | .fire | .releaseDelay | .released => 0) (if z.unwatched = true then s.tables.t13.unwatchedFactor else 1024)
    e.fc = min e.fGrid (min e.fFire (min e.fCoolant (min e.fCells (min e.fConfig e.fEstop)))) ∧
    e.fGrid = (if s.conn.state = .connected ∨ s.conn.state = .rideThrough then 1024 else 0) ∧
    e.fFire ≤ 1024 ∧ (∀ z ∈ s.fire.zones, e.fFire ≤ zone z) ∧ (e.fFire = 1024 ∨ ∃ z ∈ s.fire.zones, e.fFire = zone z) ∧
    e.fCoolant = (match s.thermal.coolant with
      | .ok => 1024
      | .degraded => s.params.degradedFactor
      | .lost => s.params.lostFactor) ∧
    e.fCells = (if s.cellsHold = true then 0 else 1024) ∧ e.fConfig = (if true ∈ s.config.faulted then 0 else 1024) ∧
    e.fEstop = (if s.lineIsActive .eStop = true then 0 else 1024) ∧
    e.strings.length = 4 ∧ e.sumChg = (e.strings.map (·.pChg)).sum ∧ e.sumDis = (e.strings.map (·.pDis)).sum ∧
    e.number = (s.envelope.record.number + 1) % 65536 ∧ e.time = s.time ∧
    e.pChgLim = min (e.sumChg * e.fc / 1024) s.tables.t9.importCap ∧
    e.pDisLim = min (e.sumDis * e.fc / 1024) s.tables.t9.exportCap ∧
    e.pChgLim ≤ e.ratingSum ∧ e.pDisLim ≤ e.ratingSum ∧
    e.ratingSum = (((List.range 4).filter s.stringCounts).map fun i => (s.stringEntry i).ratedKw).sum ∧
    ((∀ i < 4, s.stringCounts i = false) → e.pChgLim = 0 ∧ e.pDisLim = 0) ∧
    (s.conn.state ≠ .connected ∧ s.conn.state ≠ .rideThrough ∨ s.anyConfirmed = true ∨ s.cellsHold = true ∨
      s.anyFault = true ∨ s.lineIsActive .eStop = true → e.pChgLim = 0 ∧ e.pDisLim = 0) ∧
    (TableContents.valid (.t3 s.tables.t3) = true → TableContents.valid (.t4 s.tables.t4) = true →
      TableContents.valid (.t5 s.tables.t5) = true → TableContents.valid (.t6 s.tables.t6) = true →
      s.tables.t13.prealarmFactor ≤ 1024 → s.tables.t13.unwatchedFactor ≤ 1024 → s.params.degradedFactor ≤ 1024 →
      s.params.lostFactor ≤ 1024 →
      e.fc ≤ 1024 ∧ e.fGrid ≤ 1024 ∧ e.fFire ≤ 1024 ∧ e.fCoolant ≤ 1024 ∧ e.fCells ≤ 1024 ∧ e.fConfig ≤ 1024 ∧
      e.fEstop ≤ 1024 ∧ ∀ x ∈ e.strings, x.ftChg ≤ 1024 ∧ x.ftDis ≤ 1024 ∧ x.fsocChg ≤ 1024 ∧ x.fsocDis ≤ 1024 ∧
        x.fvChg ≤ 1024 ∧ x.fvDis ≤ 1024 ∧ x.fChg ≤ 1024 ∧ x.fDis ≤ 1024)) ∧
  (∀ (c : Curve) (x : Int), c.Pairwise (fun p q => p.1 < q.1) →
    (∀ x1 y1 rest, c = (x1, y1) :: rest → x ≤ x1 → c.at x = y1) ∧
    (∀ before xn yn, c = before ++ [(xn, yn)] → xn ≤ x → c.at x = yn) ∧
    (∀ before after xi yi xj yj, c = before ++ (xi, yi) :: (xj, yj) :: after → xi ≤ x → x < xj →
      c.at x = yi + ((yj - yi) * (x - xi)).tdiv (xj - xi))) ∧
  (∀ (s : State) (i : Nat) (x : StringEnvelope), s.evaluation.strings[i]? = some x →
    let r := s.stringAt i
    let t := s.tables
    let counts := (s.stringEntry i).inUse = true ∧ r.state = .inService
    let inForce := fun (n : Nat) (working default : Curve) =>
      if s.config.faulted.getD (n - 1) false = true then default else working
    let t3 := inForce 3 t.t3 [(-80, 0), (250, 0)]
    let t4 := inForce 4 t.t4 [(-80, 0), (250, 0)]
    let soc := fun c : Curve =>
      if r.charge.uncalibrated = true then min (c.at r.charge.soc).toNat s.params.uncalFactor
      else (c.at r.charge.soc).toNat
    i < 4 ∧ (x.counts = true ↔ counts) ∧ (¬counts → x = ⟨false, 0, 0, 0, 0, 0, 0, 0, 0, 0, 0⟩) ∧
    (counts →
      (∀ hi lo, r.extremes.tMax = some hi → r.extremes.tMin = some lo →
        x.ftChg = min (t3.at hi).toNat (t3.at lo).toNat ∧ x.ftDis = min (t4.at hi).toNat (t4.at lo).toNat) ∧
      (r.extremes.tMax = none ∨ r.extremes.tMin = none → x.ftChg = 0 ∧ x.ftDis = 0) ∧
      x.fsocChg = soc (inForce 5 t.t5 [(0, 0), (1024, 0)]) ∧ x.fsocDis = soc (inForce 6 t.t6 [(0, 0), (1024, 0)]) ∧
      (r.extremes.vMax = none → x.fvChg = 0) ∧ (r.extremes.vMin = none → x.fvDis = 0) ∧
      (∀ v k, r.extremes.vMax = some (v, k) → x.fvChg =
        if v ≤ t.t1.maxWarn then 1024 else if t.t1.maxHard ≤ v then 0
        else 1024 * (t.t1.maxHard - v) / (t.t1.maxHard - t.t1.maxWarn)) ∧
      (∀ v k, r.extremes.vMin = some (v, k) → x.fvDis =
        if t.t1.minWarn ≤ v then 1024 else if v ≤ t.t1.minHard then 0
        else 1024 * (v - t.t1.minHard) / (t.t1.minWarn - t.t1.minHard)) ∧
      x.fChg = min x.ftChg (min x.fsocChg x.fvChg) ∧ x.fDis = min x.ftDis (min x.fsocDis x.fvDis) ∧
      x.pChg = (s.stringEntry i).ratedKw * x.fChg / 1024 ∧ x.pDis = (s.stringEntry i).ratedKw * x.fDis / 1024)) ∧
  (∀ s : State,
    let e := s.evaluation
    let x := fun i : Nat => e.strings.getD i .zero
    let any := ∃ i < 4, s.stringCounts i = true
    let container : ContainerFactor :=
      if e.fGrid = e.fc then .grid else if e.fFire = e.fc then .fire else if e.fCoolant = e.fc then .coolant
      else if e.fCells = e.fc then .cells else if e.fConfig = e.fc then .config else .eStop
    let named := fun (i ft fsoc f : Nat) =>
      let y := (s.stringAt i).extremes
      LimitCause.string i (if y.vMax = none ∧ y.vMin = none ∧ y.tMax = none ∧ y.tMin = none then .noReadings
        else if ft = f then .temperature else if fsoc = f then .soc else .voltage)
    let causes := fun (cause capCause : LimitCause) (limit sum cap : Nat) (p f ft fsoc : Nat → Nat) =>
      (¬any → cause = .noString) ∧
      (any → limit = e.ratingSum → cause = .none) ∧
      (any → limit ≠ e.ratingSum → cap < sum * e.fc / 1024 → cause = capCause) ∧
      (any → limit ≠ e.ratingSum → sum * e.fc / 1024 ≤ cap → e.fc < 1024 → cause = .container container) ∧
      (∀ i < 4, limit ≠ e.ratingSum → sum * e.fc / 1024 ≤ cap → 1024 ≤ e.fc →
        s.stringCounts i = true → p i < (s.stringEntry i).ratedKw →
        (∀ j < 4, s.stringCounts j = true → p j < (s.stringEntry j).ratedKw → f i < f j ∨ (f i = f j ∧ i ≤ j)) →
        cause = named i (ft i) (fsoc i) (f i))
    causes e.causeChg .importCap e.pChgLim e.sumChg s.tables.t9.importCap (fun i => (x i).pChg) (fun i => (x i).fChg)
      (fun i => (x i).ftChg) (fun i => (x i).fsocChg) ∧
    causes e.causeDis .exportCap e.pDisLim e.sumDis s.tables.t9.exportCap (fun i => (x i).pDis) (fun i => (x i).fDis)
      (fun i => (x i).ftDis) (fun i => (x i).fsocDis))

/-- A trip cause opens a closed or closing breaker: the history gains it, TRIP_OUT is pulsed, the target is OPEN_LOCKED
where the cause locks or the history is full, in which case the lockout becomes FIRE, WELDED or HISTORY, but one already
held is kept except that FIRE or WELDED replaces HISTORY, and flag LOCKOUT latches; CONNECTION_TRIPPED is raised, with the
stage index as its subject for STAGE, and an evaluation follows (R110); in the other states it moves the connection as the
table of R111 says, with flag LOCKOUT where the lockout is set as R110 gives, and with an evaluation where the state
changes, and raises no notice of its own. -/
def Obligations.TripCauseOpensTheBreaker : Prop :=
  ∀ (s : State) (c : TripCause),
    let t := s.trip c
    let kept := s.conn.history.filter fun h => decide ((s.time - h.time).toNat < s.tables.t9.tripWindow * 1000)
    let full := s.tables.t9.tripLimit ≤ kept.length + 1
    let locked := (s.latch .lockout).flags
    let locks := c = .fire ∨ c = .welded
    let lockout : Lockout := if c = .fire then .fire else if c = .welded then .welded else .history
    let held := s.conn.lockout
    let taken := if held = .none ∨ (held = .history ∧ lockout ≠ .history) then lockout else held
    let subject := match c with
      | .stage i => some i
      | .fire | .welded | .eStop | .pcsOvershoot | .meterLost | .disconnect | .external | .enforces _ => none
    ((s.conn.state = .connected ∨ s.conn.state = .rideThrough ∨ s.conn.state = .closing) →
      t.conn = { s.conn with
        state := .opening, tripCause := some c, history := kept ++ [⟨s.time, c⟩], reconnectEnd := none
        target := some (if locks ∨ full then .openLocked else .openWait)
        lockout :=
          if locks ∨ full then taken else held
        tripOut := some (s.time + BitVec.ofNat 32 s.tables.t9.tripPulse), closeOut := none
        breakerEnd := some (s.time + BitVec.ofNat 32 s.tables.t9.openTimeout) } ∧
      t.counters.trips = inc16 s.counters.trips ∧
      t.flags = (if locks ∨ full then locked else s.flags) ∧
      t = ((((s.setConn t.conn).setCounters { s.counters with trips := inc16 s.counters.trips }).setFlags t.flags).raise
        .connectionTripped subject).changeEval) ∧
    (s.conn.state = .opening → t = (if locks then (s.setConn t.conn).setFlags locked else s)) ∧
    (s.conn.state = .openWait → t = (if locks then ((s.setConn t.conn).setFlags locked).changeEval else s)) ∧
    (s.conn.state = .reconnectTiming →
      t = (if locks then (s.setConn t.conn).setFlags locked else s.setConn t.conn).changeEval) ∧
    (s.conn.state = .openLocked → t = s.setConn t.conn) ∧
    (s.conn.state = .opening → t.conn = (if locks then
      { s.conn with target := some .openLocked, lockout := taken } else s.conn)) ∧
    (s.conn.state = .openWait → t.conn = (if locks then
      { s.conn with state := .openLocked, lockout := taken } else s.conn)) ∧
    (s.conn.state = .reconnectTiming → t.conn = (if locks then
      { s.conn with reconnectEnd := none, state := .openLocked, lockout := taken }
      else { s.conn with reconnectEnd := none, state := .openWait })) ∧
    (s.conn.state = .openLocked → t.conn = (if locks ∧ held = .history then
      { s.conn with lockout := lockout } else s.conn)) ∧
    s.changesOnly t [.conn, .flags, .notices, .counters, .envelope, .gate, .fieldPort]
end

