-- ==== Sys2Proof/Laws/State.lean ====
section
/-! SUPPORT. One lemma per field of `State` per update of one field, each true by `rfl`. -/

namespace Sys2Proof.Machine

variable (s : State)

/-! ### `setPending` -/

@[simp] theorem State.setPending_pending (x : List Instr) : (s.setPending x).pending = x := rfl
@[simp] theorem State.setPending_time (x : List Instr) : (s.setPending x).time = s.time := rfl
@[simp] theorem State.setPending_sys (x : List Instr) : (s.setPending x).sys = s.sys := rfl
@[simp] theorem State.setPending_rounds (x : List Instr) : (s.setPending x).rounds = s.rounds := rfl
@[simp] theorem State.setPending_modules (x : List Instr) : (s.setPending x).modules = s.modules := rfl
@[simp] theorem State.setPending_strings (x : List Instr) : (s.setPending x).strings = s.strings := rfl
@[simp] theorem State.setPending_cellsHold (x : List Instr) : (s.setPending x).cellsHold = s.cellsHold := rfl
@[simp] theorem State.setPending_limits (x : List Instr) : (s.setPending x).limits = s.limits := rfl
@[simp] theorem State.setPending_envelope (x : List Instr) : (s.setPending x).envelope = s.envelope := rfl
@[simp] theorem State.setPending_gate (x : List Instr) : (s.setPending x).gate = s.gate := rfl
@[simp] theorem State.setPending_grid (x : List Instr) : (s.setPending x).grid = s.grid := rfl
@[simp] theorem State.setPending_conn (x : List Instr) : (s.setPending x).conn = s.conn := rfl
@[simp] theorem State.setPending_thermal (x : List Instr) : (s.setPending x).thermal = s.thermal := rfl
@[simp] theorem State.setPending_fire (x : List Instr) : (s.setPending x).fire = s.fire := rfl
@[simp] theorem State.setPending_nodes (x : List Instr) : (s.setPending x).nodes = s.nodes := rfl
@[simp] theorem State.setPending_fieldPort (x : List Instr) : (s.setPending x).fieldPort = s.fieldPort := rfl
@[simp] theorem State.setPending_stationPort (x : List Instr) : (s.setPending x).stationPort = s.stationPort := rfl
@[simp] theorem State.setPending_engine (x : List Instr) : (s.setPending x).engine = s.engine := rfl
@[simp] theorem State.setPending_notices (x : List Instr) : (s.setPending x).notices = s.notices := rfl
@[simp] theorem State.setPending_flags (x : List Instr) : (s.setPending x).flags = s.flags := rfl
@[simp] theorem State.setPending_config (x : List Instr) : (s.setPending x).config = s.config := rfl
@[simp] theorem State.setPending_image (x : List Instr) : (s.setPending x).image = s.image := rfl
@[simp] theorem State.setPending_lines (x : List Instr) : (s.setPending x).lines = s.lines := rfl
@[simp] theorem State.setPending_supply (x : List Instr) : (s.setPending x).supply = s.supply := rfl
@[simp] theorem State.setPending_counters (x : List Instr) : (s.setPending x).counters = s.counters := rfl
@[simp] theorem State.setPending_choices (x : List Instr) : (s.setPending x).choices = s.choices := rfl

/-! ### `setTime` -/

@[simp] theorem State.setTime_pending (x : PartTime) : (s.setTime x).pending = s.pending := rfl
@[simp] theorem State.setTime_time (x : PartTime) : (s.setTime x).time = x := rfl
@[simp] theorem State.setTime_sys (x : PartTime) : (s.setTime x).sys = s.sys := rfl
@[simp] theorem State.setTime_rounds (x : PartTime) : (s.setTime x).rounds = s.rounds := rfl
@[simp] theorem State.setTime_modules (x : PartTime) : (s.setTime x).modules = s.modules := rfl
@[simp] theorem State.setTime_strings (x : PartTime) : (s.setTime x).strings = s.strings := rfl
@[simp] theorem State.setTime_cellsHold (x : PartTime) : (s.setTime x).cellsHold = s.cellsHold := rfl
@[simp] theorem State.setTime_limits (x : PartTime) : (s.setTime x).limits = s.limits := rfl
@[simp] theorem State.setTime_envelope (x : PartTime) : (s.setTime x).envelope = s.envelope := rfl
@[simp] theorem State.setTime_gate (x : PartTime) : (s.setTime x).gate = s.gate := rfl
@[simp] theorem State.setTime_grid (x : PartTime) : (s.setTime x).grid = s.grid := rfl
@[simp] theorem State.setTime_conn (x : PartTime) : (s.setTime x).conn = s.conn := rfl
@[simp] theorem State.setTime_thermal (x : PartTime) : (s.setTime x).thermal = s.thermal := rfl
@[simp] theorem State.setTime_fire (x : PartTime) : (s.setTime x).fire = s.fire := rfl
@[simp] theorem State.setTime_nodes (x : PartTime) : (s.setTime x).nodes = s.nodes := rfl
@[simp] theorem State.setTime_fieldPort (x : PartTime) : (s.setTime x).fieldPort = s.fieldPort := rfl
@[simp] theorem State.setTime_stationPort (x : PartTime) : (s.setTime x).stationPort = s.stationPort := rfl
@[simp] theorem State.setTime_engine (x : PartTime) : (s.setTime x).engine = s.engine := rfl
@[simp] theorem State.setTime_notices (x : PartTime) : (s.setTime x).notices = s.notices := rfl
@[simp] theorem State.setTime_flags (x : PartTime) : (s.setTime x).flags = s.flags := rfl
@[simp] theorem State.setTime_config (x : PartTime) : (s.setTime x).config = s.config := rfl
@[simp] theorem State.setTime_image (x : PartTime) : (s.setTime x).image = s.image := rfl
@[simp] theorem State.setTime_lines (x : PartTime) : (s.setTime x).lines = s.lines := rfl
@[simp] theorem State.setTime_supply (x : PartTime) : (s.setTime x).supply = s.supply := rfl
@[simp] theorem State.setTime_counters (x : PartTime) : (s.setTime x).counters = s.counters := rfl
@[simp] theorem State.setTime_choices (x : PartTime) : (s.setTime x).choices = s.choices := rfl

/-! ### `setSys` -/

@[simp] theorem State.setSys_pending (x : Sys) : (s.setSys x).pending = s.pending := rfl
@[simp] theorem State.setSys_time (x : Sys) : (s.setSys x).time = s.time := rfl
@[simp] theorem State.setSys_sys (x : Sys) : (s.setSys x).sys = x := rfl
@[simp] theorem State.setSys_rounds (x : Sys) : (s.setSys x).rounds = s.rounds := rfl
@[simp] theorem State.setSys_modules (x : Sys) : (s.setSys x).modules = s.modules := rfl
@[simp] theorem State.setSys_strings (x : Sys) : (s.setSys x).strings = s.strings := rfl
@[simp] theorem State.setSys_cellsHold (x : Sys) : (s.setSys x).cellsHold = s.cellsHold := rfl
@[simp] theorem State.setSys_limits (x : Sys) : (s.setSys x).limits = s.limits := rfl
@[simp] theorem State.setSys_envelope (x : Sys) : (s.setSys x).envelope = s.envelope := rfl
@[simp] theorem State.setSys_gate (x : Sys) : (s.setSys x).gate = s.gate := rfl
@[simp] theorem State.setSys_grid (x : Sys) : (s.setSys x).grid = s.grid := rfl
@[simp] theorem State.setSys_conn (x : Sys) : (s.setSys x).conn = s.conn := rfl
@[simp] theorem State.setSys_thermal (x : Sys) : (s.setSys x).thermal = s.thermal := rfl
@[simp] theorem State.setSys_fire (x : Sys) : (s.setSys x).fire = s.fire := rfl
@[simp] theorem State.setSys_nodes (x : Sys) : (s.setSys x).nodes = s.nodes := rfl
@[simp] theorem State.setSys_fieldPort (x : Sys) : (s.setSys x).fieldPort = s.fieldPort := rfl
@[simp] theorem State.setSys_stationPort (x : Sys) : (s.setSys x).stationPort = s.stationPort := rfl
@[simp] theorem State.setSys_engine (x : Sys) : (s.setSys x).engine = s.engine := rfl
@[simp] theorem State.setSys_notices (x : Sys) : (s.setSys x).notices = s.notices := rfl
@[simp] theorem State.setSys_flags (x : Sys) : (s.setSys x).flags = s.flags := rfl
@[simp] theorem State.setSys_config (x : Sys) : (s.setSys x).config = s.config := rfl
@[simp] theorem State.setSys_image (x : Sys) : (s.setSys x).image = s.image := rfl
@[simp] theorem State.setSys_lines (x : Sys) : (s.setSys x).lines = s.lines := rfl
@[simp] theorem State.setSys_supply (x : Sys) : (s.setSys x).supply = s.supply := rfl
@[simp] theorem State.setSys_counters (x : Sys) : (s.setSys x).counters = s.counters := rfl
@[simp] theorem State.setSys_choices (x : Sys) : (s.setSys x).choices = s.choices := rfl

/-! ### `setRounds` -/

@[simp] theorem State.setRounds_pending (x : Rounds) : (s.setRounds x).pending = s.pending := rfl
@[simp] theorem State.setRounds_time (x : Rounds) : (s.setRounds x).time = s.time := rfl
@[simp] theorem State.setRounds_sys (x : Rounds) : (s.setRounds x).sys = s.sys := rfl
@[simp] theorem State.setRounds_rounds (x : Rounds) : (s.setRounds x).rounds = x := rfl
@[simp] theorem State.setRounds_modules (x : Rounds) : (s.setRounds x).modules = s.modules := rfl
@[simp] theorem State.setRounds_strings (x : Rounds) : (s.setRounds x).strings = s.strings := rfl
@[simp] theorem State.setRounds_cellsHold (x : Rounds) : (s.setRounds x).cellsHold = s.cellsHold := rfl
@[simp] theorem State.setRounds_limits (x : Rounds) : (s.setRounds x).limits = s.limits := rfl
@[simp] theorem State.setRounds_envelope (x : Rounds) : (s.setRounds x).envelope = s.envelope := rfl
@[simp] theorem State.setRounds_gate (x : Rounds) : (s.setRounds x).gate = s.gate := rfl
@[simp] theorem State.setRounds_grid (x : Rounds) : (s.setRounds x).grid = s.grid := rfl
@[simp] theorem State.setRounds_conn (x : Rounds) : (s.setRounds x).conn = s.conn := rfl
@[simp] theorem State.setRounds_thermal (x : Rounds) : (s.setRounds x).thermal = s.thermal := rfl
@[simp] theorem State.setRounds_fire (x : Rounds) : (s.setRounds x).fire = s.fire := rfl
@[simp] theorem State.setRounds_nodes (x : Rounds) : (s.setRounds x).nodes = s.nodes := rfl
@[simp] theorem State.setRounds_fieldPort (x : Rounds) : (s.setRounds x).fieldPort = s.fieldPort := rfl
@[simp] theorem State.setRounds_stationPort (x : Rounds) : (s.setRounds x).stationPort = s.stationPort := rfl
@[simp] theorem State.setRounds_engine (x : Rounds) : (s.setRounds x).engine = s.engine := rfl
@[simp] theorem State.setRounds_notices (x : Rounds) : (s.setRounds x).notices = s.notices := rfl
@[simp] theorem State.setRounds_flags (x : Rounds) : (s.setRounds x).flags = s.flags := rfl
@[simp] theorem State.setRounds_config (x : Rounds) : (s.setRounds x).config = s.config := rfl
@[simp] theorem State.setRounds_image (x : Rounds) : (s.setRounds x).image = s.image := rfl
@[simp] theorem State.setRounds_lines (x : Rounds) : (s.setRounds x).lines = s.lines := rfl
@[simp] theorem State.setRounds_supply (x : Rounds) : (s.setRounds x).supply = s.supply := rfl
@[simp] theorem State.setRounds_counters (x : Rounds) : (s.setRounds x).counters = s.counters := rfl
@[simp] theorem State.setRounds_choices (x : Rounds) : (s.setRounds x).choices = s.choices := rfl

/-! ### `setModules` -/

@[simp] theorem State.setModules_pending (x : List ModuleRec) : (s.setModules x).pending = s.pending := rfl
@[simp] theorem State.setModules_time (x : List ModuleRec) : (s.setModules x).time = s.time := rfl
@[simp] theorem State.setModules_sys (x : List ModuleRec) : (s.setModules x).sys = s.sys := rfl
@[simp] theorem State.setModules_rounds (x : List ModuleRec) : (s.setModules x).rounds = s.rounds := rfl
@[simp] theorem State.setModules_modules (x : List ModuleRec) : (s.setModules x).modules = x := rfl
@[simp] theorem State.setModules_strings (x : List ModuleRec) : (s.setModules x).strings = s.strings := rfl
@[simp] theorem State.setModules_cellsHold (x : List ModuleRec) : (s.setModules x).cellsHold = s.cellsHold := rfl
@[simp] theorem State.setModules_limits (x : List ModuleRec) : (s.setModules x).limits = s.limits := rfl
@[simp] theorem State.setModules_envelope (x : List ModuleRec) : (s.setModules x).envelope = s.envelope := rfl
@[simp] theorem State.setModules_gate (x : List ModuleRec) : (s.setModules x).gate = s.gate := rfl
@[simp] theorem State.setModules_grid (x : List ModuleRec) : (s.setModules x).grid = s.grid := rfl
@[simp] theorem State.setModules_conn (x : List ModuleRec) : (s.setModules x).conn = s.conn := rfl
@[simp] theorem State.setModules_thermal (x : List ModuleRec) : (s.setModules x).thermal = s.thermal := rfl
@[simp] theorem State.setModules_fire (x : List ModuleRec) : (s.setModules x).fire = s.fire := rfl
@[simp] theorem State.setModules_nodes (x : List ModuleRec) : (s.setModules x).nodes = s.nodes := rfl
@[simp] theorem State.setModules_fieldPort (x : List ModuleRec) : (s.setModules x).fieldPort = s.fieldPort := rfl
@[simp] theorem State.setModules_stationPort (x : List ModuleRec) : (s.setModules x).stationPort = s.stationPort := rfl
@[simp] theorem State.setModules_engine (x : List ModuleRec) : (s.setModules x).engine = s.engine := rfl
@[simp] theorem State.setModules_notices (x : List ModuleRec) : (s.setModules x).notices = s.notices := rfl
@[simp] theorem State.setModules_flags (x : List ModuleRec) : (s.setModules x).flags = s.flags := rfl
@[simp] theorem State.setModules_config (x : List ModuleRec) : (s.setModules x).config = s.config := rfl
@[simp] theorem State.setModules_image (x : List ModuleRec) : (s.setModules x).image = s.image := rfl
@[simp] theorem State.setModules_lines (x : List ModuleRec) : (s.setModules x).lines = s.lines := rfl
@[simp] theorem State.setModules_supply (x : List ModuleRec) : (s.setModules x).supply = s.supply := rfl
@[simp] theorem State.setModules_counters (x : List ModuleRec) : (s.setModules x).counters = s.counters := rfl
@[simp] theorem State.setModules_choices (x : List ModuleRec) : (s.setModules x).choices = s.choices := rfl

/-! ### `setStrings` -/

@[simp] theorem State.setStrings_pending (x : List StringRec) : (s.setStrings x).pending = s.pending := rfl
@[simp] theorem State.setStrings_time (x : List StringRec) : (s.setStrings x).time = s.time := rfl
@[simp] theorem State.setStrings_sys (x : List StringRec) : (s.setStrings x).sys = s.sys := rfl
@[simp] theorem State.setStrings_rounds (x : List StringRec) : (s.setStrings x).rounds = s.rounds := rfl
@[simp] theorem State.setStrings_modules (x : List StringRec) : (s.setStrings x).modules = s.modules := rfl
@[simp] theorem State.setStrings_strings (x : List StringRec) : (s.setStrings x).strings = x := rfl
@[simp] theorem State.setStrings_cellsHold (x : List StringRec) : (s.setStrings x).cellsHold = s.cellsHold := rfl
@[simp] theorem State.setStrings_limits (x : List StringRec) : (s.setStrings x).limits = s.limits := rfl
@[simp] theorem State.setStrings_envelope (x : List StringRec) : (s.setStrings x).envelope = s.envelope := rfl
@[simp] theorem State.setStrings_gate (x : List StringRec) : (s.setStrings x).gate = s.gate := rfl
@[simp] theorem State.setStrings_grid (x : List StringRec) : (s.setStrings x).grid = s.grid := rfl
@[simp] theorem State.setStrings_conn (x : List StringRec) : (s.setStrings x).conn = s.conn := rfl
@[simp] theorem State.setStrings_thermal (x : List StringRec) : (s.setStrings x).thermal = s.thermal := rfl
@[simp] theorem State.setStrings_fire (x : List StringRec) : (s.setStrings x).fire = s.fire := rfl
@[simp] theorem State.setStrings_nodes (x : List StringRec) : (s.setStrings x).nodes = s.nodes := rfl
@[simp] theorem State.setStrings_fieldPort (x : List StringRec) : (s.setStrings x).fieldPort = s.fieldPort := rfl
@[simp] theorem State.setStrings_stationPort (x : List StringRec) : (s.setStrings x).stationPort = s.stationPort := rfl
@[simp] theorem State.setStrings_engine (x : List StringRec) : (s.setStrings x).engine = s.engine := rfl
@[simp] theorem State.setStrings_notices (x : List StringRec) : (s.setStrings x).notices = s.notices := rfl
@[simp] theorem State.setStrings_flags (x : List StringRec) : (s.setStrings x).flags = s.flags := rfl
@[simp] theorem State.setStrings_config (x : List StringRec) : (s.setStrings x).config = s.config := rfl
@[simp] theorem State.setStrings_image (x : List StringRec) : (s.setStrings x).image = s.image := rfl
@[simp] theorem State.setStrings_lines (x : List StringRec) : (s.setStrings x).lines = s.lines := rfl
@[simp] theorem State.setStrings_supply (x : List StringRec) : (s.setStrings x).supply = s.supply := rfl
@[simp] theorem State.setStrings_counters (x : List StringRec) : (s.setStrings x).counters = s.counters := rfl
@[simp] theorem State.setStrings_choices (x : List StringRec) : (s.setStrings x).choices = s.choices := rfl

/-! ### `setCellsHold` -/

@[simp] theorem State.setCellsHold_pending (x : Bool) : (s.setCellsHold x).pending = s.pending := rfl
@[simp] theorem State.setCellsHold_time (x : Bool) : (s.setCellsHold x).time = s.time := rfl
@[simp] theorem State.setCellsHold_sys (x : Bool) : (s.setCellsHold x).sys = s.sys := rfl
@[simp] theorem State.setCellsHold_rounds (x : Bool) : (s.setCellsHold x).rounds = s.rounds := rfl
@[simp] theorem State.setCellsHold_modules (x : Bool) : (s.setCellsHold x).modules = s.modules := rfl
@[simp] theorem State.setCellsHold_strings (x : Bool) : (s.setCellsHold x).strings = s.strings := rfl
@[simp] theorem State.setCellsHold_cellsHold (x : Bool) : (s.setCellsHold x).cellsHold = x := rfl
@[simp] theorem State.setCellsHold_limits (x : Bool) : (s.setCellsHold x).limits = s.limits := rfl
@[simp] theorem State.setCellsHold_envelope (x : Bool) : (s.setCellsHold x).envelope = s.envelope := rfl
@[simp] theorem State.setCellsHold_gate (x : Bool) : (s.setCellsHold x).gate = s.gate := rfl
@[simp] theorem State.setCellsHold_grid (x : Bool) : (s.setCellsHold x).grid = s.grid := rfl
@[simp] theorem State.setCellsHold_conn (x : Bool) : (s.setCellsHold x).conn = s.conn := rfl
@[simp] theorem State.setCellsHold_thermal (x : Bool) : (s.setCellsHold x).thermal = s.thermal := rfl
@[simp] theorem State.setCellsHold_fire (x : Bool) : (s.setCellsHold x).fire = s.fire := rfl
@[simp] theorem State.setCellsHold_nodes (x : Bool) : (s.setCellsHold x).nodes = s.nodes := rfl
@[simp] theorem State.setCellsHold_fieldPort (x : Bool) : (s.setCellsHold x).fieldPort = s.fieldPort := rfl
@[simp] theorem State.setCellsHold_stationPort (x : Bool) : (s.setCellsHold x).stationPort = s.stationPort := rfl
@[simp] theorem State.setCellsHold_engine (x : Bool) : (s.setCellsHold x).engine = s.engine := rfl
@[simp] theorem State.setCellsHold_notices (x : Bool) : (s.setCellsHold x).notices = s.notices := rfl
@[simp] theorem State.setCellsHold_flags (x : Bool) : (s.setCellsHold x).flags = s.flags := rfl
@[simp] theorem State.setCellsHold_config (x : Bool) : (s.setCellsHold x).config = s.config := rfl
@[simp] theorem State.setCellsHold_image (x : Bool) : (s.setCellsHold x).image = s.image := rfl
@[simp] theorem State.setCellsHold_lines (x : Bool) : (s.setCellsHold x).lines = s.lines := rfl
@[simp] theorem State.setCellsHold_supply (x : Bool) : (s.setCellsHold x).supply = s.supply := rfl
@[simp] theorem State.setCellsHold_counters (x : Bool) : (s.setCellsHold x).counters = s.counters := rfl
@[simp] theorem State.setCellsHold_choices (x : Bool) : (s.setCellsHold x).choices = s.choices := rfl

/-! ### `setLimits` -/

@[simp] theorem State.setLimits_pending (x : CloseLimits) : (s.setLimits x).pending = s.pending := rfl
@[simp] theorem State.setLimits_time (x : CloseLimits) : (s.setLimits x).time = s.time := rfl
@[simp] theorem State.setLimits_sys (x : CloseLimits) : (s.setLimits x).sys = s.sys := rfl
@[simp] theorem State.setLimits_rounds (x : CloseLimits) : (s.setLimits x).rounds = s.rounds := rfl
@[simp] theorem State.setLimits_modules (x : CloseLimits) : (s.setLimits x).modules = s.modules := rfl
@[simp] theorem State.setLimits_strings (x : CloseLimits) : (s.setLimits x).strings = s.strings := rfl
@[simp] theorem State.setLimits_cellsHold (x : CloseLimits) : (s.setLimits x).cellsHold = s.cellsHold := rfl
@[simp] theorem State.setLimits_limits (x : CloseLimits) : (s.setLimits x).limits = x := rfl
@[simp] theorem State.setLimits_envelope (x : CloseLimits) : (s.setLimits x).envelope = s.envelope := rfl
@[simp] theorem State.setLimits_gate (x : CloseLimits) : (s.setLimits x).gate = s.gate := rfl
@[simp] theorem State.setLimits_grid (x : CloseLimits) : (s.setLimits x).grid = s.grid := rfl
@[simp] theorem State.setLimits_conn (x : CloseLimits) : (s.setLimits x).conn = s.conn := rfl
@[simp] theorem State.setLimits_thermal (x : CloseLimits) : (s.setLimits x).thermal = s.thermal := rfl
@[simp] theorem State.setLimits_fire (x : CloseLimits) : (s.setLimits x).fire = s.fire := rfl
@[simp] theorem State.setLimits_nodes (x : CloseLimits) : (s.setLimits x).nodes = s.nodes := rfl
@[simp] theorem State.setLimits_fieldPort (x : CloseLimits) : (s.setLimits x).fieldPort = s.fieldPort := rfl
@[simp] theorem State.setLimits_stationPort (x : CloseLimits) : (s.setLimits x).stationPort = s.stationPort := rfl
@[simp] theorem State.setLimits_engine (x : CloseLimits) : (s.setLimits x).engine = s.engine := rfl
@[simp] theorem State.setLimits_notices (x : CloseLimits) : (s.setLimits x).notices = s.notices := rfl
@[simp] theorem State.setLimits_flags (x : CloseLimits) : (s.setLimits x).flags = s.flags := rfl
@[simp] theorem State.setLimits_config (x : CloseLimits) : (s.setLimits x).config = s.config := rfl
@[simp] theorem State.setLimits_image (x : CloseLimits) : (s.setLimits x).image = s.image := rfl
@[simp] theorem State.setLimits_lines (x : CloseLimits) : (s.setLimits x).lines = s.lines := rfl
@[simp] theorem State.setLimits_supply (x : CloseLimits) : (s.setLimits x).supply = s.supply := rfl
@[simp] theorem State.setLimits_counters (x : CloseLimits) : (s.setLimits x).counters = s.counters := rfl
@[simp] theorem State.setLimits_choices (x : CloseLimits) : (s.setLimits x).choices = s.choices := rfl

/-! ### `setEnvelope` -/

@[simp] theorem State.setEnvelope_pending (x : EnvelopeUnit) : (s.setEnvelope x).pending = s.pending := rfl
@[simp] theorem State.setEnvelope_time (x : EnvelopeUnit) : (s.setEnvelope x).time = s.time := rfl
@[simp] theorem State.setEnvelope_sys (x : EnvelopeUnit) : (s.setEnvelope x).sys = s.sys := rfl
@[simp] theorem State.setEnvelope_rounds (x : EnvelopeUnit) : (s.setEnvelope x).rounds = s.rounds := rfl
@[simp] theorem State.setEnvelope_modules (x : EnvelopeUnit) : (s.setEnvelope x).modules = s.modules := rfl
@[simp] theorem State.setEnvelope_strings (x : EnvelopeUnit) : (s.setEnvelope x).strings = s.strings := rfl
@[simp] theorem State.setEnvelope_cellsHold (x : EnvelopeUnit) : (s.setEnvelope x).cellsHold = s.cellsHold := rfl
@[simp] theorem State.setEnvelope_limits (x : EnvelopeUnit) : (s.setEnvelope x).limits = s.limits := rfl
@[simp] theorem State.setEnvelope_envelope (x : EnvelopeUnit) : (s.setEnvelope x).envelope = x := rfl
@[simp] theorem State.setEnvelope_gate (x : EnvelopeUnit) : (s.setEnvelope x).gate = s.gate := rfl
@[simp] theorem State.setEnvelope_grid (x : EnvelopeUnit) : (s.setEnvelope x).grid = s.grid := rfl
@[simp] theorem State.setEnvelope_conn (x : EnvelopeUnit) : (s.setEnvelope x).conn = s.conn := rfl
@[simp] theorem State.setEnvelope_thermal (x : EnvelopeUnit) : (s.setEnvelope x).thermal = s.thermal := rfl
@[simp] theorem State.setEnvelope_fire (x : EnvelopeUnit) : (s.setEnvelope x).fire = s.fire := rfl
@[simp] theorem State.setEnvelope_nodes (x : EnvelopeUnit) : (s.setEnvelope x).nodes = s.nodes := rfl
@[simp] theorem State.setEnvelope_fieldPort (x : EnvelopeUnit) : (s.setEnvelope x).fieldPort = s.fieldPort := rfl
@[simp] theorem State.setEnvelope_stationPort (x : EnvelopeUnit) : (s.setEnvelope x).stationPort = s.stationPort := rfl
@[simp] theorem State.setEnvelope_engine (x : EnvelopeUnit) : (s.setEnvelope x).engine = s.engine := rfl
@[simp] theorem State.setEnvelope_notices (x : EnvelopeUnit) : (s.setEnvelope x).notices = s.notices := rfl
@[simp] theorem State.setEnvelope_flags (x : EnvelopeUnit) : (s.setEnvelope x).flags = s.flags := rfl
@[simp] theorem State.setEnvelope_config (x : EnvelopeUnit) : (s.setEnvelope x).config = s.config := rfl
@[simp] theorem State.setEnvelope_image (x : EnvelopeUnit) : (s.setEnvelope x).image = s.image := rfl
@[simp] theorem State.setEnvelope_lines (x : EnvelopeUnit) : (s.setEnvelope x).lines = s.lines := rfl
@[simp] theorem State.setEnvelope_supply (x : EnvelopeUnit) : (s.setEnvelope x).supply = s.supply := rfl
@[simp] theorem State.setEnvelope_counters (x : EnvelopeUnit) : (s.setEnvelope x).counters = s.counters := rfl
@[simp] theorem State.setEnvelope_choices (x : EnvelopeUnit) : (s.setEnvelope x).choices = s.choices := rfl

/-! ### `setGate` -/

@[simp] theorem State.setGate_pending (x : GateRec) : (s.setGate x).pending = s.pending := rfl
@[simp] theorem State.setGate_time (x : GateRec) : (s.setGate x).time = s.time := rfl
@[simp] theorem State.setGate_sys (x : GateRec) : (s.setGate x).sys = s.sys := rfl
@[simp] theorem State.setGate_rounds (x : GateRec) : (s.setGate x).rounds = s.rounds := rfl
@[simp] theorem State.setGate_modules (x : GateRec) : (s.setGate x).modules = s.modules := rfl
@[simp] theorem State.setGate_strings (x : GateRec) : (s.setGate x).strings = s.strings := rfl
@[simp] theorem State.setGate_cellsHold (x : GateRec) : (s.setGate x).cellsHold = s.cellsHold := rfl
@[simp] theorem State.setGate_limits (x : GateRec) : (s.setGate x).limits = s.limits := rfl
@[simp] theorem State.setGate_envelope (x : GateRec) : (s.setGate x).envelope = s.envelope := rfl
@[simp] theorem State.setGate_gate (x : GateRec) : (s.setGate x).gate = x := rfl
@[simp] theorem State.setGate_grid (x : GateRec) : (s.setGate x).grid = s.grid := rfl
@[simp] theorem State.setGate_conn (x : GateRec) : (s.setGate x).conn = s.conn := rfl
@[simp] theorem State.setGate_thermal (x : GateRec) : (s.setGate x).thermal = s.thermal := rfl
@[simp] theorem State.setGate_fire (x : GateRec) : (s.setGate x).fire = s.fire := rfl
@[simp] theorem State.setGate_nodes (x : GateRec) : (s.setGate x).nodes = s.nodes := rfl
@[simp] theorem State.setGate_fieldPort (x : GateRec) : (s.setGate x).fieldPort = s.fieldPort := rfl
@[simp] theorem State.setGate_stationPort (x : GateRec) : (s.setGate x).stationPort = s.stationPort := rfl
@[simp] theorem State.setGate_engine (x : GateRec) : (s.setGate x).engine = s.engine := rfl
@[simp] theorem State.setGate_notices (x : GateRec) : (s.setGate x).notices = s.notices := rfl
@[simp] theorem State.setGate_flags (x : GateRec) : (s.setGate x).flags = s.flags := rfl
@[simp] theorem State.setGate_config (x : GateRec) : (s.setGate x).config = s.config := rfl
@[simp] theorem State.setGate_image (x : GateRec) : (s.setGate x).image = s.image := rfl
@[simp] theorem State.setGate_lines (x : GateRec) : (s.setGate x).lines = s.lines := rfl
@[simp] theorem State.setGate_supply (x : GateRec) : (s.setGate x).supply = s.supply := rfl
@[simp] theorem State.setGate_counters (x : GateRec) : (s.setGate x).counters = s.counters := rfl
@[simp] theorem State.setGate_choices (x : GateRec) : (s.setGate x).choices = s.choices := rfl

/-! ### `setGrid` -/

@[simp] theorem State.setGrid_pending (x : GridRec) : (s.setGrid x).pending = s.pending := rfl
@[simp] theorem State.setGrid_time (x : GridRec) : (s.setGrid x).time = s.time := rfl
@[simp] theorem State.setGrid_sys (x : GridRec) : (s.setGrid x).sys = s.sys := rfl
@[simp] theorem State.setGrid_rounds (x : GridRec) : (s.setGrid x).rounds = s.rounds := rfl
@[simp] theorem State.setGrid_modules (x : GridRec) : (s.setGrid x).modules = s.modules := rfl
@[simp] theorem State.setGrid_strings (x : GridRec) : (s.setGrid x).strings = s.strings := rfl
@[simp] theorem State.setGrid_cellsHold (x : GridRec) : (s.setGrid x).cellsHold = s.cellsHold := rfl
@[simp] theorem State.setGrid_limits (x : GridRec) : (s.setGrid x).limits = s.limits := rfl
@[simp] theorem State.setGrid_envelope (x : GridRec) : (s.setGrid x).envelope = s.envelope := rfl
@[simp] theorem State.setGrid_gate (x : GridRec) : (s.setGrid x).gate = s.gate := rfl
@[simp] theorem State.setGrid_grid (x : GridRec) : (s.setGrid x).grid = x := rfl
@[simp] theorem State.setGrid_conn (x : GridRec) : (s.setGrid x).conn = s.conn := rfl
@[simp] theorem State.setGrid_thermal (x : GridRec) : (s.setGrid x).thermal = s.thermal := rfl
@[simp] theorem State.setGrid_fire (x : GridRec) : (s.setGrid x).fire = s.fire := rfl
@[simp] theorem State.setGrid_nodes (x : GridRec) : (s.setGrid x).nodes = s.nodes := rfl
@[simp] theorem State.setGrid_fieldPort (x : GridRec) : (s.setGrid x).fieldPort = s.fieldPort := rfl
@[simp] theorem State.setGrid_stationPort (x : GridRec) : (s.setGrid x).stationPort = s.stationPort := rfl
@[simp] theorem State.setGrid_engine (x : GridRec) : (s.setGrid x).engine = s.engine := rfl
@[simp] theorem State.setGrid_notices (x : GridRec) : (s.setGrid x).notices = s.notices := rfl
@[simp] theorem State.setGrid_flags (x : GridRec) : (s.setGrid x).flags = s.flags := rfl
@[simp] theorem State.setGrid_config (x : GridRec) : (s.setGrid x).config = s.config := rfl
@[simp] theorem State.setGrid_image (x : GridRec) : (s.setGrid x).image = s.image := rfl
@[simp] theorem State.setGrid_lines (x : GridRec) : (s.setGrid x).lines = s.lines := rfl
@[simp] theorem State.setGrid_supply (x : GridRec) : (s.setGrid x).supply = s.supply := rfl
@[simp] theorem State.setGrid_counters (x : GridRec) : (s.setGrid x).counters = s.counters := rfl
@[simp] theorem State.setGrid_choices (x : GridRec) : (s.setGrid x).choices = s.choices := rfl

/-! ### `setConn` -/

@[simp] theorem State.setConn_pending (x : ConnRec) : (s.setConn x).pending = s.pending := rfl
@[simp] theorem State.setConn_time (x : ConnRec) : (s.setConn x).time = s.time := rfl
@[simp] theorem State.setConn_sys (x : ConnRec) : (s.setConn x).sys = s.sys := rfl
@[simp] theorem State.setConn_rounds (x : ConnRec) : (s.setConn x).rounds = s.rounds := rfl
@[simp] theorem State.setConn_modules (x : ConnRec) : (s.setConn x).modules = s.modules := rfl
@[simp] theorem State.setConn_strings (x : ConnRec) : (s.setConn x).strings = s.strings := rfl
@[simp] theorem State.setConn_cellsHold (x : ConnRec) : (s.setConn x).cellsHold = s.cellsHold := rfl
@[simp] theorem State.setConn_limits (x : ConnRec) : (s.setConn x).limits = s.limits := rfl
@[simp] theorem State.setConn_envelope (x : ConnRec) : (s.setConn x).envelope = s.envelope := rfl
@[simp] theorem State.setConn_gate (x : ConnRec) : (s.setConn x).gate = s.gate := rfl
@[simp] theorem State.setConn_grid (x : ConnRec) : (s.setConn x).grid = s.grid := rfl
@[simp] theorem State.setConn_conn (x : ConnRec) : (s.setConn x).conn = x := rfl
@[simp] theorem State.setConn_thermal (x : ConnRec) : (s.setConn x).thermal = s.thermal := rfl
@[simp] theorem State.setConn_fire (x : ConnRec) : (s.setConn x).fire = s.fire := rfl
@[simp] theorem State.setConn_nodes (x : ConnRec) : (s.setConn x).nodes = s.nodes := rfl
@[simp] theorem State.setConn_fieldPort (x : ConnRec) : (s.setConn x).fieldPort = s.fieldPort := rfl
@[simp] theorem State.setConn_stationPort (x : ConnRec) : (s.setConn x).stationPort = s.stationPort := rfl
@[simp] theorem State.setConn_engine (x : ConnRec) : (s.setConn x).engine = s.engine := rfl
@[simp] theorem State.setConn_notices (x : ConnRec) : (s.setConn x).notices = s.notices := rfl
@[simp] theorem State.setConn_flags (x : ConnRec) : (s.setConn x).flags = s.flags := rfl
@[simp] theorem State.setConn_config (x : ConnRec) : (s.setConn x).config = s.config := rfl
@[simp] theorem State.setConn_image (x : ConnRec) : (s.setConn x).image = s.image := rfl
@[simp] theorem State.setConn_lines (x : ConnRec) : (s.setConn x).lines = s.lines := rfl
@[simp] theorem State.setConn_supply (x : ConnRec) : (s.setConn x).supply = s.supply := rfl
@[simp] theorem State.setConn_counters (x : ConnRec) : (s.setConn x).counters = s.counters := rfl
@[simp] theorem State.setConn_choices (x : ConnRec) : (s.setConn x).choices = s.choices := rfl

/-! ### `setThermal` -/

@[simp] theorem State.setThermal_pending (x : Thermal) : (s.setThermal x).pending = s.pending := rfl
@[simp] theorem State.setThermal_time (x : Thermal) : (s.setThermal x).time = s.time := rfl
@[simp] theorem State.setThermal_sys (x : Thermal) : (s.setThermal x).sys = s.sys := rfl
@[simp] theorem State.setThermal_rounds (x : Thermal) : (s.setThermal x).rounds = s.rounds := rfl
@[simp] theorem State.setThermal_modules (x : Thermal) : (s.setThermal x).modules = s.modules := rfl
@[simp] theorem State.setThermal_strings (x : Thermal) : (s.setThermal x).strings = s.strings := rfl
@[simp] theorem State.setThermal_cellsHold (x : Thermal) : (s.setThermal x).cellsHold = s.cellsHold := rfl
@[simp] theorem State.setThermal_limits (x : Thermal) : (s.setThermal x).limits = s.limits := rfl
@[simp] theorem State.setThermal_envelope (x : Thermal) : (s.setThermal x).envelope = s.envelope := rfl
@[simp] theorem State.setThermal_gate (x : Thermal) : (s.setThermal x).gate = s.gate := rfl
@[simp] theorem State.setThermal_grid (x : Thermal) : (s.setThermal x).grid = s.grid := rfl
@[simp] theorem State.setThermal_conn (x : Thermal) : (s.setThermal x).conn = s.conn := rfl
@[simp] theorem State.setThermal_thermal (x : Thermal) : (s.setThermal x).thermal = x := rfl
@[simp] theorem State.setThermal_fire (x : Thermal) : (s.setThermal x).fire = s.fire := rfl
@[simp] theorem State.setThermal_nodes (x : Thermal) : (s.setThermal x).nodes = s.nodes := rfl
@[simp] theorem State.setThermal_fieldPort (x : Thermal) : (s.setThermal x).fieldPort = s.fieldPort := rfl
@[simp] theorem State.setThermal_stationPort (x : Thermal) : (s.setThermal x).stationPort = s.stationPort := rfl
@[simp] theorem State.setThermal_engine (x : Thermal) : (s.setThermal x).engine = s.engine := rfl
@[simp] theorem State.setThermal_notices (x : Thermal) : (s.setThermal x).notices = s.notices := rfl
@[simp] theorem State.setThermal_flags (x : Thermal) : (s.setThermal x).flags = s.flags := rfl
@[simp] theorem State.setThermal_config (x : Thermal) : (s.setThermal x).config = s.config := rfl
@[simp] theorem State.setThermal_image (x : Thermal) : (s.setThermal x).image = s.image := rfl
@[simp] theorem State.setThermal_lines (x : Thermal) : (s.setThermal x).lines = s.lines := rfl
@[simp] theorem State.setThermal_supply (x : Thermal) : (s.setThermal x).supply = s.supply := rfl
@[simp] theorem State.setThermal_counters (x : Thermal) : (s.setThermal x).counters = s.counters := rfl
@[simp] theorem State.setThermal_choices (x : Thermal) : (s.setThermal x).choices = s.choices := rfl

/-! ### `setFire` -/

@[simp] theorem State.setFire_pending (x : FireUnit) : (s.setFire x).pending = s.pending := rfl
@[simp] theorem State.setFire_time (x : FireUnit) : (s.setFire x).time = s.time := rfl
@[simp] theorem State.setFire_sys (x : FireUnit) : (s.setFire x).sys = s.sys := rfl
@[simp] theorem State.setFire_rounds (x : FireUnit) : (s.setFire x).rounds = s.rounds := rfl
@[simp] theorem State.setFire_modules (x : FireUnit) : (s.setFire x).modules = s.modules := rfl
@[simp] theorem State.setFire_strings (x : FireUnit) : (s.setFire x).strings = s.strings := rfl
@[simp] theorem State.setFire_cellsHold (x : FireUnit) : (s.setFire x).cellsHold = s.cellsHold := rfl
@[simp] theorem State.setFire_limits (x : FireUnit) : (s.setFire x).limits = s.limits := rfl
@[simp] theorem State.setFire_envelope (x : FireUnit) : (s.setFire x).envelope = s.envelope := rfl
@[simp] theorem State.setFire_gate (x : FireUnit) : (s.setFire x).gate = s.gate := rfl
@[simp] theorem State.setFire_grid (x : FireUnit) : (s.setFire x).grid = s.grid := rfl
@[simp] theorem State.setFire_conn (x : FireUnit) : (s.setFire x).conn = s.conn := rfl
@[simp] theorem State.setFire_thermal (x : FireUnit) : (s.setFire x).thermal = s.thermal := rfl
@[simp] theorem State.setFire_fire (x : FireUnit) : (s.setFire x).fire = x := rfl
@[simp] theorem State.setFire_nodes (x : FireUnit) : (s.setFire x).nodes = s.nodes := rfl
@[simp] theorem State.setFire_fieldPort (x : FireUnit) : (s.setFire x).fieldPort = s.fieldPort := rfl
@[simp] theorem State.setFire_stationPort (x : FireUnit) : (s.setFire x).stationPort = s.stationPort := rfl
@[simp] theorem State.setFire_engine (x : FireUnit) : (s.setFire x).engine = s.engine := rfl
@[simp] theorem State.setFire_notices (x : FireUnit) : (s.setFire x).notices = s.notices := rfl
@[simp] theorem State.setFire_flags (x : FireUnit) : (s.setFire x).flags = s.flags := rfl
@[simp] theorem State.setFire_config (x : FireUnit) : (s.setFire x).config = s.config := rfl
@[simp] theorem State.setFire_image (x : FireUnit) : (s.setFire x).image = s.image := rfl
@[simp] theorem State.setFire_lines (x : FireUnit) : (s.setFire x).lines = s.lines := rfl
@[simp] theorem State.setFire_supply (x : FireUnit) : (s.setFire x).supply = s.supply := rfl
@[simp] theorem State.setFire_counters (x : FireUnit) : (s.setFire x).counters = s.counters := rfl
@[simp] theorem State.setFire_choices (x : FireUnit) : (s.setFire x).choices = s.choices := rfl

/-! ### `setNodes` -/

@[simp] theorem State.setNodes_pending (x : List NodeRec) : (s.setNodes x).pending = s.pending := rfl
@[simp] theorem State.setNodes_time (x : List NodeRec) : (s.setNodes x).time = s.time := rfl
@[simp] theorem State.setNodes_sys (x : List NodeRec) : (s.setNodes x).sys = s.sys := rfl
@[simp] theorem State.setNodes_rounds (x : List NodeRec) : (s.setNodes x).rounds = s.rounds := rfl
@[simp] theorem State.setNodes_modules (x : List NodeRec) : (s.setNodes x).modules = s.modules := rfl
@[simp] theorem State.setNodes_strings (x : List NodeRec) : (s.setNodes x).strings = s.strings := rfl
@[simp] theorem State.setNodes_cellsHold (x : List NodeRec) : (s.setNodes x).cellsHold = s.cellsHold := rfl
@[simp] theorem State.setNodes_limits (x : List NodeRec) : (s.setNodes x).limits = s.limits := rfl
@[simp] theorem State.setNodes_envelope (x : List NodeRec) : (s.setNodes x).envelope = s.envelope := rfl
@[simp] theorem State.setNodes_gate (x : List NodeRec) : (s.setNodes x).gate = s.gate := rfl
@[simp] theorem State.setNodes_grid (x : List NodeRec) : (s.setNodes x).grid = s.grid := rfl
@[simp] theorem State.setNodes_conn (x : List NodeRec) : (s.setNodes x).conn = s.conn := rfl
@[simp] theorem State.setNodes_thermal (x : List NodeRec) : (s.setNodes x).thermal = s.thermal := rfl
@[simp] theorem State.setNodes_fire (x : List NodeRec) : (s.setNodes x).fire = s.fire := rfl
@[simp] theorem State.setNodes_nodes (x : List NodeRec) : (s.setNodes x).nodes = x := rfl
@[simp] theorem State.setNodes_fieldPort (x : List NodeRec) : (s.setNodes x).fieldPort = s.fieldPort := rfl
@[simp] theorem State.setNodes_stationPort (x : List NodeRec) : (s.setNodes x).stationPort = s.stationPort := rfl
@[simp] theorem State.setNodes_engine (x : List NodeRec) : (s.setNodes x).engine = s.engine := rfl
@[simp] theorem State.setNodes_notices (x : List NodeRec) : (s.setNodes x).notices = s.notices := rfl
@[simp] theorem State.setNodes_flags (x : List NodeRec) : (s.setNodes x).flags = s.flags := rfl
@[simp] theorem State.setNodes_config (x : List NodeRec) : (s.setNodes x).config = s.config := rfl
@[simp] theorem State.setNodes_image (x : List NodeRec) : (s.setNodes x).image = s.image := rfl
@[simp] theorem State.setNodes_lines (x : List NodeRec) : (s.setNodes x).lines = s.lines := rfl
@[simp] theorem State.setNodes_supply (x : List NodeRec) : (s.setNodes x).supply = s.supply := rfl
@[simp] theorem State.setNodes_counters (x : List NodeRec) : (s.setNodes x).counters = s.counters := rfl
@[simp] theorem State.setNodes_choices (x : List NodeRec) : (s.setNodes x).choices = s.choices := rfl

/-! ### `setFieldPort` -/

@[simp] theorem State.setFieldPort_pending (x : FieldPort) : (s.setFieldPort x).pending = s.pending := rfl
@[simp] theorem State.setFieldPort_time (x : FieldPort) : (s.setFieldPort x).time = s.time := rfl
@[simp] theorem State.setFieldPort_sys (x : FieldPort) : (s.setFieldPort x).sys = s.sys := rfl
@[simp] theorem State.setFieldPort_rounds (x : FieldPort) : (s.setFieldPort x).rounds = s.rounds := rfl
@[simp] theorem State.setFieldPort_modules (x : FieldPort) : (s.setFieldPort x).modules = s.modules := rfl
@[simp] theorem State.setFieldPort_strings (x : FieldPort) : (s.setFieldPort x).strings = s.strings := rfl
@[simp] theorem State.setFieldPort_cellsHold (x : FieldPort) : (s.setFieldPort x).cellsHold = s.cellsHold := rfl
@[simp] theorem State.setFieldPort_limits (x : FieldPort) : (s.setFieldPort x).limits = s.limits := rfl
@[simp] theorem State.setFieldPort_envelope (x : FieldPort) : (s.setFieldPort x).envelope = s.envelope := rfl
@[simp] theorem State.setFieldPort_gate (x : FieldPort) : (s.setFieldPort x).gate = s.gate := rfl
@[simp] theorem State.setFieldPort_grid (x : FieldPort) : (s.setFieldPort x).grid = s.grid := rfl
@[simp] theorem State.setFieldPort_conn (x : FieldPort) : (s.setFieldPort x).conn = s.conn := rfl
@[simp] theorem State.setFieldPort_thermal (x : FieldPort) : (s.setFieldPort x).thermal = s.thermal := rfl
@[simp] theorem State.setFieldPort_fire (x : FieldPort) : (s.setFieldPort x).fire = s.fire := rfl
@[simp] theorem State.setFieldPort_nodes (x : FieldPort) : (s.setFieldPort x).nodes = s.nodes := rfl
@[simp] theorem State.setFieldPort_fieldPort (x : FieldPort) : (s.setFieldPort x).fieldPort = x := rfl
@[simp] theorem State.setFieldPort_stationPort (x : FieldPort) : (s.setFieldPort x).stationPort = s.stationPort := rfl
@[simp] theorem State.setFieldPort_engine (x : FieldPort) : (s.setFieldPort x).engine = s.engine := rfl
@[simp] theorem State.setFieldPort_notices (x : FieldPort) : (s.setFieldPort x).notices = s.notices := rfl
@[simp] theorem State.setFieldPort_flags (x : FieldPort) : (s.setFieldPort x).flags = s.flags := rfl
@[simp] theorem State.setFieldPort_config (x : FieldPort) : (s.setFieldPort x).config = s.config := rfl
@[simp] theorem State.setFieldPort_image (x : FieldPort) : (s.setFieldPort x).image = s.image := rfl
@[simp] theorem State.setFieldPort_lines (x : FieldPort) : (s.setFieldPort x).lines = s.lines := rfl
@[simp] theorem State.setFieldPort_supply (x : FieldPort) : (s.setFieldPort x).supply = s.supply := rfl
@[simp] theorem State.setFieldPort_counters (x : FieldPort) : (s.setFieldPort x).counters = s.counters := rfl
@[simp] theorem State.setFieldPort_choices (x : FieldPort) : (s.setFieldPort x).choices = s.choices := rfl

/-! ### `setStationPort` -/

@[simp] theorem State.setStationPort_pending (x : StationPort) : (s.setStationPort x).pending = s.pending := rfl
@[simp] theorem State.setStationPort_time (x : StationPort) : (s.setStationPort x).time = s.time := rfl
@[simp] theorem State.setStationPort_sys (x : StationPort) : (s.setStationPort x).sys = s.sys := rfl
@[simp] theorem State.setStationPort_rounds (x : StationPort) : (s.setStationPort x).rounds = s.rounds := rfl
@[simp] theorem State.setStationPort_modules (x : StationPort) : (s.setStationPort x).modules = s.modules := rfl
@[simp] theorem State.setStationPort_strings (x : StationPort) : (s.setStationPort x).strings = s.strings := rfl
@[simp] theorem State.setStationPort_cellsHold (x : StationPort) : (s.setStationPort x).cellsHold = s.cellsHold := rfl
@[simp] theorem State.setStationPort_limits (x : StationPort) : (s.setStationPort x).limits = s.limits := rfl
@[simp] theorem State.setStationPort_envelope (x : StationPort) : (s.setStationPort x).envelope = s.envelope := rfl
@[simp] theorem State.setStationPort_gate (x : StationPort) : (s.setStationPort x).gate = s.gate := rfl
@[simp] theorem State.setStationPort_grid (x : StationPort) : (s.setStationPort x).grid = s.grid := rfl
@[simp] theorem State.setStationPort_conn (x : StationPort) : (s.setStationPort x).conn = s.conn := rfl
@[simp] theorem State.setStationPort_thermal (x : StationPort) : (s.setStationPort x).thermal = s.thermal := rfl
@[simp] theorem State.setStationPort_fire (x : StationPort) : (s.setStationPort x).fire = s.fire := rfl
@[simp] theorem State.setStationPort_nodes (x : StationPort) : (s.setStationPort x).nodes = s.nodes := rfl
@[simp] theorem State.setStationPort_fieldPort (x : StationPort) : (s.setStationPort x).fieldPort = s.fieldPort := rfl
@[simp] theorem State.setStationPort_stationPort (x : StationPort) : (s.setStationPort x).stationPort = x := rfl
@[simp] theorem State.setStationPort_engine (x : StationPort) : (s.setStationPort x).engine = s.engine := rfl
@[simp] theorem State.setStationPort_notices (x : StationPort) : (s.setStationPort x).notices = s.notices := rfl
@[simp] theorem State.setStationPort_flags (x : StationPort) : (s.setStationPort x).flags = s.flags := rfl
@[simp] theorem State.setStationPort_config (x : StationPort) : (s.setStationPort x).config = s.config := rfl
@[simp] theorem State.setStationPort_image (x : StationPort) : (s.setStationPort x).image = s.image := rfl
@[simp] theorem State.setStationPort_lines (x : StationPort) : (s.setStationPort x).lines = s.lines := rfl
@[simp] theorem State.setStationPort_supply (x : StationPort) : (s.setStationPort x).supply = s.supply := rfl
@[simp] theorem State.setStationPort_counters (x : StationPort) : (s.setStationPort x).counters = s.counters := rfl
@[simp] theorem State.setStationPort_choices (x : StationPort) : (s.setStationPort x).choices = s.choices := rfl

/-! ### `setEngine` -/

@[simp] theorem State.setEngine_pending (x : Engine) : (s.setEngine x).pending = s.pending := rfl
@[simp] theorem State.setEngine_time (x : Engine) : (s.setEngine x).time = s.time := rfl
@[simp] theorem State.setEngine_sys (x : Engine) : (s.setEngine x).sys = s.sys := rfl
@[simp] theorem State.setEngine_rounds (x : Engine) : (s.setEngine x).rounds = s.rounds := rfl
@[simp] theorem State.setEngine_modules (x : Engine) : (s.setEngine x).modules = s.modules := rfl
@[simp] theorem State.setEngine_strings (x : Engine) : (s.setEngine x).strings = s.strings := rfl
@[simp] theorem State.setEngine_cellsHold (x : Engine) : (s.setEngine x).cellsHold = s.cellsHold := rfl
@[simp] theorem State.setEngine_limits (x : Engine) : (s.setEngine x).limits = s.limits := rfl
@[simp] theorem State.setEngine_envelope (x : Engine) : (s.setEngine x).envelope = s.envelope := rfl
@[simp] theorem State.setEngine_gate (x : Engine) : (s.setEngine x).gate = s.gate := rfl
@[simp] theorem State.setEngine_grid (x : Engine) : (s.setEngine x).grid = s.grid := rfl
@[simp] theorem State.setEngine_conn (x : Engine) : (s.setEngine x).conn = s.conn := rfl
@[simp] theorem State.setEngine_thermal (x : Engine) : (s.setEngine x).thermal = s.thermal := rfl
@[simp] theorem State.setEngine_fire (x : Engine) : (s.setEngine x).fire = s.fire := rfl
@[simp] theorem State.setEngine_nodes (x : Engine) : (s.setEngine x).nodes = s.nodes := rfl
@[simp] theorem State.setEngine_fieldPort (x : Engine) : (s.setEngine x).fieldPort = s.fieldPort := rfl
@[simp] theorem State.setEngine_stationPort (x : Engine) : (s.setEngine x).stationPort = s.stationPort := rfl
@[simp] theorem State.setEngine_engine (x : Engine) : (s.setEngine x).engine = x := rfl
@[simp] theorem State.setEngine_notices (x : Engine) : (s.setEngine x).notices = s.notices := rfl
@[simp] theorem State.setEngine_flags (x : Engine) : (s.setEngine x).flags = s.flags := rfl
@[simp] theorem State.setEngine_config (x : Engine) : (s.setEngine x).config = s.config := rfl
@[simp] theorem State.setEngine_image (x : Engine) : (s.setEngine x).image = s.image := rfl
@[simp] theorem State.setEngine_lines (x : Engine) : (s.setEngine x).lines = s.lines := rfl
@[simp] theorem State.setEngine_supply (x : Engine) : (s.setEngine x).supply = s.supply := rfl
@[simp] theorem State.setEngine_counters (x : Engine) : (s.setEngine x).counters = s.counters := rfl
@[simp] theorem State.setEngine_choices (x : Engine) : (s.setEngine x).choices = s.choices := rfl

/-! ### `setNotices` -/

@[simp] theorem State.setNotices_pending (x : List Notice) : (s.setNotices x).pending = s.pending := rfl
@[simp] theorem State.setNotices_time (x : List Notice) : (s.setNotices x).time = s.time := rfl
@[simp] theorem State.setNotices_sys (x : List Notice) : (s.setNotices x).sys = s.sys := rfl
@[simp] theorem State.setNotices_rounds (x : List Notice) : (s.setNotices x).rounds = s.rounds := rfl
@[simp] theorem State.setNotices_modules (x : List Notice) : (s.setNotices x).modules = s.modules := rfl
@[simp] theorem State.setNotices_strings (x : List Notice) : (s.setNotices x).strings = s.strings := rfl
@[simp] theorem State.setNotices_cellsHold (x : List Notice) : (s.setNotices x).cellsHold = s.cellsHold := rfl
@[simp] theorem State.setNotices_limits (x : List Notice) : (s.setNotices x).limits = s.limits := rfl
@[simp] theorem State.setNotices_envelope (x : List Notice) : (s.setNotices x).envelope = s.envelope := rfl
@[simp] theorem State.setNotices_gate (x : List Notice) : (s.setNotices x).gate = s.gate := rfl
@[simp] theorem State.setNotices_grid (x : List Notice) : (s.setNotices x).grid = s.grid := rfl
@[simp] theorem State.setNotices_conn (x : List Notice) : (s.setNotices x).conn = s.conn := rfl
@[simp] theorem State.setNotices_thermal (x : List Notice) : (s.setNotices x).thermal = s.thermal := rfl
@[simp] theorem State.setNotices_fire (x : List Notice) : (s.setNotices x).fire = s.fire := rfl
@[simp] theorem State.setNotices_nodes (x : List Notice) : (s.setNotices x).nodes = s.nodes := rfl
@[simp] theorem State.setNotices_fieldPort (x : List Notice) : (s.setNotices x).fieldPort = s.fieldPort := rfl
@[simp] theorem State.setNotices_stationPort (x : List Notice) : (s.setNotices x).stationPort = s.stationPort := rfl
@[simp] theorem State.setNotices_engine (x : List Notice) : (s.setNotices x).engine = s.engine := rfl
@[simp] theorem State.setNotices_notices (x : List Notice) : (s.setNotices x).notices = x := rfl
@[simp] theorem State.setNotices_flags (x : List Notice) : (s.setNotices x).flags = s.flags := rfl
@[simp] theorem State.setNotices_config (x : List Notice) : (s.setNotices x).config = s.config := rfl
@[simp] theorem State.setNotices_image (x : List Notice) : (s.setNotices x).image = s.image := rfl
@[simp] theorem State.setNotices_lines (x : List Notice) : (s.setNotices x).lines = s.lines := rfl
@[simp] theorem State.setNotices_supply (x : List Notice) : (s.setNotices x).supply = s.supply := rfl
@[simp] theorem State.setNotices_counters (x : List Notice) : (s.setNotices x).counters = s.counters := rfl
@[simp] theorem State.setNotices_choices (x : List Notice) : (s.setNotices x).choices = s.choices := rfl

/-! ### `setFlags` -/

@[simp] theorem State.setFlags_pending (x : FlagRec) : (s.setFlags x).pending = s.pending := rfl
@[simp] theorem State.setFlags_time (x : FlagRec) : (s.setFlags x).time = s.time := rfl
@[simp] theorem State.setFlags_sys (x : FlagRec) : (s.setFlags x).sys = s.sys := rfl
@[simp] theorem State.setFlags_rounds (x : FlagRec) : (s.setFlags x).rounds = s.rounds := rfl
@[simp] theorem State.setFlags_modules (x : FlagRec) : (s.setFlags x).modules = s.modules := rfl
@[simp] theorem State.setFlags_strings (x : FlagRec) : (s.setFlags x).strings = s.strings := rfl
@[simp] theorem State.setFlags_cellsHold (x : FlagRec) : (s.setFlags x).cellsHold = s.cellsHold := rfl
@[simp] theorem State.setFlags_limits (x : FlagRec) : (s.setFlags x).limits = s.limits := rfl
@[simp] theorem State.setFlags_envelope (x : FlagRec) : (s.setFlags x).envelope = s.envelope := rfl
@[simp] theorem State.setFlags_gate (x : FlagRec) : (s.setFlags x).gate = s.gate := rfl
@[simp] theorem State.setFlags_grid (x : FlagRec) : (s.setFlags x).grid = s.grid := rfl
@[simp] theorem State.setFlags_conn (x : FlagRec) : (s.setFlags x).conn = s.conn := rfl
@[simp] theorem State.setFlags_thermal (x : FlagRec) : (s.setFlags x).thermal = s.thermal := rfl
@[simp] theorem State.setFlags_fire (x : FlagRec) : (s.setFlags x).fire = s.fire := rfl
@[simp] theorem State.setFlags_nodes (x : FlagRec) : (s.setFlags x).nodes = s.nodes := rfl
@[simp] theorem State.setFlags_fieldPort (x : FlagRec) : (s.setFlags x).fieldPort = s.fieldPort := rfl
@[simp] theorem State.setFlags_stationPort (x : FlagRec) : (s.setFlags x).stationPort = s.stationPort := rfl
@[simp] theorem State.setFlags_engine (x : FlagRec) : (s.setFlags x).engine = s.engine := rfl
@[simp] theorem State.setFlags_notices (x : FlagRec) : (s.setFlags x).notices = s.notices := rfl
@[simp] theorem State.setFlags_flags (x : FlagRec) : (s.setFlags x).flags = x := rfl
@[simp] theorem State.setFlags_config (x : FlagRec) : (s.setFlags x).config = s.config := rfl
@[simp] theorem State.setFlags_image (x : FlagRec) : (s.setFlags x).image = s.image := rfl
@[simp] theorem State.setFlags_lines (x : FlagRec) : (s.setFlags x).lines = s.lines := rfl
@[simp] theorem State.setFlags_supply (x : FlagRec) : (s.setFlags x).supply = s.supply := rfl
@[simp] theorem State.setFlags_counters (x : FlagRec) : (s.setFlags x).counters = s.counters := rfl
@[simp] theorem State.setFlags_choices (x : FlagRec) : (s.setFlags x).choices = s.choices := rfl

/-! ### `setConfig` -/

@[simp] theorem State.setConfig_pending (x : ConfigStore) : (s.setConfig x).pending = s.pending := rfl
@[simp] theorem State.setConfig_time (x : ConfigStore) : (s.setConfig x).time = s.time := rfl
@[simp] theorem State.setConfig_sys (x : ConfigStore) : (s.setConfig x).sys = s.sys := rfl
@[simp] theorem State.setConfig_rounds (x : ConfigStore) : (s.setConfig x).rounds = s.rounds := rfl
@[simp] theorem State.setConfig_modules (x : ConfigStore) : (s.setConfig x).modules = s.modules := rfl
@[simp] theorem State.setConfig_strings (x : ConfigStore) : (s.setConfig x).strings = s.strings := rfl
@[simp] theorem State.setConfig_cellsHold (x : ConfigStore) : (s.setConfig x).cellsHold = s.cellsHold := rfl
@[simp] theorem State.setConfig_limits (x : ConfigStore) : (s.setConfig x).limits = s.limits := rfl
@[simp] theorem State.setConfig_envelope (x : ConfigStore) : (s.setConfig x).envelope = s.envelope := rfl
@[simp] theorem State.setConfig_gate (x : ConfigStore) : (s.setConfig x).gate = s.gate := rfl
@[simp] theorem State.setConfig_grid (x : ConfigStore) : (s.setConfig x).grid = s.grid := rfl
@[simp] theorem State.setConfig_conn (x : ConfigStore) : (s.setConfig x).conn = s.conn := rfl
@[simp] theorem State.setConfig_thermal (x : ConfigStore) : (s.setConfig x).thermal = s.thermal := rfl
@[simp] theorem State.setConfig_fire (x : ConfigStore) : (s.setConfig x).fire = s.fire := rfl
@[simp] theorem State.setConfig_nodes (x : ConfigStore) : (s.setConfig x).nodes = s.nodes := rfl
@[simp] theorem State.setConfig_fieldPort (x : ConfigStore) : (s.setConfig x).fieldPort = s.fieldPort := rfl
@[simp] theorem State.setConfig_stationPort (x : ConfigStore) : (s.setConfig x).stationPort = s.stationPort := rfl
@[simp] theorem State.setConfig_engine (x : ConfigStore) : (s.setConfig x).engine = s.engine := rfl
@[simp] theorem State.setConfig_notices (x : ConfigStore) : (s.setConfig x).notices = s.notices := rfl
@[simp] theorem State.setConfig_flags (x : ConfigStore) : (s.setConfig x).flags = s.flags := rfl
@[simp] theorem State.setConfig_config (x : ConfigStore) : (s.setConfig x).config = x := rfl
@[simp] theorem State.setConfig_image (x : ConfigStore) : (s.setConfig x).image = s.image := rfl
@[simp] theorem State.setConfig_lines (x : ConfigStore) : (s.setConfig x).lines = s.lines := rfl
@[simp] theorem State.setConfig_supply (x : ConfigStore) : (s.setConfig x).supply = s.supply := rfl
@[simp] theorem State.setConfig_counters (x : ConfigStore) : (s.setConfig x).counters = s.counters := rfl
@[simp] theorem State.setConfig_choices (x : ConfigStore) : (s.setConfig x).choices = s.choices := rfl

/-! ### `setImage` -/

@[simp] theorem State.setImage_pending (x : Image) : (s.setImage x).pending = s.pending := rfl
@[simp] theorem State.setImage_time (x : Image) : (s.setImage x).time = s.time := rfl
@[simp] theorem State.setImage_sys (x : Image) : (s.setImage x).sys = s.sys := rfl
@[simp] theorem State.setImage_rounds (x : Image) : (s.setImage x).rounds = s.rounds := rfl
@[simp] theorem State.setImage_modules (x : Image) : (s.setImage x).modules = s.modules := rfl
@[simp] theorem State.setImage_strings (x : Image) : (s.setImage x).strings = s.strings := rfl
@[simp] theorem State.setImage_cellsHold (x : Image) : (s.setImage x).cellsHold = s.cellsHold := rfl
@[simp] theorem State.setImage_limits (x : Image) : (s.setImage x).limits = s.limits := rfl
@[simp] theorem State.setImage_envelope (x : Image) : (s.setImage x).envelope = s.envelope := rfl
@[simp] theorem State.setImage_gate (x : Image) : (s.setImage x).gate = s.gate := rfl
@[simp] theorem State.setImage_grid (x : Image) : (s.setImage x).grid = s.grid := rfl
@[simp] theorem State.setImage_conn (x : Image) : (s.setImage x).conn = s.conn := rfl
@[simp] theorem State.setImage_thermal (x : Image) : (s.setImage x).thermal = s.thermal := rfl
@[simp] theorem State.setImage_fire (x : Image) : (s.setImage x).fire = s.fire := rfl
@[simp] theorem State.setImage_nodes (x : Image) : (s.setImage x).nodes = s.nodes := rfl
@[simp] theorem State.setImage_fieldPort (x : Image) : (s.setImage x).fieldPort = s.fieldPort := rfl
@[simp] theorem State.setImage_stationPort (x : Image) : (s.setImage x).stationPort = s.stationPort := rfl
@[simp] theorem State.setImage_engine (x : Image) : (s.setImage x).engine = s.engine := rfl
@[simp] theorem State.setImage_notices (x : Image) : (s.setImage x).notices = s.notices := rfl
@[simp] theorem State.setImage_flags (x : Image) : (s.setImage x).flags = s.flags := rfl
@[simp] theorem State.setImage_config (x : Image) : (s.setImage x).config = s.config := rfl
@[simp] theorem State.setImage_image (x : Image) : (s.setImage x).image = x := rfl
@[simp] theorem State.setImage_lines (x : Image) : (s.setImage x).lines = s.lines := rfl
@[simp] theorem State.setImage_supply (x : Image) : (s.setImage x).supply = s.supply := rfl
@[simp] theorem State.setImage_counters (x : Image) : (s.setImage x).counters = s.counters := rfl
@[simp] theorem State.setImage_choices (x : Image) : (s.setImage x).choices = s.choices := rfl

/-! ### `setLines` -/

@[simp] theorem State.setLines_pending (x : Lines) : (s.setLines x).pending = s.pending := rfl
@[simp] theorem State.setLines_time (x : Lines) : (s.setLines x).time = s.time := rfl
@[simp] theorem State.setLines_sys (x : Lines) : (s.setLines x).sys = s.sys := rfl
@[simp] theorem State.setLines_rounds (x : Lines) : (s.setLines x).rounds = s.rounds := rfl
@[simp] theorem State.setLines_modules (x : Lines) : (s.setLines x).modules = s.modules := rfl
@[simp] theorem State.setLines_strings (x : Lines) : (s.setLines x).strings = s.strings := rfl
@[simp] theorem State.setLines_cellsHold (x : Lines) : (s.setLines x).cellsHold = s.cellsHold := rfl
@[simp] theorem State.setLines_limits (x : Lines) : (s.setLines x).limits = s.limits := rfl
@[simp] theorem State.setLines_envelope (x : Lines) : (s.setLines x).envelope = s.envelope := rfl
@[simp] theorem State.setLines_gate (x : Lines) : (s.setLines x).gate = s.gate := rfl
@[simp] theorem State.setLines_grid (x : Lines) : (s.setLines x).grid = s.grid := rfl
@[simp] theorem State.setLines_conn (x : Lines) : (s.setLines x).conn = s.conn := rfl
@[simp] theorem State.setLines_thermal (x : Lines) : (s.setLines x).thermal = s.thermal := rfl
@[simp] theorem State.setLines_fire (x : Lines) : (s.setLines x).fire = s.fire := rfl
@[simp] theorem State.setLines_nodes (x : Lines) : (s.setLines x).nodes = s.nodes := rfl
@[simp] theorem State.setLines_fieldPort (x : Lines) : (s.setLines x).fieldPort = s.fieldPort := rfl
@[simp] theorem State.setLines_stationPort (x : Lines) : (s.setLines x).stationPort = s.stationPort := rfl
@[simp] theorem State.setLines_engine (x : Lines) : (s.setLines x).engine = s.engine := rfl
@[simp] theorem State.setLines_notices (x : Lines) : (s.setLines x).notices = s.notices := rfl
@[simp] theorem State.setLines_flags (x : Lines) : (s.setLines x).flags = s.flags := rfl
@[simp] theorem State.setLines_config (x : Lines) : (s.setLines x).config = s.config := rfl
@[simp] theorem State.setLines_image (x : Lines) : (s.setLines x).image = s.image := rfl
@[simp] theorem State.setLines_lines (x : Lines) : (s.setLines x).lines = x := rfl
@[simp] theorem State.setLines_supply (x : Lines) : (s.setLines x).supply = s.supply := rfl
@[simp] theorem State.setLines_counters (x : Lines) : (s.setLines x).counters = s.counters := rfl
@[simp] theorem State.setLines_choices (x : Lines) : (s.setLines x).choices = s.choices := rfl

/-! ### `setSupply` -/

@[simp] theorem State.setSupply_pending (x : Supply) : (s.setSupply x).pending = s.pending := rfl
@[simp] theorem State.setSupply_time (x : Supply) : (s.setSupply x).time = s.time := rfl
@[simp] theorem State.setSupply_sys (x : Supply) : (s.setSupply x).sys = s.sys := rfl
@[simp] theorem State.setSupply_rounds (x : Supply) : (s.setSupply x).rounds = s.rounds := rfl
@[simp] theorem State.setSupply_modules (x : Supply) : (s.setSupply x).modules = s.modules := rfl
@[simp] theorem State.setSupply_strings (x : Supply) : (s.setSupply x).strings = s.strings := rfl
@[simp] theorem State.setSupply_cellsHold (x : Supply) : (s.setSupply x).cellsHold = s.cellsHold := rfl
@[simp] theorem State.setSupply_limits (x : Supply) : (s.setSupply x).limits = s.limits := rfl
@[simp] theorem State.setSupply_envelope (x : Supply) : (s.setSupply x).envelope = s.envelope := rfl
@[simp] theorem State.setSupply_gate (x : Supply) : (s.setSupply x).gate = s.gate := rfl
@[simp] theorem State.setSupply_grid (x : Supply) : (s.setSupply x).grid = s.grid := rfl
@[simp] theorem State.setSupply_conn (x : Supply) : (s.setSupply x).conn = s.conn := rfl
@[simp] theorem State.setSupply_thermal (x : Supply) : (s.setSupply x).thermal = s.thermal := rfl
@[simp] theorem State.setSupply_fire (x : Supply) : (s.setSupply x).fire = s.fire := rfl
@[simp] theorem State.setSupply_nodes (x : Supply) : (s.setSupply x).nodes = s.nodes := rfl
@[simp] theorem State.setSupply_fieldPort (x : Supply) : (s.setSupply x).fieldPort = s.fieldPort := rfl
@[simp] theorem State.setSupply_stationPort (x : Supply) : (s.setSupply x).stationPort = s.stationPort := rfl
@[simp] theorem State.setSupply_engine (x : Supply) : (s.setSupply x).engine = s.engine := rfl
@[simp] theorem State.setSupply_notices (x : Supply) : (s.setSupply x).notices = s.notices := rfl
@[simp] theorem State.setSupply_flags (x : Supply) : (s.setSupply x).flags = s.flags := rfl
@[simp] theorem State.setSupply_config (x : Supply) : (s.setSupply x).config = s.config := rfl
@[simp] theorem State.setSupply_image (x : Supply) : (s.setSupply x).image = s.image := rfl
@[simp] theorem State.setSupply_lines (x : Supply) : (s.setSupply x).lines = s.lines := rfl
@[simp] theorem State.setSupply_supply (x : Supply) : (s.setSupply x).supply = x := rfl
@[simp] theorem State.setSupply_counters (x : Supply) : (s.setSupply x).counters = s.counters := rfl
@[simp] theorem State.setSupply_choices (x : Supply) : (s.setSupply x).choices = s.choices := rfl

/-! ### `setCounters` -/

@[simp] theorem State.setCounters_pending (x : Counters) : (s.setCounters x).pending = s.pending := rfl
@[simp] theorem State.setCounters_time (x : Counters) : (s.setCounters x).time = s.time := rfl
@[simp] theorem State.setCounters_sys (x : Counters) : (s.setCounters x).sys = s.sys := rfl
@[simp] theorem State.setCounters_rounds (x : Counters) : (s.setCounters x).rounds = s.rounds := rfl
@[simp] theorem State.setCounters_modules (x : Counters) : (s.setCounters x).modules = s.modules := rfl
@[simp] theorem State.setCounters_strings (x : Counters) : (s.setCounters x).strings = s.strings := rfl
@[simp] theorem State.setCounters_cellsHold (x : Counters) : (s.setCounters x).cellsHold = s.cellsHold := rfl
@[simp] theorem State.setCounters_limits (x : Counters) : (s.setCounters x).limits = s.limits := rfl
@[simp] theorem State.setCounters_envelope (x : Counters) : (s.setCounters x).envelope = s.envelope := rfl
@[simp] theorem State.setCounters_gate (x : Counters) : (s.setCounters x).gate = s.gate := rfl
@[simp] theorem State.setCounters_grid (x : Counters) : (s.setCounters x).grid = s.grid := rfl
@[simp] theorem State.setCounters_conn (x : Counters) : (s.setCounters x).conn = s.conn := rfl
@[simp] theorem State.setCounters_thermal (x : Counters) : (s.setCounters x).thermal = s.thermal := rfl
@[simp] theorem State.setCounters_fire (x : Counters) : (s.setCounters x).fire = s.fire := rfl
@[simp] theorem State.setCounters_nodes (x : Counters) : (s.setCounters x).nodes = s.nodes := rfl
@[simp] theorem State.setCounters_fieldPort (x : Counters) : (s.setCounters x).fieldPort = s.fieldPort := rfl
@[simp] theorem State.setCounters_stationPort (x : Counters) : (s.setCounters x).stationPort = s.stationPort := rfl
@[simp] theorem State.setCounters_engine (x : Counters) : (s.setCounters x).engine = s.engine := rfl
@[simp] theorem State.setCounters_notices (x : Counters) : (s.setCounters x).notices = s.notices := rfl
@[simp] theorem State.setCounters_flags (x : Counters) : (s.setCounters x).flags = s.flags := rfl
@[simp] theorem State.setCounters_config (x : Counters) : (s.setCounters x).config = s.config := rfl
@[simp] theorem State.setCounters_image (x : Counters) : (s.setCounters x).image = s.image := rfl
@[simp] theorem State.setCounters_lines (x : Counters) : (s.setCounters x).lines = s.lines := rfl
@[simp] theorem State.setCounters_supply (x : Counters) : (s.setCounters x).supply = s.supply := rfl
@[simp] theorem State.setCounters_counters (x : Counters) : (s.setCounters x).counters = x := rfl
@[simp] theorem State.setCounters_choices (x : Counters) : (s.setCounters x).choices = s.choices := rfl

/-! ### `setChoices` -/

@[simp] theorem State.setChoices_pending (x : Nat) : (s.setChoices x).pending = s.pending := rfl
@[simp] theorem State.setChoices_time (x : Nat) : (s.setChoices x).time = s.time := rfl
@[simp] theorem State.setChoices_sys (x : Nat) : (s.setChoices x).sys = s.sys := rfl
@[simp] theorem State.setChoices_rounds (x : Nat) : (s.setChoices x).rounds = s.rounds := rfl
@[simp] theorem State.setChoices_modules (x : Nat) : (s.setChoices x).modules = s.modules := rfl
@[simp] theorem State.setChoices_strings (x : Nat) : (s.setChoices x).strings = s.strings := rfl
@[simp] theorem State.setChoices_cellsHold (x : Nat) : (s.setChoices x).cellsHold = s.cellsHold := rfl
@[simp] theorem State.setChoices_limits (x : Nat) : (s.setChoices x).limits = s.limits := rfl
@[simp] theorem State.setChoices_envelope (x : Nat) : (s.setChoices x).envelope = s.envelope := rfl
@[simp] theorem State.setChoices_gate (x : Nat) : (s.setChoices x).gate = s.gate := rfl
@[simp] theorem State.setChoices_grid (x : Nat) : (s.setChoices x).grid = s.grid := rfl
@[simp] theorem State.setChoices_conn (x : Nat) : (s.setChoices x).conn = s.conn := rfl
@[simp] theorem State.setChoices_thermal (x : Nat) : (s.setChoices x).thermal = s.thermal := rfl
@[simp] theorem State.setChoices_fire (x : Nat) : (s.setChoices x).fire = s.fire := rfl
@[simp] theorem State.setChoices_nodes (x : Nat) : (s.setChoices x).nodes = s.nodes := rfl
@[simp] theorem State.setChoices_fieldPort (x : Nat) : (s.setChoices x).fieldPort = s.fieldPort := rfl
@[simp] theorem State.setChoices_stationPort (x : Nat) : (s.setChoices x).stationPort = s.stationPort := rfl
@[simp] theorem State.setChoices_engine (x : Nat) : (s.setChoices x).engine = s.engine := rfl
@[simp] theorem State.setChoices_notices (x : Nat) : (s.setChoices x).notices = s.notices := rfl
@[simp] theorem State.setChoices_flags (x : Nat) : (s.setChoices x).flags = s.flags := rfl
@[simp] theorem State.setChoices_config (x : Nat) : (s.setChoices x).config = s.config := rfl
@[simp] theorem State.setChoices_image (x : Nat) : (s.setChoices x).image = s.image := rfl
@[simp] theorem State.setChoices_lines (x : Nat) : (s.setChoices x).lines = s.lines := rfl
@[simp] theorem State.setChoices_supply (x : Nat) : (s.setChoices x).supply = s.supply := rfl
@[simp] theorem State.setChoices_counters (x : Nat) : (s.setChoices x).counters = s.counters := rfl
@[simp] theorem State.setChoices_choices (x : Nat) : (s.setChoices x).choices = x := rfl

end Sys2Proof.Machine
end

