-- ==== Sys2Proof/Laws/Ops.lean ====
section
/-! SUPPORT. For each shared operation, what it can do: the frames of the operations over notices, flags, queues and
counters, and the conditions of `State.Ok` that they keep. -/

namespace Sys2Proof.Machine

/-! ### Frames -/

theorem State.changesOnly_refl (s : State) (ps : List Part) : s.changesOnly s ps := by
  intro p _
  cases p <;> rfl

theorem State.changesOnly_trans {s t u : State} {ps : List Part} (h : s.changesOnly t ps) (k : t.changesOnly u ps) :
    s.changesOnly u ps := by
  intro p hp
  have h1 := h p hp
  have h2 := k p hp
  cases p <;> simp only [State.sameIn] at h1 h2 ⊢ <;> exact h2.trans h1

theorem State.changesOnly_mono {s t : State} {ps qs : List Part} (h : s.changesOnly t ps) (hq : ps ⊆ qs) :
    s.changesOnly t qs := fun p hp => h p fun hm => hp (hq hm)

/-- What `raise` does: the notice enters the queue, and a notice lost is counted. -/
theorem State.raise_eq (s : State) (k : NoticeKind) (x : Option Nat) :
    s.raise k x =
      (s.setNotices (enterNotice s.notices ⟨k, x, 1, s.time⟩)).setCounters
        (if losesNotice s.notices ⟨k, x, 1, s.time⟩ then
          { s.counters with noticesLost := inc16 s.counters.noticesLost } else s.counters) := by
  unfold State.raise
  dsimp only
  split <;> rfl

@[simp] theorem State.raise_notices (s : State) (k : NoticeKind) (x : Option Nat) :
    (s.raise k x).notices = enterNotice s.notices ⟨k, x, 1, s.time⟩ := by simp [State.raise_eq]

@[simp] theorem State.latch_flags (s : State) (f : Flag) : (s.latch f).flags = .of (withFlag s.flags.latched f) := rfl

/-- What `placeUrgent` does to the Field queues (R160). -/
theorem State.placeUrgent_fieldPort (s : State) (p : Placed) :
    (s.placeUrgent p).fieldPort =
      { s.fieldPort with
        urgent := if s.fieldPort.urgent.any p.matches then replaceIn p s.fieldPort.urgent else s.fieldPort.urgent ++ [p]
        normal := s.fieldPort.normal.filter fun w => !(p.matches w) } := by
  simp [State.placeUrgent, State.countSuperseded, State.count]

/-- What `placeNormal` does to the Field queues (R160). -/
theorem State.placeNormal_fieldPort (s : State) (p : Placed) :
    (s.placeNormal p).fieldPort =
      if supersedable p.frame.kind && s.fieldPort.normal.any p.matches then
        { s.fieldPort with normal := replaceIn p s.fieldPort.normal }
      else if s.fieldPort.normalUsed < 32 then { s.fieldPort with normal := s.fieldPort.normal ++ [p] }
      else s.fieldPort := by
  unfold State.placeNormal
  split
  · simp [State.countSuperseded, State.count]
  · split <;> simp [State.count]

/-- What `placeResult` does to the Station queue (R162). -/
theorem State.placeResult_stationPort (s : State) (r : DispatchResult) :
    (s.placeResult r).stationPort =
      if s.stationPort.used < 32 then { s.stationPort with queue := s.stationPort.queue ++ [.result r] }
      else if s.stationPort.queue.any StationFrame.isResult then
        { s.stationPort with queue := s.stationPort.queue.eraseP StationFrame.isResult ++ [.result r] }
      else s.stationPort := by
  unfold State.placeResult State.stationJoin
  split
  · simp
  · split <;> simp [State.count]

/-- What `offerForwarded` does to the Station queue (R162). -/
theorem State.offerForwarded_stationPort (s : State) (f : Frame) :
    (s.offerForwarded f).stationPort =
      if s.stationPort.used < 28 then { s.stationPort with queue := s.stationPort.queue ++ [.forwarded f] }
      else s.stationPort := by
  unfold State.offerForwarded State.stationJoin StationPort.admitsForwarded
  simp only [decide_eq_true_eq]
  split <;> simp [State.count]

/-! ### Receive slots and flags latched again -/

/-- A slot reads as it was set, and the other port's slot stands (R153). -/
theorem State.slot_setSlot (s : State) (p q : Port) (x : Option (List Byte)) :
    (s.setSlot p x).slot q = if q = p then x else s.slot q := by
  cases p <;> cases q <;> rfl

@[simp] theorem State.setSlot_slot (s : State) (p : Port) : s.setSlot p (s.slot p) = s := by cases p <;> rfl

@[simp] theorem State.setSlot_setSlot (s : State) (p : Port) (x y : Option (List Byte)) :
    (s.setSlot p x).setSlot p y = s.setSlot p y := by cases p <;> rfl

/-- The end of a whole frame that fits its kind leaves the side hunting, and no more (R153). -/
theorem State.receiveWhole_of_fits (s : State) (p : Port) (f : Frame) (h : payloadFits f.kind f.payload = true) :
    s.receiveWhole p f = s.setSlot p none := by
  simp [State.receiveWhole, isMalformed, h]

/-- What a header does to a port (R153). -/
theorem State.headerArrives_of_taking (s : State) (p : Port) (h : FrameHeader) {taken : List Byte}
    (ht : s.slot p = some taken) :
    s.headerArrives p h =
      if 64 < h.len.toNat then
        (s.setSlot p none).countPort p fun c => { c with lengthErrors := inc16 c.lengthErrors }
      else s.setSlot p (some [h.dest, h.src, h.kind, h.len]) := by
  simp [State.headerArrives, ht]

/-- What bytes and a gap do to a port (R153). -/
theorem State.bytesThenGap_of_taking (s : State) (p : Port) (x : FramePart) {taken : List Byte}
    (ht : s.slot p = some taken) :
    s.bytesThenGap p x =
      if 5 < x.gap then
        (s.setSlot p none).countPort p fun c => { c with truncatedFrames := inc16 c.truncatedFrames }
      else s.setSlot p (some (taken ++ x.bytes)) := by
  simp [State.bytesThenGap, ht]

/-- A coolant found LOST has COOLANT_LOST latched, and any other changes nothing (R171). -/
theorem State.relatchCoolant_eq (s : State) :
    s.relatchCoolant = if s.thermal.coolant = .lost then s.latch .coolantLost else s := by
  simp [State.relatchCoolant]

/-- What a BREAKER_CLOSED line taken from its entry does (R119, R174). -/
theorem State.breakerReleased_eq (s : State) :
    s.breakerReleased =
      if s.conn.startAdopted = true then s.breakerLine false
      else if s.hasLine .breakerClosed = true then s.setConn { s.conn with feedback := .isOpen }
      else s.adoptBreaker false := rfl

/-! ### Notices (R172) -/

theorem lowestRank_le {q : List Notice} : ∀ {r : Nat}, q.foldl (fun r n => min r n.rank) r ≤ r := by
  induction q with
  | nil => simp
  | cons a q ih => intro r; simp only [List.foldl_cons]; exact Nat.le_trans ih (Nat.min_le_left _ _)

/-- The least rank is that of a notice present, in a queue that is not empty. -/
theorem exists_lowest {q : List Notice} (h : q ≠ []) : ∃ w ∈ q, (w.rank == lowestRank q) = true := by
  suffices H : ∀ (q : List Notice) (r : Nat), q.foldl (fun r n => min r n.rank) r = r ∨
      ∃ w ∈ q, w.rank = q.foldl (fun r n => min r n.rank) r by
    rcases H q 4 with h4 | ⟨w, hw, he⟩
    · cases q with
      | nil => exact absurd rfl h
      | cons a q =>
        have ha : a.rank ≤ 3 := by
          unfold Notice.rank
          cases a.kind.severity <;> decide
        have : (a :: q).foldl (fun r n => min r n.rank) 4 ≤ a.rank := by
          simp only [List.foldl_cons]
          exact Nat.le_trans lowestRank_le (Nat.min_le_right _ _)
        omega
    · exact ⟨w, hw, by simpa [lowestRank] using he⟩
  intro q
  induction q with
  | nil => intro r; exact .inl rfl
  | cons a q ih =>
    intro r
    simp only [List.foldl_cons]
    rcases ih (min r a.rank) with h1 | ⟨w, hw, he⟩
    · rw [h1]
      rcases Nat.le_total r a.rank with h2 | h2
      · exact .inl (Nat.min_eq_left h2)
      · exact .inr ⟨a, List.mem_cons_self, by omega⟩
    · exact .inr ⟨w, List.mem_cons_of_mem _ hw, he⟩

/-- A notice enters the queue at its end, and the queue keeps its condition. -/
theorem NoticesOk.enter {q : List Notice} (h : NoticesOk q) (n : Notice) : NoticesOk (enterNotice q n) := by
  obtain ⟨hl, hp⟩ := h
  have app : ∀ l : List Notice, l.length ≤ 23 → l.Pairwise (fun a b => ¬(a.kind = b.kind ∧ a.subject = b.subject)) →
      (∀ a ∈ l, ¬(a.kind = n.kind ∧ a.subject = n.subject)) → NoticesOk (l ++ [n]) := by
    intro l h1 h2 h3
    refine ⟨by simp; omega, ?_⟩
    rw [List.pairwise_append]
    refine ⟨h2, by simp, ?_⟩
    intro a ha b hb
    simp only [List.mem_singleton] at hb
    subst hb
    exact h3 a ha
  have new : q.any (Notice.isOf n.kind n.subject) = false → ∀ a ∈ q, ¬(a.kind = n.kind ∧ a.subject = n.subject) := by
    intro hf a ha hk
    have := List.any_eq_false.mp hf a ha
    simp [Notice.isOf, hk.1, hk.2] at this
  unfold enterNotice
  split
  · refine ⟨by simpa using hl, ?_⟩
    rw [List.pairwise_map]
    refine hp.imp ?_
    intro a b hab hk
    apply hab
    revert hk
    split <;> split <;> exact id
  · rename_i hn
    have hn' := new (by simpa using hn)
    split
    · exact app q (by omega) hp hn'
    · split
      · rename_i hfull _
        have hne : q ≠ [] := by
          intro h0
          subst h0
          simp at hfull
        obtain ⟨w, hw, hr⟩ := exists_lowest hne
        apply app
        · have := List.length_eraseP_of_mem (p := fun w => w.rank == lowestRank q) hw hr
          omega
        · exact hp.sublist List.eraseP_sublist
        · exact fun a ha => hn' a (List.mem_of_mem_eraseP ha)
      · exact ⟨hl, hp⟩

/-- A queue that loses a notice keeps its condition. -/
theorem NoticesOk.sublist {q r : List Notice} (h : NoticesOk q) (hs : r.Sublist q) : NoticesOk r :=
  ⟨Nat.le_trans hs.length_le h.1, h.2.sublist hs⟩

/-! ### Flags (R171, R173) -/

theorem FlagsOk.of_mask {l : BitVec 16} (h : l &&& 0x1FFF#16 = l) : FlagsOk (.of l) := ⟨rfl, h⟩

theorem and_mask_or {a b m : BitVec 16} (ha : a &&& m = a) (hb : b &&& m = b) : (a ||| b) &&& m = a ||| b := by
  apply BitVec.eq_of_getLsbD_eq
  intro i hi
  have h1 := congrArg (·.getLsbD i) ha
  have h2 := congrArg (·.getLsbD i) hb
  simp only [BitVec.getLsbD_and, BitVec.getLsbD_or] at h1 h2 ⊢
  cases h3 : a.getLsbD i <;> cases h4 : b.getLsbD i <;> simp_all

theorem and_mask_and {a b m : BitVec 16} (ha : a &&& m = a) : (a &&& b) &&& m = a &&& b := by
  apply BitVec.eq_of_getLsbD_eq
  intro i hi
  have h1 := congrArg (·.getLsbD i) ha
  simp only [BitVec.getLsbD_and] at h1 ⊢
  cases h3 : a.getLsbD i <;> simp_all

theorem FlagsOk.latch {f : FlagRec} (h : FlagsOk f) (g : Flag) : FlagsOk (.of (withFlag f.latched g)) := by
  apply FlagsOk.of_mask
  exact and_mask_or h.2 (by cases g <;> decide)

theorem FlagsOk.clear {f : FlagRec} (h : FlagsOk f) (x : BitVec 16) : FlagsOk (.of (f.latched &&& ~~~x)) :=
  FlagsOk.of_mask (and_mask_and h.2)

/-! ### The Field queues (R160) -/

theorem replaceIn_length (p : Placed) (q : List Placed) : (replaceIn p q).length = q.length := by simp [replaceIn]

theorem Placed.matches_iff (p w : Placed) :
    p.matches w = true ↔ w.frame.kind = p.frame.kind ∧ w.frame.dest = p.frame.dest := by simp [Placed.matches]

theorem FieldPortOk.placeNormal {s : State} (h : FieldPortOk s.fieldPort) (p : Placed) :
    FieldPortOk (s.placeNormal p).fieldPort := by
  rw [State.placeNormal_fieldPort]
  obtain ⟨h1, h2, h3⟩ := h
  split
  · refine ⟨?_, h2, h3⟩
    simpa [FieldPort.normalUsed, replaceIn_length] using h1
  · split
    · rename_i h4
      refine ⟨?_, h2, h3⟩
      simp only [FieldPort.normalUsed, List.length_append, List.length_singleton] at h4 ⊢
      omega
    · exact ⟨h1, h2, h3⟩

theorem FieldPortOk.placeUrgent {s : State} (h : FieldPortOk s.fieldPort) {p : Placed}
    (hk : supersedable p.frame.kind = true) : FieldPortOk (s.placeUrgent p).fieldPort := by
  rw [State.placeUrgent_fieldPort]
  obtain ⟨h1, h2, h3⟩ := h
  refine ⟨?_, ?_, ?_⟩
  · have := List.length_filter_le (fun w => !(p.matches w)) s.fieldPort.normal
    simp only [FieldPort.normalUsed] at h1 ⊢
    omega
  · intro w hw
    dsimp only at hw
    split at hw
    · simp only [replaceIn, List.mem_map] at hw
      obtain ⟨a, ha, rfl⟩ := hw
      split
      · exact hk
      · exact h2 a ha
    · simp only [List.mem_append, List.mem_singleton] at hw
      rcases hw with hw | rfl
      · exact h2 w hw
      · exact hk
  · dsimp only
    split
    · rw [replaceIn, List.pairwise_map]
      refine h3.imp ?_
      intro a b hab
      by_cases ha : p.matches a = true <;> by_cases hb : p.matches b = true <;>
        simp only [ha, hb, if_true, if_false, Bool.false_eq_true] <;>
        (try rw [Placed.matches_iff] at ha) <;> (try rw [Placed.matches_iff] at hb) <;> omega
    · rename_i hn
      rw [List.pairwise_append]
      refine ⟨h3, by simp, ?_⟩
      intro a ha b hb
      simp only [List.mem_singleton] at hb
      subst hb
      have := List.any_eq_false.mp (by simpa using hn) a ha
      rw [Placed.matches_iff] at this
      omega

/-! ### The Station queue (R162) -/

/-- A frame that joins the queue takes one place. -/
theorem StationPort.used_join (p : StationPort) (f : StationFrame) :
    ({ p with queue := p.queue ++ [f] } : StationPort).used = p.used + 1 := by
  simp only [StationPort.used, List.length_append, List.length_singleton]
  omega

/-- A place reserved is a place used. -/
theorem StationPort.used_reserve (p : StationPort) :
    ({ p with reserved := p.reserved + 1 } : StationPort).used = p.used + 1 := by
  simp only [StationPort.used]
  omega

theorem StationPortOk.placeResult {s : State} (h : StationPortOk s.stationPort) (r : DispatchResult) :
    StationPortOk (s.placeResult r).stationPort := by
  rw [State.placeResult_stationPort]
  split
  · rename_i h1
    simp only [StationPortOk, StationPort.used, List.length_append, List.length_singleton] at h1 ⊢
    omega
  · split
    · rename_i h2
      obtain ⟨a, ha, hr⟩ := List.any_eq_true.mp h2
      have := List.length_eraseP_of_mem ha hr
      have : 0 < s.stationPort.queue.length := List.length_pos_of_mem ha
      simp only [StationPortOk, StationPort.used, List.length_append, List.length_singleton] at h ⊢
      omega
    · exact h

theorem StationPortOk.offerForwarded {s : State} (h : StationPortOk s.stationPort) (f : Frame) :
    StationPortOk (s.offerForwarded f).stationPort := by
  rw [State.offerForwarded_stationPort]
  split
  · rename_i h1
    simp only [StationPortOk, StationPort.used, List.length_append, List.length_singleton] at h1 ⊢
    omega
  · exact h

end Sys2Proof.Machine
end

