-- ==== Sys2Proof/Laws/Closed.lean ====
section
/-! SUPPORT. What the inner operations of the part can do, said once: a condition on the state that the primitive
operations on the pieces in `L` keep is kept by every operation that touches no other piece. With `closed_frame` each
lemma is a frame ("changes only these pieces"); with an invariant for `P` it is the invariant's preservation. -/

namespace Sys2Proof.Machine

variable {P : State → Prop} {L : List Part}

/-- `P` is kept by the primitive operations on the pieces in `L`. -/
structure Closed (L : List Part) (P : State → Prop) : Prop where
  setRounds : [.rounds] ⊆ L → ∀ {s : State} {x : Rounds}, P s → P (s.setRounds x)
  setModules : [.modules] ⊆ L → ∀ {s : State} {x : List ModuleRec}, P s → P (s.setModules x)
  setStrings : [.strings] ⊆ L → ∀ {s : State} {x : List StringRec}, P s → P (s.setStrings x)
  setCellsHold : [.cellsHold] ⊆ L → ∀ {s : State} {x : Bool}, P s → P (s.setCellsHold x)
  setLimits : [.limits] ⊆ L → ∀ {s : State} {x : CloseLimits}, P s → P (s.setLimits x)
  setEnvelope : [.envelope] ⊆ L → ∀ {s : State} {x : EnvelopeUnit}, P s → P (s.setEnvelope x)
  setGate : [.gate] ⊆ L → ∀ {s : State} {x : GateRec}, P s → P (s.setGate x)
  setGrid : [.grid] ⊆ L → ∀ {s : State} {x : GridRec}, P s → P (s.setGrid x)
  setConn : [.conn] ⊆ L → ∀ {s : State} {x : ConnRec}, P s → P (s.setConn x)
  setThermal : [.thermal] ⊆ L → ∀ {s : State} {x : Thermal}, P s → P (s.setThermal x)
  setFire : [.fire] ⊆ L → ∀ {s : State} {x : FireUnit}, P s → P (s.setFire x)
  setNodes : [.nodes] ⊆ L → ∀ {s : State} {x : List NodeRec}, P s → P (s.setNodes x)
  setEngine : [.engine] ⊆ L → ∀ {s : State} {x : Engine}, P s → P (s.setEngine x)
  setConfig : [.config] ⊆ L → ∀ {s : State} {x : ConfigStore}, P s → P (s.setConfig x)
  setImage : [.image] ⊆ L → ∀ {s : State} {x : Image}, P s → P (s.setImage x)
  setLines : [.lines] ⊆ L → ∀ {s : State} {x : Lines}, P s → P (s.setLines x)
  setSupply : [.supply] ⊆ L → ∀ {s : State} {x : Supply}, P s → P (s.setSupply x)
  setCounters : [.counters] ⊆ L → ∀ {s : State} {x : Counters}, P s → P (s.setCounters x)
  setChoices : [.choices] ⊆ L → ∀ {s : State} {x : Nat}, P s → P (s.setChoices x)
  latch : [.flags] ⊆ L → ∀ {s : State} {x : Flag}, P s → P (s.latch x)
  clearFlags : [.flags] ⊆ L → ∀ {s : State} {x : BitVec 16}, P s → P (s.clearFlags x)
  placeUrgent : [.fieldPort, .counters] ⊆ L → ∀ {s : State} {x : Placed}, supersedable x.frame.kind = true → P s → P (s.placeUrgent x)
  placeNormal : [.fieldPort, .counters] ⊆ L → ∀ {s : State} {x : Placed}, P s → P (s.placeNormal x)
  offerForwarded : [.stationPort, .counters] ⊆ L → ∀ {s : State} {x : Frame}, P s → P (s.offerForwarded x)
  placeResult : [.stationPort, .counters] ⊆ L → ∀ {s : State} {x : DispatchResult}, P s → P (s.placeResult x)
  raise : [.notices, .counters] ⊆ L → ∀ {s : State} {k : NoticeKind} {x : Option Nat}, P s → P (s.raise k x)

/-! ### Frames of the primitive operations -/

theorem State.changesOnly.trans_of {s t u : State} {K : List Part} (h : s.changesOnly t L) (hL : K ⊆ L)
    (k : t.changesOnly u K) : s.changesOnly u L := State.changesOnly_trans h (State.changesOnly_mono k hL)

theorem setRounds_frame (s : State) (x : Rounds) : s.changesOnly (s.setRounds x) [.rounds] := by
  intro p hp
  cases p <;> first | rfl | exact absurd (by decide) hp

theorem setModules_frame (s : State) (x : List ModuleRec) : s.changesOnly (s.setModules x) [.modules] := by
  intro p hp
  cases p <;> first | rfl | exact absurd (by decide) hp

theorem setStrings_frame (s : State) (x : List StringRec) : s.changesOnly (s.setStrings x) [.strings] := by
  intro p hp
  cases p <;> first | rfl | exact absurd (by decide) hp

theorem setCellsHold_frame (s : State) (x : Bool) : s.changesOnly (s.setCellsHold x) [.cellsHold] := by
  intro p hp
  cases p <;> first | rfl | exact absurd (by decide) hp

theorem setLimits_frame (s : State) (x : CloseLimits) : s.changesOnly (s.setLimits x) [.limits] := by
  intro p hp
  cases p <;> first | rfl | exact absurd (by decide) hp

theorem setEnvelope_frame (s : State) (x : EnvelopeUnit) : s.changesOnly (s.setEnvelope x) [.envelope] := by
  intro p hp
  cases p <;> first | rfl | exact absurd (by decide) hp

theorem setGate_frame (s : State) (x : GateRec) : s.changesOnly (s.setGate x) [.gate] := by
  intro p hp
  cases p <;> first | rfl | exact absurd (by decide) hp

theorem setGrid_frame (s : State) (x : GridRec) : s.changesOnly (s.setGrid x) [.grid] := by
  intro p hp
  cases p <;> first | rfl | exact absurd (by decide) hp

theorem setConn_frame (s : State) (x : ConnRec) : s.changesOnly (s.setConn x) [.conn] := by
  intro p hp
  cases p <;> first | rfl | exact absurd (by decide) hp

theorem setThermal_frame (s : State) (x : Thermal) : s.changesOnly (s.setThermal x) [.thermal] := by
  intro p hp
  cases p <;> first | rfl | exact absurd (by decide) hp

theorem setFire_frame (s : State) (x : FireUnit) : s.changesOnly (s.setFire x) [.fire] := by
  intro p hp
  cases p <;> first | rfl | exact absurd (by decide) hp

theorem setNodes_frame (s : State) (x : List NodeRec) : s.changesOnly (s.setNodes x) [.nodes] := by
  intro p hp
  cases p <;> first | rfl | exact absurd (by decide) hp

theorem setEngine_frame (s : State) (x : Engine) : s.changesOnly (s.setEngine x) [.engine] := by
  intro p hp
  cases p <;> first | rfl | exact absurd (by decide) hp

theorem setConfig_frame (s : State) (x : ConfigStore) : s.changesOnly (s.setConfig x) [.config] := by
  intro p hp
  cases p <;> first | rfl | exact absurd (by decide) hp

theorem setImage_frame (s : State) (x : Image) : s.changesOnly (s.setImage x) [.image] := by
  intro p hp
  cases p <;> first | rfl | exact absurd (by decide) hp

theorem setLines_frame (s : State) (x : Lines) : s.changesOnly (s.setLines x) [.lines] := by
  intro p hp
  cases p <;> first | rfl | exact absurd (by decide) hp

theorem setSupply_frame (s : State) (x : Supply) : s.changesOnly (s.setSupply x) [.supply] := by
  intro p hp
  cases p <;> first | rfl | exact absurd (by decide) hp

theorem setCounters_frame (s : State) (x : Counters) : s.changesOnly (s.setCounters x) [.counters] := by
  intro p hp
  cases p <;> first | rfl | exact absurd (by decide) hp

theorem setChoices_frame (s : State) (x : Nat) : s.changesOnly (s.setChoices x) [.choices] := by
  intro p hp
  cases p <;> first | rfl | exact absurd (by decide) hp

theorem latch_frame (s : State) (x : Flag) : s.changesOnly (s.latch x) [.flags] := by
  intro p hp
  cases p <;> first | rfl | exact absurd (by decide) hp

theorem clearFlags_frame (s : State) (x : BitVec 16) : s.changesOnly (s.clearFlags x) [.flags] := by
  intro p hp
  cases p <;> first | rfl | exact absurd (by decide) hp

theorem placeUrgent_frame (s : State) (x : Placed) : s.changesOnly (s.placeUrgent x) [.fieldPort, .counters] := by
  intro p hp
  cases p <;> first | rfl | exact absurd (by decide) hp

theorem placeNormal_frame (s : State) (x : Placed) : s.changesOnly (s.placeNormal x) [.fieldPort, .counters] := by
  intro p hp
  unfold State.placeNormal
  cases p <;> first | exact absurd (by decide) hp | (repeat' split) <;> rfl

theorem offerForwarded_frame (s : State) (x : Frame) : s.changesOnly (s.offerForwarded x) [.stationPort, .counters]
    := by
  intro p hp
  unfold State.offerForwarded
  cases p <;> first | exact absurd (by decide) hp | (repeat' split) <;> rfl

theorem placeResult_frame (s : State) (x : DispatchResult) : s.changesOnly (s.placeResult x) [.stationPort,
    .counters] := by
  intro p hp
  unfold State.placeResult
  cases p <;> first | exact absurd (by decide) hp | (repeat' split) <;> rfl

theorem raise_frame (s : State) (k : NoticeKind) (x : Option Nat) : s.changesOnly (s.raise k x) [.notices, .counters] := by
  intro p hp
  rw [State.raise_eq]
  cases p <;> first | rfl | exact absurd (by decide) hp

/-- Every primitive operation on the pieces in `L` changes only those: with this, each lemma below is a frame. -/
theorem closed_frame (s : State) (L : List Part) : Closed L (fun t => s.changesOnly t L) where
  setRounds := fun hL _ _ h => h.trans_of hL (setRounds_frame _ _)
  setModules := fun hL _ _ h => h.trans_of hL (setModules_frame _ _)
  setStrings := fun hL _ _ h => h.trans_of hL (setStrings_frame _ _)
  setCellsHold := fun hL _ _ h => h.trans_of hL (setCellsHold_frame _ _)
  setLimits := fun hL _ _ h => h.trans_of hL (setLimits_frame _ _)
  setEnvelope := fun hL _ _ h => h.trans_of hL (setEnvelope_frame _ _)
  setGate := fun hL _ _ h => h.trans_of hL (setGate_frame _ _)
  setGrid := fun hL _ _ h => h.trans_of hL (setGrid_frame _ _)
  setConn := fun hL _ _ h => h.trans_of hL (setConn_frame _ _)
  setThermal := fun hL _ _ h => h.trans_of hL (setThermal_frame _ _)
  setFire := fun hL _ _ h => h.trans_of hL (setFire_frame _ _)
  setNodes := fun hL _ _ h => h.trans_of hL (setNodes_frame _ _)
  setEngine := fun hL _ _ h => h.trans_of hL (setEngine_frame _ _)
  setConfig := fun hL _ _ h => h.trans_of hL (setConfig_frame _ _)
  setImage := fun hL _ _ h => h.trans_of hL (setImage_frame _ _)
  setLines := fun hL _ _ h => h.trans_of hL (setLines_frame _ _)
  setSupply := fun hL _ _ h => h.trans_of hL (setSupply_frame _ _)
  setCounters := fun hL _ _ h => h.trans_of hL (setCounters_frame _ _)
  setChoices := fun hL _ _ h => h.trans_of hL (setChoices_frame _ _)
  latch := fun hL _ _ h => h.trans_of hL (latch_frame _ _)
  clearFlags := fun hL _ _ h => h.trans_of hL (clearFlags_frame _ _)
  placeUrgent := fun hL _ _ _ h => h.trans_of hL (placeUrgent_frame _ _)
  placeNormal := fun hL _ _ h => h.trans_of hL (placeNormal_frame _ _)
  offerForwarded := fun hL _ _ h => h.trans_of hL (offerForwarded_frame _ _)
  placeResult := fun hL _ _ h => h.trans_of hL (placeResult_frame _ _)
  raise := fun hL _ _ _ h => h.trans_of hL (raise_frame _ _ _)

theorem keeps_ite {c : Prop} [Decidable c] {a b : State} (ha : P a) (hb : P b) : P (if c then a else b) := by
  split <;> assumption

theorem keeps_foldl {α : Type} {f : State → α → State} {l : List α} {s : State} (hf : ∀ s a, P s → P (f s a))
    (hs : P s) : P (l.foldl f s) := by
  induction l generalizing s with
  | nil => exact hs
  | cons a l ih => exact ih (hf _ _ hs)

theorem Closed.forEach (_ : Closed L P) {s : State} {is : List Nat} {f : Nat → State → State}
    (hf : ∀ i s, P s → P (f i s)) (hs : P s) : P (s.forEach is f) :=
  keeps_foldl (fun s i => hf i s) hs

theorem Closed.chooseGate (h : Closed L P) (hL : [.choices] ⊆ L) {s : State} {f : State → Bool → State}
    (hf : ∀ s b, P s → P (f s b)) (hs : P s) : P (s.chooseGate f) := hf _ _ (h.setChoices hL hs)

theorem Closed.hand (_ : Closed L P) {α : Type} {s : State} {r : Reader α} {payload : List Byte}
    {f : State → α → State} (hf : ∀ s a, P s → P (f s a)) (hs : P s) : P (s.hand r payload f) := by
  unfold State.hand
  split
  · exact hf _ _ hs
  · exact hs

theorem Closed.modModule (h : Closed L P) (hL : [.modules] ⊆ L) {s : State} {m : Nat} {f : ModuleRec → ModuleRec} (hs
    : P s) : P (State.modModule s m f) := by
  unfold State.modModule
  try dsimp only
  repeat'
    first
    | with_reducible assumption
    | with_reducible apply h.setModules (List.Subset.trans (by decide) hL)
    | split

theorem Closed.modString (h : Closed L P) (hL : [.strings] ⊆ L) {s : State} {i : Nat} {f : StringRec → StringRec} (hs
    : P s) : P (State.modString s i f) := by
  unfold State.modString
  try dsimp only
  repeat'
    first
    | with_reducible assumption
    | with_reducible apply h.setStrings (List.Subset.trans (by decide) hL)
    | split

theorem Closed.modCharge (h : Closed L P) (hL : [.strings] ⊆ L) {s : State} {i : Nat} {f : ChargeRec → ChargeRec} (hs
    : P s) : P (State.modCharge s i f) := by
  unfold State.modCharge
  try dsimp only
  repeat'
    first
    | with_reducible assumption
    | with_reducible apply h.modString (List.Subset.trans (by decide) hL)
    | intro _ _ _
    | split

theorem Closed.modFireZone (h : Closed L P) (hL : [.fire] ⊆ L) {s : State} {z : Nat} {f : FireZone → FireZone} (hs :
    P s) : P (State.modFireZone s z f) := by
  unfold State.modFireZone
  try dsimp only
  repeat'
    first
    | with_reducible assumption
    | with_reducible apply h.setFire (List.Subset.trans (by decide) hL)
    | split

theorem Closed.modDetector (h : Closed L P) (hL : [.fire] ⊆ L) {s : State} {i : Nat} {f : DetectorRec → DetectorRec}
    (hs : P s) : P (State.modDetector s i f) := by
  unfold State.modDetector
  try dsimp only
  repeat'
    first
    | with_reducible assumption
    | with_reducible apply h.setFire (List.Subset.trans (by decide) hL)
    | split

theorem Closed.modStage (h : Closed L P) (hL : [.grid] ⊆ L) {s : State} {i : Nat} {f : StageRec → StageRec} (hs : P
    s) : P (State.modStage s i f) := by
  unfold State.modStage
  try dsimp only
  repeat'
    first
    | with_reducible assumption
    | with_reducible apply h.setGrid (List.Subset.trans (by decide) hL)
    | split

theorem Closed.modNode (h : Closed L P) (hL : [.nodes] ⊆ L) {s : State} {i : Nat} {f : NodeRec → NodeRec} (hs : P s)
    : P (State.modNode s i f) := by
  unfold State.modNode
  try dsimp only
  repeat'
    first
    | with_reducible assumption
    | with_reducible apply h.setNodes (List.Subset.trans (by decide) hL)
    | split

theorem Closed.modLine (h : Closed L P) (hL : [.lines] ⊆ L) {s : State} {i : Nat} {f : LineRec → LineRec} (hs : P s)
    : P (State.modLine s i f) := by
  unfold State.modLine
  try dsimp only
  repeat'
    first
    | with_reducible assumption
    | with_reducible apply h.setLines (List.Subset.trans (by decide) hL)
    | split

theorem Closed.count (h : Closed L P) (hL : [.counters] ⊆ L) {s : State} {f : Counters → Counters} (hs : P s) : P
    (State.count s f) := by
  unfold State.count
  try dsimp only
  repeat'
    first
    | with_reducible assumption
    | with_reducible apply h.setCounters (List.Subset.trans (by decide) hL)
    | split

theorem Closed.countPort (h : Closed L P) (hL : [.counters] ⊆ L) {s : State} {p : Port} {f : PortCounters →
    PortCounters} (hs : P s) : P (State.countPort s p f) := by
  unfold State.countPort
  try dsimp only
  repeat'
    first
    | with_reducible assumption
    | with_reducible apply h.count (List.Subset.trans (by decide) hL)
    | intro _ _ _
    | split

theorem Closed.evaluate (h : Closed L P) (hL : [.envelope] ⊆ L) {s : State} (hs : P s) : P (State.evaluate s) := by
  unfold State.evaluate
  try dsimp only
  repeat'
    first
    | with_reducible assumption
    | with_reducible apply h.setEnvelope (List.Subset.trans (by decide) hL)
    | split

theorem Closed.placeDispatch (h : Closed L P) (hL : [.gate, .fieldPort, .counters] ⊆ L) {s : State} {type :
    FrameType} {address : Nat} {m : Making} (hs : P s) : P (State.placeDispatch s type address m) := by
  unfold State.placeDispatch
  try dsimp only
  repeat'
    first
    | with_reducible assumption
    | with_reducible apply h.placeUrgent (List.Subset.trans (by decide) hL)
    | with_reducible apply h.setGate (List.Subset.trans (by decide) hL)
    | with_reducible apply h.placeNormal (List.Subset.trans (by decide) hL)
    | with_reducible apply h.count (List.Subset.trans (by decide) hL)
    | with_reducible apply keeps_ite
    | intro _ _ _
    | rfl
    | split

theorem Closed.makeFrame (h : Closed L P) (hL : [.envelope, .gate, .fieldPort, .counters] ⊆ L) {s : State} {type :
    FrameType} (hs : P s) : P (State.makeFrame s type) := by
  unfold State.makeFrame
  try dsimp only
  repeat'
    first
    | with_reducible assumption
    | with_reducible apply h.evaluate (List.Subset.trans (by decide) hL)
    | with_reducible apply h.count (List.Subset.trans (by decide) hL)
    | with_reducible apply h.placeDispatch (List.Subset.trans (by decide) hL)
    | intro _ _ _
    | split

theorem Closed.correct (h : Closed L P) (hL : [.envelope, .gate, .fieldPort, .notices, .counters] ⊆ L) {s : State}
    (hs : P s) : P (State.correct s) := by
  unfold State.correct
  try dsimp only
  repeat'
    first
    | with_reducible assumption
    | with_reducible apply h.makeFrame (List.Subset.trans (by decide) hL)
    | with_reducible apply h.raise (List.Subset.trans (by decide) hL)
    | with_reducible apply keeps_ite
    | split

theorem Closed.changeEval (h : Closed L P) (hL : [.envelope, .gate, .fieldPort, .notices, .counters] ⊆ L) {s : State}
    (hs : P s) : P (State.changeEval s) := by
  unfold State.changeEval
  try dsimp only
  repeat'
    first
    | with_reducible assumption
    | with_reducible apply h.evaluate (List.Subset.trans (by decide) hL)
    | with_reducible apply h.correct (List.Subset.trans (by decide) hL)
    | with_reducible apply keeps_ite
    | split

theorem Closed.stationHeard (h : Closed L P) (hL : [.gate, .notices, .counters] ⊆ L) {s : State} (hs : P s) : P
    (State.stationHeard s) := by
  unfold State.stationHeard
  try dsimp only
  repeat'
    first
    | with_reducible assumption
    | with_reducible apply h.setGate (List.Subset.trans (by decide) hL)
    | with_reducible apply h.raise (List.Subset.trans (by decide) hL)
    | with_reducible apply keeps_ite
    | split

theorem Closed.holdForEStop (h : Closed L P) (hL : [.envelope, .gate, .fieldPort, .notices, .counters] ⊆ L) {s :
    State} (hs : P s) : P (State.holdForEStop s) := by
  unfold State.holdForEStop
  try dsimp only
  repeat'
    first
    | with_reducible assumption
    | with_reducible apply h.setGate (List.Subset.trans (by decide) hL)
    | with_reducible apply h.raise (List.Subset.trans (by decide) hL)
    | with_reducible apply h.correct (List.Subset.trans (by decide) hL)
    | with_reducible apply keeps_ite
    | split

theorem Closed.takeDispatch (h : Closed L P) (hL : [.envelope, .gate, .fieldPort, .stationPort, .counters] ⊆ L) {s :
    State} {dest : Nat} {o : DispatchOrder} (hs : P s) : P (State.takeDispatch s dest o) := by
  unfold State.takeDispatch
  try dsimp only
  repeat'
    first
    | with_reducible assumption
    | with_reducible apply h.setGate (List.Subset.trans (by decide) hL)
    | with_reducible apply h.evaluate (List.Subset.trans (by decide) hL)
    | with_reducible apply h.placeDispatch (List.Subset.trans (by decide) hL)
    | with_reducible apply h.placeResult (List.Subset.trans (by decide) hL)
    | with_reducible apply h.count (List.Subset.trans (by decide) hL)
    | with_reducible apply keeps_ite
    | intro _ _ _
    | split

theorem Closed.stationSilent (h : Closed L P) (hL : [.envelope, .gate, .fieldPort, .notices, .counters] ⊆ L) {s :
    State} (hs : P s) : P (State.stationSilent s) := by
  unfold State.stationSilent
  try dsimp only
  repeat'
    first
    | with_reducible assumption
    | with_reducible apply h.setGate (List.Subset.trans (by decide) hL)
    | with_reducible apply h.raise (List.Subset.trans (by decide) hL)
    | with_reducible apply h.makeFrame (List.Subset.trans (by decide) hL)
    | with_reducible apply keeps_ite
    | split

theorem Closed.gateSample (h : Closed L P) (hL : [.envelope, .gate, .fieldPort, .counters] ⊆ L) {s : State} (hs : P
    s) : P (State.gateSample s) := by
  unfold State.gateSample
  try dsimp only
  repeat'
    first
    | with_reducible assumption
    | with_reducible apply h.makeFrame (List.Subset.trans (by decide) hL)
    | with_reducible apply keeps_ite
    | split

theorem Closed.takePcsStatus (h : Closed L P) (hL : [.gate, .notices, .counters] ⊆ L) {s : State} {r : PcsStatus} (hs
    : P s) : P (State.takePcsStatus s r) := by
  unfold State.takePcsStatus
  try dsimp only
  repeat'
    first
    | with_reducible assumption
    | with_reducible apply h.setGate (List.Subset.trans (by decide) hL)
    | with_reducible apply h.raise (List.Subset.trans (by decide) hL)
    | with_reducible apply keeps_ite
    | split

theorem Closed.pcsSilent (h : Closed L P) (hL : [.gate] ⊆ L) {s : State} (hs : P s) : P (State.pcsSilent s) := by
  unfold State.pcsSilent
  try dsimp only
  repeat'
    first
    | with_reducible assumption
    | with_reducible apply h.setGate (List.Subset.trans (by decide) hL)
    | split

theorem Closed.connTo (h : Closed L P) (hL : [.envelope, .gate, .conn, .fieldPort, .notices, .counters] ⊆ L) {s :
    State} {c : ConnState} (hs : P s) : P (State.connTo s c) := by
  unfold State.connTo
  try dsimp only
  repeat'
    first
    | with_reducible assumption
    | with_reducible apply h.setConn (List.Subset.trans (by decide) hL)
    | with_reducible apply h.changeEval (List.Subset.trans (by decide) hL)
    | split

theorem Closed.pulseTrip (h : Closed L P) (hL : [.conn] ⊆ L) {s : State} (hs : P s) : P (State.pulseTrip s) := by
  unfold State.pulseTrip
  try dsimp only
  repeat'
    first
    | with_reducible assumption
    | with_reducible apply h.setConn (List.Subset.trans (by decide) hL)
    | split

theorem Closed.lockOut (h : Closed L P) (hL : [.conn, .flags] ⊆ L) {s : State} {l : Lockout} (hs : P s) : P
    (State.lockOut s l) := by
  unfold State.lockOut
  try dsimp only
  repeat'
    first
    | with_reducible assumption
    | with_reducible apply h.setConn (List.Subset.trans (by decide) hL)
    | with_reducible apply h.latch (List.Subset.trans (by decide) hL)
    | split

theorem Closed.recordTrip (h : Closed L P) (hL : [.conn, .counters] ⊆ L) {s : State} {c : TripCause} (hs : P s) : P
    (State.recordTrip s c) := by
  unfold State.recordTrip
  try dsimp only
  repeat'
    first
    | with_reducible assumption
    | with_reducible apply h.setConn (List.Subset.trans (by decide) hL)
    | with_reducible apply h.count (List.Subset.trans (by decide) hL)
    | intro _ _ _
    | split

theorem Closed.tripOpen (h : Closed L P) (hL : [.envelope, .gate, .conn, .fieldPort, .notices, .flags, .counters] ⊆
    L) {s : State} {c : TripCause} (hs : P s) : P (State.tripOpen s c) := by
  unfold State.tripOpen
  try dsimp only
  repeat'
    first
    | with_reducible assumption
    | with_reducible apply h.recordTrip (List.Subset.trans (by decide) hL)
    | with_reducible apply h.lockOut (List.Subset.trans (by decide) hL)
    | with_reducible apply h.pulseTrip (List.Subset.trans (by decide) hL)
    | with_reducible apply h.setConn (List.Subset.trans (by decide) hL)
    | with_reducible apply h.raise (List.Subset.trans (by decide) hL)
    | with_reducible apply h.changeEval (List.Subset.trans (by decide) hL)
    | with_reducible apply keeps_ite
    | split

theorem Closed.stopReconnect (h : Closed L P) (hL : [.envelope, .gate, .conn, .fieldPort, .notices, .counters] ⊆ L)
    {s : State} (hs : P s) : P (State.stopReconnect s) := by
  unfold State.stopReconnect
  try dsimp only
  repeat'
    first
    | with_reducible assumption
    | with_reducible apply h.setConn (List.Subset.trans (by decide) hL)
    | with_reducible apply h.connTo (List.Subset.trans (by decide) hL)
    | split

theorem Closed.trip (h : Closed L P) (hL : [.envelope, .gate, .conn, .fieldPort, .notices, .flags, .counters] ⊆ L) {s
    : State} {c : TripCause} (hs : P s) : P (State.trip s c) := by
  unfold State.trip
  try dsimp only
  repeat'
    first
    | with_reducible assumption
    | with_reducible apply h.tripOpen (List.Subset.trans (by decide) hL)
    | with_reducible apply h.setConn (List.Subset.trans (by decide) hL)
    | with_reducible apply h.lockOut (List.Subset.trans (by decide) hL)
    | with_reducible apply h.connTo (List.Subset.trans (by decide) hL)
    | with_reducible apply h.stopReconnect (List.Subset.trans (by decide) hL)
    | with_reducible apply keeps_ite
    | split

theorem Closed.followStages (h : Closed L P) (hL : [.envelope, .gate, .conn, .fieldPort, .notices, .counters] ⊆ L) {s
    : State} (hs : P s) : P (State.followStages s) := by
  unfold State.followStages
  try dsimp only
  repeat'
    first
    | with_reducible assumption
    | with_reducible apply h.setConn (List.Subset.trans (by decide) hL)
    | with_reducible apply h.count (List.Subset.trans (by decide) hL)
    | with_reducible apply h.raise (List.Subset.trans (by decide) hL)
    | with_reducible apply h.changeEval (List.Subset.trans (by decide) hL)
    | with_reducible apply h.connTo (List.Subset.trans (by decide) hL)
    | with_reducible apply keeps_ite
    | intro _ _ _
    | split

theorem Closed.takeClosed (h : Closed L P) (hL : [.envelope, .gate, .conn, .fieldPort, .notices, .counters] ⊆ L) {s :
    State} (hs : P s) : P (State.takeClosed s) := by
  unfold State.takeClosed
  try dsimp only
  repeat'
    first
    | with_reducible assumption
    | with_reducible apply h.count (List.Subset.trans (by decide) hL)
    | with_reducible apply h.connTo (List.Subset.trans (by decide) hL)
    | with_reducible apply keeps_ite
    | intro _ _ _
    | split

theorem Closed.reconnectSample (h : Closed L P) (hL : [.envelope, .gate, .conn, .fieldPort, .notices, .counters] ⊆ L)
    {s : State} (hs : P s) : P (State.reconnectSample s) := by
  unfold State.reconnectSample
  try dsimp only
  repeat'
    first
    | with_reducible assumption
    | with_reducible apply h.setConn (List.Subset.trans (by decide) hL)
    | with_reducible apply h.connTo (List.Subset.trans (by decide) hL)
    | with_reducible apply h.stopReconnect (List.Subset.trans (by decide) hL)
    | with_reducible apply keeps_ite
    | split

theorem Closed.watchReconnect (h : Closed L P) (hL : [.envelope, .gate, .conn, .fieldPort, .notices, .counters] ⊆ L)
    {s : State} (hs : P s) : P (State.watchReconnect s) := by
  unfold State.watchReconnect
  try dsimp only
  repeat'
    first
    | with_reducible assumption
    | with_reducible apply h.stopReconnect (List.Subset.trans (by decide) hL)
    | with_reducible apply keeps_ite
    | split

theorem Closed.beginClose (h : Closed L P) (hL : [.envelope, .gate, .conn, .fieldPort, .notices, .counters] ⊆ L) {s :
    State} (hs : P s) : P (State.beginClose s) := by
  unfold State.beginClose
  try dsimp only
  repeat'
    first
    | with_reducible assumption
    | with_reducible apply h.setConn (List.Subset.trans (by decide) hL)
    | with_reducible apply h.connTo (List.Subset.trans (by decide) hL)
    | split

theorem Closed.enforceOpen (h : Closed L P) (hL : [.envelope, .gate, .conn, .fieldPort, .notices, .counters] ⊆ L) {s
    : State} (hs : P s) : P (State.enforceOpen s) := by
  unfold State.enforceOpen
  try dsimp only
  repeat'
    first
    | with_reducible assumption
    | with_reducible apply h.pulseTrip (List.Subset.trans (by decide) hL)
    | with_reducible apply h.setConn (List.Subset.trans (by decide) hL)
    | with_reducible apply h.connTo (List.Subset.trans (by decide) hL)
    | with_reducible apply keeps_ite
    | split

theorem Closed.foundClosed (h : Closed L P) (hL : [.envelope, .gate, .conn, .fieldPort, .notices, .flags, .counters]
    ⊆ L) {s : State} {byHand : Bool} (hs : P s) : P (State.foundClosed s byHand) := by
  unfold State.foundClosed
  try dsimp only
  repeat'
    first
    | with_reducible assumption
    | with_reducible apply h.setConn (List.Subset.trans (by decide) hL)
    | with_reducible apply h.enforceOpen (List.Subset.trans (by decide) hL)
    | with_reducible apply h.tripOpen (List.Subset.trans (by decide) hL)
    | with_reducible apply h.raise (List.Subset.trans (by decide) hL)
    | with_reducible apply h.takeClosed (List.Subset.trans (by decide) hL)
    | with_reducible apply keeps_ite
    | split

theorem Closed.externalOpen (h : Closed L P) (hL : [.envelope, .gate, .conn, .fieldPort, .notices, .flags, .counters]
    ⊆ L) {s : State} (hs : P s) : P (State.externalOpen s) := by
  unfold State.externalOpen
  try dsimp only
  repeat'
    first
    | with_reducible assumption
    | with_reducible apply h.recordTrip (List.Subset.trans (by decide) hL)
    | with_reducible apply h.lockOut (List.Subset.trans (by decide) hL)
    | with_reducible apply h.raise (List.Subset.trans (by decide) hL)
    | with_reducible apply h.connTo (List.Subset.trans (by decide) hL)
    | with_reducible apply keeps_ite
    | split

theorem Closed.openedAsTold (h : Closed L P) (hL : [.envelope, .gate, .conn, .fieldPort, .notices, .counters] ⊆ L) {s
    : State} (hs : P s) : P (State.openedAsTold s) := by
  unfold State.openedAsTold
  try dsimp only
  repeat'
    first
    | with_reducible assumption
    | with_reducible apply h.setConn (List.Subset.trans (by decide) hL)
    | with_reducible apply h.connTo (List.Subset.trans (by decide) hL)
    | with_reducible apply keeps_ite
    | split

theorem Closed.closedAsTold (h : Closed L P) (hL : [.envelope, .gate, .conn, .fieldPort, .notices, .counters] ⊆ L) {s
    : State} (hs : P s) : P (State.closedAsTold s) := by
  unfold State.closedAsTold
  try dsimp only
  repeat'
    first
    | with_reducible assumption
    | with_reducible apply h.setConn (List.Subset.trans (by decide) hL)
    | with_reducible apply h.raise (List.Subset.trans (by decide) hL)
    | with_reducible apply h.takeClosed (List.Subset.trans (by decide) hL)
    | with_reducible apply keeps_ite
    | split

theorem Closed.breakerMoved (h : Closed L P) (hL : [.envelope, .gate, .conn, .fieldPort, .notices, .flags, .counters]
    ⊆ L) {s : State} {closed : Bool} (hs : P s) : P (State.breakerMoved s closed) := by
  unfold State.breakerMoved
  try dsimp only
  repeat'
    first
    | with_reducible assumption
    | with_reducible apply h.setConn (List.Subset.trans (by decide) hL)
    | with_reducible apply h.externalOpen (List.Subset.trans (by decide) hL)
    | with_reducible apply h.pulseTrip (List.Subset.trans (by decide) hL)
    | with_reducible apply h.openedAsTold (List.Subset.trans (by decide) hL)
    | with_reducible apply h.closedAsTold (List.Subset.trans (by decide) hL)
    | with_reducible apply h.foundClosed (List.Subset.trans (by decide) hL)
    | with_reducible apply keeps_ite
    | split

theorem Closed.adoptBreaker (h : Closed L P) (hL : [.envelope, .gate, .conn, .fieldPort, .notices, .flags, .counters]
    ⊆ L) {s : State} {closed : Bool} (hs : P s) : P (State.adoptBreaker s closed) := by
  unfold State.adoptBreaker
  try dsimp only
  repeat'
    first
    | with_reducible assumption
    | with_reducible apply h.setConn (List.Subset.trans (by decide) hL)
    | with_reducible apply h.foundClosed (List.Subset.trans (by decide) hL)
    | with_reducible apply keeps_ite
    | split

theorem Closed.openTimedOut (h : Closed L P) (hL : [.envelope, .gate, .conn, .fieldPort, .notices, .flags, .counters]
    ⊆ L) {s : State} (hs : P s) : P (State.openTimedOut s) := by
  unfold State.openTimedOut
  try dsimp only
  repeat'
    first
    | with_reducible assumption
    | with_reducible apply h.latch (List.Subset.trans (by decide) hL)
    | with_reducible apply h.raise (List.Subset.trans (by decide) hL)
    | with_reducible apply h.setConn (List.Subset.trans (by decide) hL)
    | with_reducible apply h.connTo (List.Subset.trans (by decide) hL)
    | split

theorem Closed.closeTimedOut (h : Closed L P) (hL : [.envelope, .gate, .conn, .fieldPort, .notices, .flags,
    .counters] ⊆ L) {s : State} (hs : P s) : P (State.closeTimedOut s) := by
  unfold State.closeTimedOut
  try dsimp only
  repeat'
    first
    | with_reducible assumption
    | with_reducible apply h.latch (List.Subset.trans (by decide) hL)
    | with_reducible apply h.raise (List.Subset.trans (by decide) hL)
    | with_reducible apply h.setConn (List.Subset.trans (by decide) hL)
    | with_reducible apply h.connTo (List.Subset.trans (by decide) hL)
    | split

theorem Closed.disconnect (h : Closed L P) (hL : [.envelope, .gate, .conn, .fieldPort, .notices, .flags, .counters] ⊆
    L) {s : State} (hs : P s) : P (State.disconnect s) := by
  unfold State.disconnect
  try dsimp only
  repeat'
    first
    | with_reducible assumption
    | with_reducible apply h.setConn (List.Subset.trans (by decide) hL)
    | with_reducible apply h.trip (List.Subset.trans (by decide) hL)
    | with_reducible apply h.stopReconnect (List.Subset.trans (by decide) hL)
    | split

theorem Closed.resetLockout (h : Closed L P) (hL : [.envelope, .gate, .conn, .fieldPort, .notices, .counters] ⊆ L) {s
    : State} (hs : P s) : P (State.resetLockout s) := by
  unfold State.resetLockout
  try dsimp only
  repeat'
    first
    | with_reducible assumption
    | with_reducible apply h.setConn (List.Subset.trans (by decide) hL)
    | with_reducible apply h.connTo (List.Subset.trans (by decide) hL)
    | split

theorem Closed.truncateHistory (h : Closed L P) (hL : [.conn] ⊆ L) {s : State} (hs : P s) : P (State.truncateHistory
    s) := by
  unfold State.truncateHistory
  try dsimp only
  repeat'
    first
    | with_reducible assumption
    | with_reducible apply h.setConn (List.Subset.trans (by decide) hL)
    | with_reducible apply keeps_ite
    | split

theorem Closed.evaluateStage (h : Closed L P) (hL : [.grid] ⊆ L) {i : Nat} {s : State} (hs : P s) : P
    (State.evaluateStage i s) := by
  unfold State.evaluateStage
  try dsimp only
  repeat'
    first
    | with_reducible assumption
    | with_reducible apply h.modStage (List.Subset.trans (by decide) hL)
    | intro _ _ _
    | split

theorem Closed.stageActs (h : Closed L P) (hL : [.envelope, .gate, .conn, .fieldPort, .notices, .flags, .counters] ⊆
    L) {i : Nat} {s : State} (hs : P s) : P (State.stageActs i s) := by
  unfold State.stageActs
  try dsimp only
  repeat'
    first
    | with_reducible assumption
    | with_reducible apply h.trip (List.Subset.trans (by decide) hL)
    | with_reducible apply h.raise (List.Subset.trans (by decide) hL)
    | split

theorem Closed.evaluateStages (h : Closed L P) (hL : [.envelope, .gate, .grid, .conn, .fieldPort, .notices, .flags,
    .counters] ⊆ L) {s : State} (hs : P s) : P (State.evaluateStages s) := by
  unfold State.evaluateStages
  try dsimp only
  repeat'
    first
    | with_reducible assumption
    | with_reducible apply h.forEach
    | with_reducible apply h.evaluateStage (List.Subset.trans (by decide) hL)
    | with_reducible apply h.stageActs (List.Subset.trans (by decide) hL)
    | with_reducible apply h.followStages (List.Subset.trans (by decide) hL)
    | intro _ _ _
    | split

theorem Closed.handSample (h : Closed L P) (hL : [.envelope, .gate, .grid, .conn, .fieldPort, .notices, .flags,
    .counters] ⊆ L) {s : State} {gateIsFirst : Bool} (hs : P s) : P (State.handSample s gateIsFirst) := by
  unfold State.handSample
  try dsimp only
  repeat'
    first
    | with_reducible assumption
    | with_reducible apply h.gateSample (List.Subset.trans (by decide) hL)
    | with_reducible apply h.evaluateStages (List.Subset.trans (by decide) hL)
    | with_reducible apply h.reconnectSample (List.Subset.trans (by decide) hL)
    | with_reducible apply keeps_ite
    | split

theorem Closed.gridSampleWith (h : Closed L P) (hL : [.envelope, .gate, .grid, .conn, .fieldPort, .notices, .flags,
    .counters] ⊆ L) {s : State} {x : GridSample} {gateIsFirst : Bool} (hs : P s) : P (State.gridSampleWith s x
    gateIsFirst) := by
  unfold State.gridSampleWith
  try dsimp only
  repeat'
    first
    | with_reducible assumption
    | with_reducible apply h.count (List.Subset.trans (by decide) hL)
    | with_reducible apply h.setGrid (List.Subset.trans (by decide) hL)
    | with_reducible apply h.handSample (List.Subset.trans (by decide) hL)
    | intro _ _ _
    | split

theorem Closed.takeGridSample (h : Closed L P) (hL : [.envelope, .gate, .grid, .conn, .fieldPort, .notices, .flags,
    .counters, .choices] ⊆ L) {s : State} {x : GridSample} (hs : P s) : P (State.takeGridSample s x) := by
  unfold State.takeGridSample
  try dsimp only
  repeat'
    first
    | with_reducible assumption
    | with_reducible apply h.chooseGate (List.Subset.trans (by decide) hL)
    | with_reducible apply h.gridSampleWith (List.Subset.trans (by decide) hL)
    | intro _ _ _
    | split

theorem Closed.stageDelayOver (h : Closed L P) (hL : [.envelope, .gate, .grid, .conn, .fieldPort, .notices, .flags,
    .counters] ⊆ L) {s : State} {i : Nat} (hs : P s) : P (State.stageDelayOver s i) := by
  unfold State.stageDelayOver
  try dsimp only
  repeat'
    first
    | with_reducible assumption
    | with_reducible apply h.modStage (List.Subset.trans (by decide) hL)
    | with_reducible apply h.stageActs (List.Subset.trans (by decide) hL)
    | intro _ _ _
    | split

theorem Closed.meterSilent (h : Closed L P) (hL : [.envelope, .gate, .grid, .conn, .fieldPort, .notices, .flags,
    .counters] ⊆ L) {s : State} (hs : P s) : P (State.meterSilent s) := by
  unfold State.meterSilent
  try dsimp only
  repeat'
    first
    | with_reducible assumption
    | with_reducible apply h.setGrid (List.Subset.trans (by decide) hL)
    | with_reducible apply h.trip (List.Subset.trans (by decide) hL)
    | split

theorem Closed.clearStages (h : Closed L P) (hL : [.envelope, .gate, .grid, .conn, .fieldPort, .notices, .counters] ⊆
    L) {s : State} {stages : List Nat} (hs : P s) : P (State.clearStages s stages) := by
  unfold State.clearStages
  try dsimp only
  repeat'
    first
    | with_reducible assumption
    | with_reducible apply h.forEach
    | with_reducible apply h.modStage (List.Subset.trans (by decide) hL)
    | with_reducible apply h.followStages (List.Subset.trans (by decide) hL)
    | intro _ _ _
    | split

theorem Closed.uncalibrate (h : Closed L P) (hL : [.strings, .notices, .counters] ⊆ L) {s : State} {i : Nat} (hs : P
    s) : P (State.uncalibrate s i) := by
  unfold State.uncalibrate
  try dsimp only
  repeat'
    first
    | with_reducible assumption
    | with_reducible apply h.modCharge (List.Subset.trans (by decide) hL)
    | with_reducible apply h.raise (List.Subset.trans (by decide) hL)
    | with_reducible apply keeps_ite
    | intro _ _ _
    | split

theorem Closed.countReport (h : Closed L P) (hL : [.strings, .notices, .counters] ⊆ L) {s : State} {i : Nat} {x :
    StringReport} (hs : P s) : P (State.countReport s i x) := by
  unfold State.countReport
  try dsimp only
  repeat'
    first
    | with_reducible assumption
    | with_reducible apply h.modCharge (List.Subset.trans (by decide) hL)
    | with_reducible apply h.uncalibrate (List.Subset.trans (by decide) hL)
    | intro _ _ _
    | split

theorem Closed.calibrate (h : Closed L P) (hL : [.strings, .notices, .counters] ⊆ L) {s : State} {i : Nat} {x :
    QuietExtremes} (hs : P s) : P (State.calibrate s i x) := by
  unfold State.calibrate
  try dsimp only
  repeat'
    first
    | with_reducible assumption
    | with_reducible apply h.raise (List.Subset.trans (by decide) hL)
    | with_reducible apply h.modCharge (List.Subset.trans (by decide) hL)
    | intro _ _ _
    | split

theorem Closed.placeBleedSet (h : Closed L P) (hL : [.modules, .fieldPort, .counters] ⊆ L) {m : Nat} {s : State} (hs
    : P s) : P (State.placeBleedSet m s) := by
  unfold State.placeBleedSet
  try dsimp only
  repeat'
    first
    | with_reducible assumption
    | with_reducible apply h.placeNormal (List.Subset.trans (by decide) hL)
    | with_reducible apply h.modModule (List.Subset.trans (by decide) hL)
    | with_reducible apply h.count (List.Subset.trans (by decide) hL)
    | with_reducible apply keeps_ite
    | intro _ _ _
    | split

theorem Closed.clearMask (h : Closed L P) (hL : [.modules, .fieldPort, .counters] ⊆ L) {cleared : List Nat} {m : Nat} {s : State} (hs : P s) : P (State.clearMask cleared m s) := by
  unfold State.clearMask
  try dsimp only
  repeat'
    first
    | with_reducible assumption
    | with_reducible apply h.modModule (List.Subset.trans (by decide) hL)
    | with_reducible apply h.placeBleedSet (List.Subset.trans (by decide) hL)
    | with_reducible apply keeps_ite
    | intro _ _ _
    | split

theorem Closed.clearMasks (h : Closed L P) (hL : [.modules, .fieldPort, .counters] ⊆ L) {s : State} {cleared : List
    Nat} (hs : P s) : P (State.clearMasks s cleared) := by
  unfold State.clearMasks
  try dsimp only
  repeat'
    first
    | with_reducible assumption
    | with_reducible apply h.forEach
    | with_reducible apply h.clearMask (List.Subset.trans (by decide) hL)
    | intro _ _ _
    | split

theorem Closed.clearAllMasks (h : Closed L P) (hL : [.modules, .fieldPort, .counters] ⊆ L) {s : State} (hs : P s) : P
    (State.clearAllMasks s) := by
  unfold State.clearAllMasks
  try dsimp only
  repeat'
    first
    | with_reducible assumption
    | with_reducible apply h.clearMasks (List.Subset.trans (by decide) hL)
    | split

theorem Closed.clearStringMasks (h : Closed L P) (hL : [.modules, .fieldPort, .counters] ⊆ L) {s : State} {i : Nat}
    (hs : P s) : P (State.clearStringMasks s i) := by
  unfold State.clearStringMasks
  try dsimp only
  repeat'
    first
    | with_reducible assumption
    | with_reducible apply h.clearMasks (List.Subset.trans (by decide) hL)
    | split

theorem Closed.stringMoved (h : Closed L P) (hL : [.modules, .envelope, .gate, .conn, .fieldPort, .notices, .flags,
    .counters] ⊆ L) {s : State} {i : Nat} {old : StringState} (hs : P s) : P (State.stringMoved s i old) := by
  unfold State.stringMoved
  try dsimp only
  repeat'
    first
    | with_reducible assumption
    | with_reducible apply h.clearStringMasks (List.Subset.trans (by decide) hL)
    | with_reducible apply h.changeEval (List.Subset.trans (by decide) hL)
    | with_reducible apply h.trip (List.Subset.trans (by decide) hL)
    | with_reducible apply keeps_ite
    | split

theorem Closed.contactorCommand (h : Closed L P) (hL : [.fieldPort, .counters] ⊆ L) {s : State} {i : Nat} {close :
    Bool} (hs : P s) : P (State.contactorCommand s i close) := by
  unfold State.contactorCommand
  try dsimp only
  repeat'
    first
    | with_reducible assumption
    | with_reducible apply h.count (List.Subset.trans (by decide) hL)
    | with_reducible apply h.placeUrgent (List.Subset.trans (by decide) hL)
    | intro _ _ _
    | rfl
    | split

theorem Closed.isolate (h : Closed L P) (hL : [.modules, .strings, .envelope, .gate, .conn, .fieldPort, .notices,
    .flags, .counters] ⊆ L) {s : State} {i : Nat} {cause : Option IsolationCause} {notice : Option NoticeKind} (hs :
    P s) : P (State.isolate s i cause notice) := by
  unfold State.isolate
  try dsimp only
  repeat'
    first
    | with_reducible assumption
    | with_reducible apply h.contactorCommand (List.Subset.trans (by decide) hL)
    | with_reducible apply h.modString (List.Subset.trans (by decide) hL)
    | with_reducible apply h.raise (List.Subset.trans (by decide) hL)
    | with_reducible apply h.stringMoved (List.Subset.trans (by decide) hL)
    | intro _ _ _
    | split

theorem Closed.raiseCause (h : Closed L P) (hL : [.modules, .strings, .envelope, .gate, .conn, .fieldPort, .notices,
    .flags, .counters] ⊆ L) {s : State} {i : Nat} {c : IsolationCause} (hs : P s) : P (State.raiseCause s i c) := by
  unfold State.raiseCause
  try dsimp only
  repeat'
    first
    | with_reducible assumption
    | with_reducible apply h.modString (List.Subset.trans (by decide) hL)
    | with_reducible apply h.isolate (List.Subset.trans (by decide) hL)
    | with_reducible apply h.stringMoved (List.Subset.trans (by decide) hL)
    | with_reducible apply keeps_ite
    | intro _ _ _
    | split

theorem Closed.monitorSilent (h : Closed L P) (hL : [.modules, .strings, .envelope, .gate, .conn, .fieldPort,
    .notices, .flags, .counters] ⊆ L) {s : State} {i : Nat} (hs : P s) : P (State.monitorSilent s i) := by
  unfold State.monitorSilent
  try dsimp only
  repeat'
    first
    | with_reducible assumption
    | with_reducible apply h.raiseCause (List.Subset.trans (by decide) hL)
    | with_reducible apply h.contactorCommand (List.Subset.trans (by decide) hL)
    | split

theorem Closed.latchRetained (h : Closed L P) (hL : [.flags] ⊆ L) {s : State} {r : Retained} (hs : P s) : P
    (State.latchRetained s r) := by
  unfold State.latchRetained
  try dsimp only
  repeat'
    first
    | with_reducible assumption
    | with_reducible apply h.latch (List.Subset.trans (by decide) hL)
    | split

theorem Closed.leaveAwaiting (h : Closed L P) (hL : [.modules, .strings, .envelope, .gate, .conn, .fieldPort,
    .notices, .flags, .counters] ⊆ L) {s : State} {i : Nat} {closed : Bool} (hs : P s) : P (State.leaveAwaiting s i
    closed) := by
  unfold State.leaveAwaiting
  try dsimp only
  repeat'
    first
    | with_reducible assumption
    | with_reducible apply h.latchRetained (List.Subset.trans (by decide) hL)
    | with_reducible apply h.isolate (List.Subset.trans (by decide) hL)
    | with_reducible apply h.modString (List.Subset.trans (by decide) hL)
    | with_reducible apply h.stringMoved (List.Subset.trans (by decide) hL)
    | with_reducible apply keeps_ite
    | intro _ _ _
    | split

theorem Closed.contactorOpened (h : Closed L P) (hL : [.modules, .strings, .envelope, .gate, .conn, .fieldPort,
    .notices, .flags, .counters] ⊆ L) {s : State} {i : Nat} (hs : P s) : P (State.contactorOpened s i) := by
  unfold State.contactorOpened
  try dsimp only
  repeat'
    first
    | with_reducible assumption
    | with_reducible apply h.modString (List.Subset.trans (by decide) hL)
    | with_reducible apply h.raise (List.Subset.trans (by decide) hL)
    | with_reducible apply h.stringMoved (List.Subset.trans (by decide) hL)
    | with_reducible apply keeps_ite
    | intro _ _ _
    | split

theorem Closed.actOnFeedback (h : Closed L P) (hL : [.modules, .strings, .envelope, .gate, .conn, .fieldPort,
    .notices, .flags, .counters] ⊆ L) {s : State} {i : Nat} {closed : Bool} (hs : P s) : P (State.actOnFeedback s i
    closed) := by
  unfold State.actOnFeedback
  try dsimp only
  repeat'
    first
    | with_reducible assumption
    | with_reducible apply h.leaveAwaiting (List.Subset.trans (by decide) hL)
    | with_reducible apply h.contactorCommand (List.Subset.trans (by decide) hL)
    | with_reducible apply h.modString (List.Subset.trans (by decide) hL)
    | with_reducible apply h.contactorOpened (List.Subset.trans (by decide) hL)
    | with_reducible apply h.raise (List.Subset.trans (by decide) hL)
    | with_reducible apply h.stringMoved (List.Subset.trans (by decide) hL)
    | with_reducible apply h.isolate (List.Subset.trans (by decide) hL)
    | with_reducible apply keeps_ite
    | intro _ _ _
    | split

theorem Closed.takeStringReport (h : Closed L P) (hL : [.modules, .strings, .envelope, .gate, .conn, .fieldPort,
    .notices, .flags, .counters] ⊆ L) {s : State} {i : Nat} {x : StringReport} (hs : P s) : P (State.takeStringReport
    s i x) := by
  unfold State.takeStringReport
  try dsimp only
  repeat'
    first
    | with_reducible assumption
    | with_reducible apply h.modString (List.Subset.trans (by decide) hL)
    | with_reducible apply h.clearStringMasks (List.Subset.trans (by decide) hL)
    | with_reducible apply h.countReport (List.Subset.trans (by decide) hL)
    | with_reducible apply h.actOnFeedback (List.Subset.trans (by decide) hL)
    | with_reducible apply keeps_ite
    | intro _ _ _
    | split

theorem Closed.contactorTimedOut (h : Closed L P) (hL : [.modules, .strings, .envelope, .gate, .conn, .fieldPort,
    .notices, .flags, .counters] ⊆ L) {s : State} {i : Nat} (hs : P s) : P (State.contactorTimedOut s i) := by
  unfold State.contactorTimedOut
  try dsimp only
  repeat'
    first
    | with_reducible assumption
    | with_reducible apply h.modString (List.Subset.trans (by decide) hL)
    | with_reducible apply h.latch (List.Subset.trans (by decide) hL)
    | with_reducible apply h.raise (List.Subset.trans (by decide) hL)
    | with_reducible apply h.stringMoved (List.Subset.trans (by decide) hL)
    | with_reducible apply keeps_ite
    | intro _ _ _
    | split

theorem Closed.restore (h : Closed L P) (hL : [.modules, .strings, .envelope, .gate, .conn, .fieldPort, .notices,
    .flags, .counters] ⊆ L) {s : State} {i : Nat} (hs : P s) : P (State.restore s i) := by
  unfold State.restore
  try dsimp only
  repeat'
    first
    | with_reducible assumption
    | with_reducible apply h.contactorCommand (List.Subset.trans (by decide) hL)
    | with_reducible apply h.modString (List.Subset.trans (by decide) hL)
    | with_reducible apply h.stringMoved (List.Subset.trans (by decide) hL)
    | intro _ _ _
    | split

theorem Closed.zeroHardCounts (h : Closed L P) (hL : [.modules] ⊆ L) {s : State} {i : Nat} (hs : P s) : P
    (State.zeroHardCounts s i) := by
  unfold State.zeroHardCounts
  try dsimp only
  repeat'
    first
    | with_reducible assumption
    | with_reducible apply h.forEach
    | with_reducible apply h.modModule (List.Subset.trans (by decide) hL)
    | intro _ _ _
    | split

theorem Closed.resetString (h : Closed L P) (hL : [.modules, .strings, .envelope, .gate, .conn, .fieldPort, .notices,
    .flags, .counters] ⊆ L) {s : State} {i : Nat} (hs : P s) : P (State.resetString s i) := by
  unfold State.resetString
  try dsimp only
  repeat'
    first
    | with_reducible assumption
    | with_reducible apply h.zeroHardCounts (List.Subset.trans (by decide) hL)
    | with_reducible apply h.modString (List.Subset.trans (by decide) hL)
    | with_reducible apply h.stringMoved (List.Subset.trans (by decide) hL)
    | intro _ _ _
    | split

theorem Closed.recordCoolant (h : Closed L P) (hL : [.thermal] ⊆ L) {s : State} {m : CoolantMaking} {outcome :
    CommandOutcome} (hs : P s) : P (State.recordCoolant s m outcome) := by
  unfold State.recordCoolant
  try dsimp only
  repeat'
    first
    | with_reducible assumption
    | with_reducible apply h.setThermal (List.Subset.trans (by decide) hL)
    | intro _ _ _
    | split

theorem Closed.makeCoolant (h : Closed L P) (hL : [.thermal, .fieldPort, .counters] ⊆ L) {s : State} {urgent : Bool}
    (hs : P s) : P (State.makeCoolant s urgent) := by
  unfold State.makeCoolant
  try dsimp only
  repeat'
    first
    | with_reducible assumption
    | with_reducible apply h.recordCoolant (List.Subset.trans (by decide) hL)
    | with_reducible apply h.count (List.Subset.trans (by decide) hL)
    | with_reducible apply h.placeUrgent (List.Subset.trans (by decide) hL)
    | with_reducible apply h.placeNormal (List.Subset.trans (by decide) hL)
    | with_reducible apply keeps_ite
    | intro _ _ _
    | rfl
    | split

theorem Closed.thermalClose (h : Closed L P) (hL : [.thermal, .fieldPort, .counters] ⊆ L) {s : State} (hs : P s) : P
    (State.thermalClose s) := by
  unfold State.thermalClose
  try dsimp only
  repeat'
    first
    | with_reducible assumption
    | with_reducible apply h.setThermal (List.Subset.trans (by decide) hL)
    | with_reducible apply h.makeCoolant (List.Subset.trans (by decide) hL)
    | split

theorem Closed.coolantTo (h : Closed L P) (hL : [.envelope, .gate, .thermal, .fieldPort, .notices, .flags, .counters]
    ⊆ L) {s : State} {c : CoolantState} (hs : P s) : P (State.coolantTo s c) := by
  unfold State.coolantTo
  try dsimp only
  repeat'
    first
    | with_reducible assumption
    | with_reducible apply h.setThermal (List.Subset.trans (by decide) hL)
    | with_reducible apply h.raise (List.Subset.trans (by decide) hL)
    | with_reducible apply h.latch (List.Subset.trans (by decide) hL)
    | with_reducible apply h.changeEval (List.Subset.trans (by decide) hL)
    | with_reducible apply h.makeCoolant (List.Subset.trans (by decide) hL)
    | with_reducible apply keeps_ite
    | split

theorem Closed.relatchCoolant (h : Closed L P) (hL : [.flags] ⊆ L) {s : State} (hs : P s) : P (State.relatchCoolant s) := by
  unfold State.relatchCoolant
  try dsimp only
  repeat'
    first
    | with_reducible assumption
    | with_reducible apply h.latch (List.Subset.trans (by decide) hL)
    | with_reducible apply keeps_ite
    | split

theorem Closed.takeCoolantStatus (h : Closed L P) (hL : [.envelope, .gate, .thermal, .fieldPort, .notices, .flags,
    .counters] ⊆ L) {s : State} {x : CoolantStatus} (hs : P s) : P (State.takeCoolantStatus s x) := by
  unfold State.takeCoolantStatus
  try dsimp only
  repeat'
    first
    | with_reducible assumption
    | with_reducible apply h.relatchCoolant (List.Subset.trans (by decide) hL)
    | with_reducible apply h.setThermal (List.Subset.trans (by decide) hL)
    | with_reducible apply h.coolantTo (List.Subset.trans (by decide) hL)
    | split

theorem Closed.chillerSilent (h : Closed L P) (hL : [.envelope, .gate, .thermal, .fieldPort, .notices, .flags,
    .counters] ⊆ L) {s : State} (hs : P s) : P (State.chillerSilent s) := by
  unfold State.chillerSilent
  try dsimp only
  repeat'
    first
    | with_reducible assumption
    | with_reducible apply h.coolantTo (List.Subset.trans (by decide) hL)
    | split

theorem Closed.takeDetectorPair (h : Closed L P) (hL : [.fire, .notices, .flags, .counters] ⊆ L) {first : Nat} {node
    : Nat} {pair : Nat × Nat} {s : State} (hs : P s) : P (State.takeDetectorPair first node pair s) := by
  unfold State.takeDetectorPair
  try dsimp only
  repeat'
    first
    | with_reducible assumption
    | with_reducible apply h.count (List.Subset.trans (by decide) hL)
    | with_reducible apply h.modDetector (List.Subset.trans (by decide) hL)
    | with_reducible apply h.raise (List.Subset.trans (by decide) hL)
    | with_reducible apply h.latch (List.Subset.trans (by decide) hL)
    | with_reducible apply keeps_ite
    | intro _ _ _
    | split

theorem Closed.handStage (h : Closed L P) (hL : [.envelope, .gate, .thermal, .fieldPort, .notices, .counters] ⊆ L) {s
    : State} {urgent : Bool} (hs : P s) : P (State.handStage s urgent) := by
  unfold State.handStage
  try dsimp only
  repeat'
    first
    | with_reducible assumption
    | with_reducible apply h.changeEval (List.Subset.trans (by decide) hL)
    | with_reducible apply h.makeCoolant (List.Subset.trans (by decide) hL)
    | split

theorem Closed.releaseZone (h : Closed L P) (hL : [.envelope, .gate, .thermal, .fire, .fieldPort, .notices, .flags,
    .counters] ⊆ L) {s : State} {z : Nat} (hs : P s) : P (State.releaseZone s z) := by
  unfold State.releaseZone
  try dsimp only
  repeat'
    first
    | with_reducible assumption
    | with_reducible apply h.modFireZone (List.Subset.trans (by decide) hL)
    | with_reducible apply h.setFire (List.Subset.trans (by decide) hL)
    | with_reducible apply h.raise (List.Subset.trans (by decide) hL)
    | with_reducible apply h.latch (List.Subset.trans (by decide) hL)
    | with_reducible apply h.handStage (List.Subset.trans (by decide) hL)
    | intro _ _ _
    | split

theorem Closed.startRelease (h : Closed L P) (hL : [.envelope, .gate, .thermal, .fire, .fieldPort, .notices, .flags,
    .counters] ⊆ L) {s : State} {z : Nat} (hs : P s) : P (State.startRelease s z) := by
  unfold State.startRelease
  try dsimp only
  repeat'
    first
    | with_reducible assumption
    | with_reducible apply h.modFireZone (List.Subset.trans (by decide) hL)
    | with_reducible apply h.raise (List.Subset.trans (by decide) hL)
    | with_reducible apply h.handStage (List.Subset.trans (by decide) hL)
    | with_reducible apply h.releaseZone (List.Subset.trans (by decide) hL)
    | with_reducible apply keeps_ite
    | intro _ _ _
    | split

theorem Closed.reachFire (h : Closed L P) (hL : [.modules, .strings, .envelope, .gate, .conn, .thermal, .fire,
    .fieldPort, .notices, .flags, .counters] ⊆ L) {s : State} {z : Nat} (hs : P s) : P (State.reachFire s z) := by
  unfold State.reachFire
  try dsimp only
  repeat'
    first
    | with_reducible assumption
    | with_reducible apply h.modFireZone (List.Subset.trans (by decide) hL)
    | with_reducible apply h.raise (List.Subset.trans (by decide) hL)
    | with_reducible apply h.latch (List.Subset.trans (by decide) hL)
    | with_reducible apply h.changeEval (List.Subset.trans (by decide) hL)
    | with_reducible apply h.trip (List.Subset.trans (by decide) hL)
    | with_reducible apply h.forEach
    | with_reducible apply h.raiseCause (List.Subset.trans (by decide) hL)
    | with_reducible apply h.clearAllMasks (List.Subset.trans (by decide) hL)
    | with_reducible apply h.makeCoolant (List.Subset.trans (by decide) hL)
    | with_reducible apply h.startRelease (List.Subset.trans (by decide) hL)
    | intro _ _ _
    | split

theorem Closed.riseTo (h : Closed L P) (hL : [.modules, .strings, .envelope, .gate, .conn, .thermal, .fire,
    .fieldPort, .notices, .flags, .counters] ⊆ L) {s : State} {z : Nat} {target : FireStage} (hs : P s) : P
    (State.riseTo s z target) := by
  unfold State.riseTo
  try dsimp only
  repeat'
    first
    | with_reducible assumption
    | with_reducible apply h.modFireZone (List.Subset.trans (by decide) hL)
    | with_reducible apply h.raise (List.Subset.trans (by decide) hL)
    | with_reducible apply h.handStage (List.Subset.trans (by decide) hL)
    | with_reducible apply h.clearAllMasks (List.Subset.trans (by decide) hL)
    | with_reducible apply h.watchReconnect (List.Subset.trans (by decide) hL)
    | with_reducible apply h.reachFire (List.Subset.trans (by decide) hL)
    | intro _ _ _
    | split

theorem Closed.handFall (h : Closed L P) (hL : [.envelope, .gate, .thermal, .fieldPort, .notices, .counters] ⊆ L) {s
    : State} {z : Nat} (hs : P s) : P (State.handFall s z) := by
  unfold State.handFall
  try dsimp only
  repeat'
    first
    | with_reducible assumption
    | with_reducible apply h.raise (List.Subset.trans (by decide) hL)
    | with_reducible apply h.handStage (List.Subset.trans (by decide) hL)
    | split

theorem Closed.latchStage (h : Closed L P) (hL : [.flags] ⊆ L) {s : State} {z : Nat} (hs : P s) : P (State.latchStage s z) := by
  unfold State.latchStage
  try dsimp only
  repeat'
    first
    | with_reducible assumption
    | with_reducible apply h.latch (List.Subset.trans (by decide) hL)
    | with_reducible apply keeps_ite
    | split

theorem Closed.moveStage (h : Closed L P) (hL : [.modules, .strings, .envelope, .gate, .conn, .thermal, .fire,
    .fieldPort, .notices, .flags, .counters] ⊆ L) {s : State} {z : Nat} (hs : P s) : P (State.moveStage s z) := by
  unfold State.moveStage
  try dsimp only
  repeat'
    first
    | with_reducible assumption
    | with_reducible apply h.latchStage (List.Subset.trans (by decide) hL)
    | with_reducible apply h.riseTo (List.Subset.trans (by decide) hL)
    | with_reducible apply h.modFireZone (List.Subset.trans (by decide) hL)
    | with_reducible apply keeps_ite
    | intro _ _ _
    | split

theorem Closed.setUnwatched (h : Closed L P) (hL : [.envelope, .gate, .fire, .fieldPort, .notices, .counters] ⊆ L) {s
    : State} {z : Nat} (hs : P s) : P (State.setUnwatched s z) := by
  unfold State.setUnwatched
  try dsimp only
  repeat'
    first
    | with_reducible assumption
    | with_reducible apply h.modFireZone (List.Subset.trans (by decide) hL)
    | with_reducible apply h.raise (List.Subset.trans (by decide) hL)
    | with_reducible apply h.changeEval (List.Subset.trans (by decide) hL)
    | with_reducible apply keeps_ite
    | intro _ _ _
    | split

theorem Closed.evaluateZone (h : Closed L P) (hL : [.modules, .strings, .envelope, .gate, .conn, .thermal, .fire,
    .fieldPort, .notices, .flags, .counters] ⊆ L) {z : Nat} {s : State} (hs : P s) : P (State.evaluateZone z s) := by
  unfold State.evaluateZone
  try dsimp only
  repeat'
    first
    | with_reducible assumption
    | with_reducible apply h.setUnwatched (List.Subset.trans (by decide) hL)
    | with_reducible apply h.modFireZone (List.Subset.trans (by decide) hL)
    | with_reducible apply h.moveStage (List.Subset.trans (by decide) hL)
    | intro _ _ _
    | split

theorem Closed.evaluateZones (h : Closed L P) (hL : [.modules, .strings, .envelope, .gate, .conn, .thermal, .fire,
    .fieldPort, .notices, .flags, .counters] ⊆ L) {s : State} {zones : List Nat} (hs : P s) : P (State.evaluateZones
    s zones) := by
  unfold State.evaluateZones
  try dsimp only
  repeat'
    first
    | with_reducible assumption
    | with_reducible apply h.forEach
    | with_reducible apply h.evaluateZone (List.Subset.trans (by decide) hL)
    | intro _ _ _
    | split

theorem Closed.takeDetectorReport (h : Closed L P) (hL : [.modules, .strings, .envelope, .gate, .conn, .thermal,
    .fire, .fieldPort, .notices, .flags, .counters] ⊆ L) {s : State} {first : Nat} {node : Nat} {pairs : List (Nat ×
    Nat)} (hs : P s) : P (State.takeDetectorReport s first node pairs) := by
  unfold State.takeDetectorReport
  try dsimp only
  repeat'
    first
    | with_reducible assumption
    | with_reducible apply h.takeDetectorPair (List.Subset.trans (by decide) hL)
    | with_reducible apply h.evaluateZones (List.Subset.trans (by decide) hL)
    | with_reducible apply keeps_foldl
    | intro _ _ _
    | split

theorem Closed.panelSilent (h : Closed L P) (hL : [.modules, .strings, .envelope, .gate, .conn, .thermal, .fire,
    .fieldPort, .notices, .flags, .counters] ⊆ L) {s : State} {first : Nat} (hs : P s) : P (State.panelSilent s
    first) := by
  unfold State.panelSilent
  try dsimp only
  repeat'
    first
    | with_reducible assumption
    | with_reducible apply h.forEach
    | with_reducible apply h.modDetector (List.Subset.trans (by decide) hL)
    | with_reducible apply h.evaluateZones (List.Subset.trans (by decide) hL)
    | intro _ _ _
    | split

theorem Closed.fireClose (h : Closed L P) (hL : [.modules, .strings, .envelope, .gate, .conn, .thermal, .fire,
    .fieldPort, .notices, .flags, .counters] ⊆ L) {s : State} (hs : P s) : P (State.fireClose s) := by
  unfold State.fireClose
  try dsimp only
  repeat'
    first
    | with_reducible assumption
    | with_reducible apply h.setFire (List.Subset.trans (by decide) hL)
    | with_reducible apply h.evaluateZones (List.Subset.trans (by decide) hL)
    | intro _ _ _
    | split

theorem Closed.fireLineMoved (h : Closed L P) (hL : [.modules, .strings, .envelope, .gate, .conn, .thermal, .fire,
    .fieldPort, .notices, .flags, .counters] ⊆ L) {s : State} {e : LineEntry} (hs : P s) : P (State.fireLineMoved s
    e) := by
  unfold State.fireLineMoved
  try dsimp only
  repeat'
    first
    | with_reducible assumption
    | with_reducible apply h.forEach
    | with_reducible apply h.modFireZone (List.Subset.trans (by decide) hL)
    | with_reducible apply h.evaluateZones (List.Subset.trans (by decide) hL)
    | intro _ _ _
    | split

theorem Closed.clearTimedOut (h : Closed L P) (hL : [.envelope, .gate, .thermal, .fire, .fieldPort, .notices,
    .counters] ⊆ L) {s : State} {z : Nat} (hs : P s) : P (State.clearTimedOut s z) := by
  unfold State.clearTimedOut
  try dsimp only
  repeat'
    first
    | with_reducible assumption
    | with_reducible apply h.modFireZone (List.Subset.trans (by decide) hL)
    | with_reducible apply h.handFall (List.Subset.trans (by decide) hL)
    | with_reducible apply keeps_ite
    | intro _ _ _
    | split

theorem Closed.pauseCountdowns (h : Closed L P) (hL : [.fire] ⊆ L) {s : State} (hs : P s) : P (State.pauseCountdowns
    s) := by
  unfold State.pauseCountdowns
  try dsimp only
  repeat'
    first
    | with_reducible assumption
    | with_reducible apply h.setFire (List.Subset.trans (by decide) hL)
    | intro _ _ _
    | split

theorem Closed.resumeCountdown (h : Closed L P) (hL : [.envelope, .gate, .thermal, .fire, .fieldPort, .notices,
    .flags, .counters] ⊆ L) {z : Nat} {s : State} (hs : P s) : P (State.resumeCountdown z s) := by
  unfold State.resumeCountdown
  try dsimp only
  repeat'
    first
    | with_reducible assumption
    | with_reducible apply h.releaseZone (List.Subset.trans (by decide) hL)
    | with_reducible apply h.modFireZone (List.Subset.trans (by decide) hL)
    | with_reducible apply keeps_ite
    | intro _ _ _
    | split

theorem Closed.resumeCountdowns (h : Closed L P) (hL : [.envelope, .gate, .thermal, .fire, .fieldPort, .notices,
    .flags, .counters] ⊆ L) {s : State} (hs : P s) : P (State.resumeCountdowns s) := by
  unfold State.resumeCountdowns
  try dsimp only
  repeat'
    first
    | with_reducible assumption
    | with_reducible apply h.forEach
    | with_reducible apply h.resumeCountdown (List.Subset.trans (by decide) hL)
    | intro _ _ _
    | split

theorem Closed.followRelease (h : Closed L P) (hL : [.fire] ⊆ L) {s : State} (hs : P s) : P (State.followRelease s)
    := by
  unfold State.followRelease
  try dsimp only
  repeat'
    first
    | with_reducible assumption
    | with_reducible apply h.setFire (List.Subset.trans (by decide) hL)
    | split

theorem Closed.resetFireZone (h : Closed L P) (hL : [.modules, .strings, .envelope, .gate, .conn, .thermal, .fire,
    .fieldPort, .notices, .flags, .counters] ⊆ L) {s : State} {z : Nat} (hs : P s) : P (State.resetFireZone s z) := by
  unfold State.resetFireZone
  try dsimp only
  repeat'
    first
    | with_reducible assumption
    | with_reducible apply h.modFireZone (List.Subset.trans (by decide) hL)
    | with_reducible apply h.handFall (List.Subset.trans (by decide) hL)
    | with_reducible apply h.followRelease (List.Subset.trans (by decide) hL)
    | with_reducible apply h.evaluateZone (List.Subset.trans (by decide) hL)
    | with_reducible apply keeps_ite
    | intro _ _ _
    | split

theorem Closed.detectorsLoaded (h : Closed L P) (hL : [.modules, .strings, .envelope, .gate, .conn, .thermal, .fire,
    .fieldPort, .notices, .flags, .counters] ⊆ L) {s : State} {before : List DetectorEntry} (hs : P s) : P
    (State.detectorsLoaded s before) := by
  unfold State.detectorsLoaded
  try dsimp only
  repeat'
    first
    | with_reducible assumption
    | with_reducible apply h.forEach
    | with_reducible apply h.modDetector (List.Subset.trans (by decide) hL)
    | with_reducible apply h.evaluateZones (List.Subset.trans (by decide) hL)
    | intro _ _ _
    | split

theorem Closed.applyReport (h : Closed L P) (hL : [.modules, .counters] ⊆ L) {s : State} {m : Nat} {x : ModuleReport}
    (hs : P s) : P (State.applyReport s m x) := by
  unfold State.applyReport
  try dsimp only
  repeat'
    first
    | with_reducible assumption
    | with_reducible apply h.modModule (List.Subset.trans (by decide) hL)
    | with_reducible apply h.count (List.Subset.trans (by decide) hL)
    | with_reducible apply keeps_ite
    | intro _ _ _
    | split

theorem Closed.judgeModules (h : Closed L P) (hL : [.modules, .limits] ⊆ L) {s : State} {c : CloseRecord} (hs : P s) : P
    (State.judgeModules s c) := by
  unfold State.judgeModules
  try dsimp only
  repeat'
    first
    | with_reducible assumption
    | with_reducible apply h.setLimits (List.Subset.trans (by decide) hL)
    | with_reducible apply h.setModules (List.Subset.trans (by decide) hL)
    | split

theorem Closed.judgeStrings (h : Closed L P) (hL : [.strings, .cellsHold] ⊆ L) {s : State} (hs : P s) : P
    (State.judgeStrings s) := by
  unfold State.judgeStrings
  try dsimp only
  repeat'
    first
    | with_reducible assumption
    | with_reducible apply h.setStrings (List.Subset.trans (by decide) hL)
    | with_reducible apply h.setCellsHold (List.Subset.trans (by decide) hL)
    | with_reducible apply keeps_ite
    | intro _ _ _
    | split

theorem Closed.raiseCloseCauses (h : Closed L P) (hL : [.modules, .strings, .envelope, .gate, .conn, .fieldPort,
    .notices, .flags, .counters] ⊆ L) {c : CloseRecord} {i : Nat} {s : State} (hs : P s) : P (State.raiseCloseCauses
    c i s) := by
  unfold State.raiseCloseCauses
  try dsimp only
  repeat'
    first
    | with_reducible assumption
    | with_reducible apply h.raise (List.Subset.trans (by decide) hL)
    | with_reducible apply h.latch (List.Subset.trans (by decide) hL)
    | with_reducible apply h.raiseCause (List.Subset.trans (by decide) hL)
    | with_reducible apply h.forEach
    | with_reducible apply keeps_ite
    | intro _ _ _
    | split

theorem Closed.balanceString (h : Closed L P) (hL : [.modules] ⊆ L) {c : CloseRecord} {i : Nat} {s : State} (hs : P
    s) : P (State.balanceString c i s) := by
  unfold State.balanceString
  try dsimp only
  repeat'
    first
    | with_reducible assumption
    | with_reducible apply h.forEach
    | with_reducible apply h.modModule (List.Subset.trans (by decide) hL)
    | with_reducible apply keeps_ite
    | intro _ _ _
    | split

theorem Closed.emptyMask (h : Closed L P) (hL : [.modules, .fieldPort, .counters] ⊆ L) {cleared : List Nat} {m : Nat} {s : State} (hs : P s) : P (State.emptyMask cleared m s) := by
  unfold State.emptyMask
  try dsimp only
  repeat'
    first
    | with_reducible assumption
    | with_reducible apply h.modModule (List.Subset.trans (by decide) hL)
    | with_reducible apply h.placeBleedSet (List.Subset.trans (by decide) hL)
    | with_reducible apply keeps_ite
    | intro _ _ _
    | split

theorem Closed.bleedClose (h : Closed L P) (hL : [.modules, .fieldPort, .counters] ⊆ L) {s : State} {c : CloseRecord}
    (hs : P s) : P (State.bleedClose s c) := by
  unfold State.bleedClose
  try dsimp only
  repeat'
    first
    | with_reducible assumption
    | with_reducible apply h.forEach
    | with_reducible apply h.emptyMask (List.Subset.trans (by decide) hL)
    | with_reducible apply h.balanceString (List.Subset.trans (by decide) hL)
    | with_reducible apply h.placeBleedSet (List.Subset.trans (by decide) hL)
    | with_reducible apply h.clearMask (List.Subset.trans (by decide) hL)
    | with_reducible apply keeps_ite
    | intro _ _ _
    | split

theorem Closed.reduceMask (h : Closed L P) (hL : [.modules, .fieldPort, .counters] ⊆ L) {m : Nat} {s : State} (hs : P
    s) : P (State.reduceMask m s) := by
  unfold State.reduceMask
  try dsimp only
  repeat'
    first
    | with_reducible assumption
    | with_reducible apply h.modModule (List.Subset.trans (by decide) hL)
    | with_reducible apply h.placeBleedSet (List.Subset.trans (by decide) hL)
    | with_reducible apply keeps_ite
    | intro _ _ _
    | split

theorem Closed.reduceMasks (h : Closed L P) (hL : [.modules, .fieldPort, .counters] ⊆ L) {s : State} (hs : P s) : P
    (State.reduceMasks s) := by
  unfold State.reduceMasks
  try dsimp only
  repeat'
    first
    | with_reducible assumption
    | with_reducible apply h.forEach
    | with_reducible apply h.reduceMask (List.Subset.trans (by decide) hL)
    | intro _ _ _
    | split

theorem Closed.calibrateAll (h : Closed L P) (hL : [.strings, .notices, .counters] ⊆ L) {s : State} {c : CloseRecord}
    (hs : P s) : P (State.calibrateAll s c) := by
  unfold State.calibrateAll
  try dsimp only
  repeat'
    first
    | with_reducible assumption
    | with_reducible apply h.forEach
    | with_reducible apply h.calibrate (List.Subset.trans (by decide) hL)
    | with_reducible apply keeps_ite
    | intro _ _ _
    | split

theorem Closed.evaluateClose (h : Closed L P) (hL : [.modules, .strings, .cellsHold, .limits, .envelope, .gate, .conn,
    .fieldPort, .notices, .flags, .counters] ⊆ L) {s : State} {c : CloseRecord} (hs : P s) : P (State.evaluateClose s
    c) := by
  unfold State.evaluateClose
  try dsimp only
  repeat'
    first
    | with_reducible assumption
    | with_reducible apply h.judgeModules (List.Subset.trans (by decide) hL)
    | with_reducible apply h.judgeStrings (List.Subset.trans (by decide) hL)
    | with_reducible apply h.forEach
    | with_reducible apply h.raiseCloseCauses (List.Subset.trans (by decide) hL)
    | with_reducible apply h.bleedClose (List.Subset.trans (by decide) hL)
    | intro _ _ _
    | split

theorem Closed.handClose (h : Closed L P) (hL : [.modules, .strings, .envelope, .gate, .conn, .thermal, .fire,
    .fieldPort, .notices, .flags, .counters] ⊆ L) {s : State} {c : CloseRecord} {calibrationIsFirst : Bool} (hs : P
    s) : P (State.handClose s c calibrationIsFirst) := by
  unfold State.handClose
  try dsimp only
  repeat'
    first
    | with_reducible assumption
    | with_reducible apply h.thermalClose (List.Subset.trans (by decide) hL)
    | with_reducible apply h.fireClose (List.Subset.trans (by decide) hL)
    | with_reducible apply h.calibrateAll (List.Subset.trans (by decide) hL)
    | with_reducible apply h.changeEval (List.Subset.trans (by decide) hL)
    | with_reducible apply keeps_ite
    | split

theorem Closed.close (h : Closed L P) (hL : [.modules, .strings, .cellsHold, .limits, .envelope, .gate, .conn, .thermal,
    .fire, .fieldPort, .notices, .flags, .counters, .choices] ⊆ L) {s : State} {c : CloseRecord} (hs : P s) : P
    (State.close s c) := by
  unfold State.close
  try dsimp only
  repeat'
    first
    | with_reducible assumption
    | with_reducible apply h.evaluateClose (List.Subset.trans (by decide) hL)
    | with_reducible apply h.setChoices (List.Subset.trans (by decide) hL)
    | with_reducible apply h.handClose (List.Subset.trans (by decide) hL)
    | split

theorem Closed.setPhase (h : Closed L P) (hL : [.rounds] ⊆ L) {s : State} {p : RoundPhase} (hs : P s) : P
    (State.setPhase s p) := by
  unfold State.setPhase
  try dsimp only
  repeat'
    first
    | with_reducible assumption
    | with_reducible apply h.setRounds (List.Subset.trans (by decide) hL)
    | split

theorem Closed.endRound (h : Closed L P) (hL : [.rounds] ⊆ L) {s : State} {p : RoundPhase} (hs : P s) : P
    (State.endRound s p) := by
  unfold State.endRound
  try dsimp only
  repeat'
    first
    | with_reducible assumption
    | with_reducible apply h.setRounds (List.Subset.trans (by decide) hL)
    | split

theorem Closed.placeRoundFrame (h : Closed L P) (hL : [.fieldPort, .counters] ⊆ L) {s : State} {p : Placed} (hs : P
    s) : P (State.placeRoundFrame s p) := by
  unfold State.placeRoundFrame
  try dsimp only
  repeat'
    first
    | with_reducible assumption
    | with_reducible apply h.placeNormal (List.Subset.trans (by decide) hL)
    | with_reducible apply h.count (List.Subset.trans (by decide) hL)
    | with_reducible apply keeps_ite
    | intro _ _ _
    | split

theorem Closed.countAborted (h : Closed L P) (hL : [.counters] ⊆ L) {s : State} (hs : P s) : P (State.countAborted s)
    := by
  unfold State.countAborted
  try dsimp only
  repeat'
    first
    | with_reducible assumption
    | with_reducible apply h.count (List.Subset.trans (by decide) hL)
    | intro _ _ _
    | split

theorem Closed.leaveRound (h : Closed L P) (hL : [.rounds, .fieldPort, .counters] ⊆ L) {s : State} (hs : P s) : P
    (State.leaveRound s) := by
  unfold State.leaveRound
  try dsimp only
  repeat'
    first
    | with_reducible assumption
    | with_reducible apply h.endRound (List.Subset.trans (by decide) hL)
    | with_reducible apply h.placeRoundFrame (List.Subset.trans (by decide) hL)
    | split

theorem Closed.missModule (h : Closed L P) (hL : [.modules, .notices, .counters] ⊆ L) {m : Nat} {s : State} (hs : P
    s) : P (State.missModule m s) := by
  unfold State.missModule
  try dsimp only
  repeat'
    first
    | with_reducible assumption
    | with_reducible apply h.modModule (List.Subset.trans (by decide) hL)
    | with_reducible apply h.raise (List.Subset.trans (by decide) hL)
    | with_reducible apply keeps_ite
    | intro _ _ _
    | split

theorem Closed.countMisses (h : Closed L P) (hL : [.modules, .notices, .counters] ⊆ L) {s : State} {o : OpenRound}
    {completed : Bool} (hs : P s) : P (State.countMisses s o completed) := by
  unfold State.countMisses
  try dsimp only
  repeat'
    first
    | with_reducible assumption
    | with_reducible apply h.forEach
    | with_reducible apply h.modModule (List.Subset.trans (by decide) hL)
    | with_reducible apply h.missModule (List.Subset.trans (by decide) hL)
    | with_reducible apply keeps_ite
    | intro _ _ _
    | split

theorem Closed.closeRound (h : Closed L P) (hL : [.rounds, .modules, .strings, .cellsHold, .limits, .envelope, .gate, .conn,
    .thermal, .fire, .fieldPort, .notices, .flags, .counters, .choices] ⊆ L) {s : State} {o : OpenRound} {completed :
    Bool} (hs : P s) : P (State.closeRound s o completed) := by
  unfold State.closeRound
  try dsimp only
  repeat'
    first
    | with_reducible assumption
    | with_reducible apply h.leaveRound (List.Subset.trans (by decide) hL)
    | with_reducible apply h.countMisses (List.Subset.trans (by decide) hL)
    | with_reducible apply h.close (List.Subset.trans (by decide) hL)
    | split

theorem Closed.abortRound (h : Closed L P) (hL : [.rounds, .modules, .strings, .cellsHold, .limits, .envelope, .gate, .conn,
    .thermal, .fire, .fieldPort, .notices, .flags, .counters, .choices] ⊆ L) {s : State} (hs : P s) : P
    (State.abortRound s) := by
  unfold State.abortRound
  try dsimp only
  repeat'
    first
    | with_reducible assumption
    | with_reducible apply h.countAborted (List.Subset.trans (by decide) hL)
    | with_reducible apply h.closeRound (List.Subset.trans (by decide) hL)
    | split

theorem Closed.sampleCall (h : Closed L P) (hL : [.rounds, .modules, .strings, .cellsHold, .limits, .envelope, .gate, .conn,
    .thermal, .fire, .fieldPort, .notices, .flags, .counters, .choices] ⊆ L) {s : State} (hs : P s) : P
    (State.sampleCall s) := by
  unfold State.sampleCall
  try dsimp only
  repeat'
    first
    | with_reducible assumption
    | with_reducible apply h.setRounds (List.Subset.trans (by decide) hL)
    | with_reducible apply h.placeRoundFrame (List.Subset.trans (by decide) hL)
    | with_reducible apply h.abortRound (List.Subset.trans (by decide) hL)
    | with_reducible apply keeps_ite
    | split

theorem Closed.holdBleeding (h : Closed L P) (hL : [.rounds, .modules, .strings, .cellsHold, .limits, .envelope, .gate, .conn,
    .thermal, .fire, .fieldPort, .notices, .flags, .counters, .choices] ⊆ L) {s : State} (hs : P s) : P
    (State.holdBleeding s) := by
  unfold State.holdBleeding
  try dsimp only
  repeat'
    first
    | with_reducible assumption
    | with_reducible apply h.placeRoundFrame (List.Subset.trans (by decide) hL)
    | with_reducible apply h.setRounds (List.Subset.trans (by decide) hL)
    | with_reducible apply h.abortRound (List.Subset.trans (by decide) hL)
    | with_reducible apply keeps_ite
    | split

theorem Closed.continueRound (h : Closed L P) (hL : [.rounds, .modules, .strings, .cellsHold, .limits, .envelope, .gate,
    .conn, .thermal, .fire, .fieldPort, .notices, .flags, .counters, .choices] ⊆ L) {s : State} (hs : P s) : P
    (State.continueRound s) := by
  unfold State.continueRound
  try dsimp only
  repeat'
    first
    | with_reducible assumption
    | with_reducible apply h.holdBleeding (List.Subset.trans (by decide) hL)
    | with_reducible apply h.sampleCall (List.Subset.trans (by decide) hL)
    | with_reducible apply keeps_ite
    | split

theorem Closed.wakeMonitors (h : Closed L P) (hL : [.rounds, .fieldPort, .counters] ⊆ L) {s : State} (hs : P s) : P
    (State.wakeMonitors s) := by
  unfold State.wakeMonitors
  try dsimp only
  repeat'
    first
    | with_reducible assumption
    | with_reducible apply h.placeRoundFrame (List.Subset.trans (by decide) hL)
    | with_reducible apply h.setPhase (List.Subset.trans (by decide) hL)
    | with_reducible apply h.endRound (List.Subset.trans (by decide) hL)
    | with_reducible apply h.countAborted (List.Subset.trans (by decide) hL)
    | with_reducible apply keeps_ite
    | split

theorem Closed.beginRound (h : Closed L P) (hL : [.rounds, .modules, .strings, .cellsHold, .limits, .envelope, .gate, .conn,
    .thermal, .fire, .fieldPort, .notices, .flags, .counters, .choices] ⊆ L) {s : State} {scope : Scope} {quiet :
    Bool} (hs : P s) : P (State.beginRound s scope quiet) := by
  unfold State.beginRound
  try dsimp only
  repeat'
    first
    | with_reducible assumption
    | with_reducible apply h.setRounds (List.Subset.trans (by decide) hL)
    | with_reducible apply h.wakeMonitors (List.Subset.trans (by decide) hL)
    | with_reducible apply h.continueRound (List.Subset.trans (by decide) hL)
    | with_reducible apply keeps_ite
    | split

theorem Closed.intervalRound (h : Closed L P) (hL : [.rounds, .modules, .strings, .cellsHold, .limits, .envelope, .gate,
    .conn, .thermal, .fire, .fieldPort, .notices, .flags, .counters, .choices] ⊆ L) {s : State} (hs : P s) : P
    (State.intervalRound s) := by
  unfold State.intervalRound
  try dsimp only
  repeat'
    first
    | with_reducible assumption
    | with_reducible apply h.beginRound (List.Subset.trans (by decide) hL)
    | with_reducible apply h.setRounds (List.Subset.trans (by decide) hL)
    | with_reducible apply keeps_ite
    | split

theorem Closed.intervalOver (h : Closed L P) (hL : [.rounds, .modules, .strings, .cellsHold, .limits, .envelope, .gate, .conn,
    .thermal, .fire, .fieldPort, .notices, .flags, .counters, .choices] ⊆ L) {s : State} (hs : P s) : P
    (State.intervalOver s) := by
  unfold State.intervalOver
  try dsimp only
  repeat'
    first
    | with_reducible assumption
    | with_reducible apply h.setRounds (List.Subset.trans (by decide) hL)
    | with_reducible apply h.intervalRound (List.Subset.trans (by decide) hL)
    | with_reducible apply h.count (List.Subset.trans (by decide) hL)
    | with_reducible apply keeps_ite
    | intro _ _ _
    | split

theorem Closed.takeModuleReport (h : Closed L P) (hL : [.rounds, .modules, .strings, .cellsHold, .limits, .envelope, .gate,
    .conn, .thermal, .fire, .fieldPort, .notices, .flags, .counters, .choices] ⊆ L) {s : State} {m : Nat} {x :
    ModuleReport} (hs : P s) : P (State.takeModuleReport s m x) := by
  unfold State.takeModuleReport
  try dsimp only
  repeat'
    first
    | with_reducible assumption
    | with_reducible apply h.setRounds (List.Subset.trans (by decide) hL)
    | with_reducible apply h.applyReport (List.Subset.trans (by decide) hL)
    | with_reducible apply h.closeRound (List.Subset.trans (by decide) hL)
    | with_reducible apply h.count (List.Subset.trans (by decide) hL)
    | with_reducible apply keeps_ite
    | intro _ _ _
    | split

theorem Closed.roundFrameSent (h : Closed L P) (hL : [.rounds] ⊆ L) {s : State} {p : Placed} (hs : P s) : P
    (State.roundFrameSent s p) := by
  unfold State.roundFrameSent
  try dsimp only
  repeat'
    first
    | with_reducible assumption
    | with_reducible apply h.setRounds (List.Subset.trans (by decide) hL)
    | with_reducible apply keeps_ite
    | split

theorem Closed.wakeSettled (h : Closed L P) (hL : [.rounds, .modules, .strings, .cellsHold, .limits, .envelope, .gate, .conn,
    .thermal, .fire, .fieldPort, .notices, .flags, .counters, .choices] ⊆ L) {s : State} (hs : P s) : P
    (State.wakeSettled s) := by
  unfold State.wakeSettled
  try dsimp only
  repeat'
    first
    | with_reducible assumption
    | with_reducible apply h.setRounds (List.Subset.trans (by decide) hL)
    | with_reducible apply h.continueRound (List.Subset.trans (by decide) hL)
    | split

theorem Closed.deadlineOver (h : Closed L P) (hL : [.rounds, .modules, .strings, .cellsHold, .limits, .envelope, .gate, .conn,
    .thermal, .fire, .fieldPort, .notices, .flags, .counters, .choices] ⊆ L) {s : State} (hs : P s) : P
    (State.deadlineOver s) := by
  unfold State.deadlineOver
  try dsimp only
  repeat'
    first
    | with_reducible assumption
    | with_reducible apply h.closeRound (List.Subset.trans (by decide) hL)
    | split

theorem Closed.abandonWaking (h : Closed L P) (hL : [.rounds, .fieldPort, .counters] ⊆ L) {s : State} (hs : P s) : P
    (State.abandonWaking s) := by
  unfold State.abandonWaking
  try dsimp only
  repeat'
    first
    | with_reducible assumption
    | with_reducible apply h.countAborted (List.Subset.trans (by decide) hL)
    | with_reducible apply h.endRound (List.Subset.trans (by decide) hL)
    | with_reducible apply h.placeRoundFrame (List.Subset.trans (by decide) hL)
    | with_reducible apply h.setRounds (List.Subset.trans (by decide) hL)
    | with_reducible apply keeps_ite
    | split

theorem Closed.stopRound (h : Closed L P) (hL : [.rounds, .modules, .strings, .cellsHold, .limits, .envelope, .gate, .conn,
    .thermal, .fire, .fieldPort, .notices, .flags, .counters, .choices] ⊆ L) {s : State} (hs : P s) : P
    (State.stopRound s) := by
  unfold State.stopRound
  try dsimp only
  repeat'
    first
    | with_reducible assumption
    | with_reducible apply h.abortRound (List.Subset.trans (by decide) hL)
    | with_reducible apply h.abandonWaking (List.Subset.trans (by decide) hL)
    | split

theorem Closed.roundSeesHoldup (h : Closed L P) (hL : [.rounds] ⊆ L) {s : State} (hs : P s) : P
    (State.roundSeesHoldup s) := by
  unfold State.roundSeesHoldup
  try dsimp only
  repeat'
    first
    | with_reducible assumption
    | with_reducible apply h.setRounds (List.Subset.trans (by decide) hL)
    | intro _ _ _
    | split

theorem Closed.nodeHeard (h : Closed L P) (hL : [.nodes, .notices, .counters] ⊆ L) {s : State} {i : Nat} {e :
    NodeEntry} (hs : P s) : P (State.nodeHeard s i e) := by
  unfold State.nodeHeard
  try dsimp only
  repeat'
    first
    | with_reducible assumption
    | with_reducible apply h.modNode (List.Subset.trans (by decide) hL)
    | with_reducible apply h.raise (List.Subset.trans (by decide) hL)
    | with_reducible apply keeps_ite
    | intro _ _ _
    | split

theorem Closed.silenceEffects (h : Closed L P) (hL : [.modules, .strings, .envelope, .gate, .grid, .conn, .thermal,
    .fire, .fieldPort, .notices, .flags, .counters] ⊆ L) {s : State} {r : Role} {record : Nat} (hs : P s) : P
    (State.silenceEffects s r record) := by
  unfold State.silenceEffects
  try dsimp only
  repeat'
    first
    | with_reducible assumption
    | with_reducible apply h.monitorSilent (List.Subset.trans (by decide) hL)
    | with_reducible apply h.pcsSilent (List.Subset.trans (by decide) hL)
    | with_reducible apply h.chillerSilent (List.Subset.trans (by decide) hL)
    | with_reducible apply h.panelSilent (List.Subset.trans (by decide) hL)
    | with_reducible apply h.meterSilent (List.Subset.trans (by decide) hL)
    | split

theorem Closed.nodeSilenced (h : Closed L P) (hL : [.modules, .strings, .envelope, .gate, .grid, .conn, .thermal,
    .fire, .nodes, .fieldPort, .notices, .flags, .counters] ⊆ L) {s : State} {i : Nat} {e : NodeEntry} (hs : P s) : P
    (State.nodeSilenced s i e) := by
  unfold State.nodeSilenced
  try dsimp only
  repeat'
    first
    | with_reducible assumption
    | with_reducible apply h.modNode (List.Subset.trans (by decide) hL)
    | with_reducible apply h.latch (List.Subset.trans (by decide) hL)
    | with_reducible apply h.raise (List.Subset.trans (by decide) hL)
    | with_reducible apply h.silenceEffects (List.Subset.trans (by decide) hL)
    | intro _ _ _
    | split

theorem Closed.consume (h : Closed L P) (hL : [.rounds, .modules, .strings, .cellsHold, .limits, .envelope, .gate, .grid,
    .conn, .thermal, .fire, .fieldPort, .notices, .flags, .counters, .choices] ⊆ L) {s : State} {e : NodeEntry}
    {payload : List Byte} (hs : P s) : P (State.consume s e payload) := by
  unfold State.consume
  try dsimp only
  repeat'
    first
    | with_reducible assumption
    | with_reducible apply h.hand
    | with_reducible apply h.takeModuleReport (List.Subset.trans (by decide) hL)
    | with_reducible apply h.takeStringReport (List.Subset.trans (by decide) hL)
    | with_reducible apply h.takeGridSample (List.Subset.trans (by decide) hL)
    | with_reducible apply h.takePcsStatus (List.Subset.trans (by decide) hL)
    | with_reducible apply h.takeCoolantStatus (List.Subset.trans (by decide) hL)
    | with_reducible apply h.takeDetectorReport (List.Subset.trans (by decide) hL)
    | intro _ _ _
    | split

theorem Closed.consumeFrame (h : Closed L P) (hL : [.rounds, .modules, .strings, .cellsHold, .limits, .envelope, .gate, .grid,
    .conn, .thermal, .fire, .fieldPort, .notices, .flags, .counters, .choices] ⊆ L) {s : State} {e : NodeEntry} {f :
    Frame} (hs : P s) : P (State.consumeFrame s e f) := by
  unfold State.consumeFrame
  try dsimp only
  repeat'
    first
    | with_reducible assumption
    | with_reducible apply h.consume (List.Subset.trans (by decide) hL)
    | with_reducible apply h.count (List.Subset.trans (by decide) hL)
    | with_reducible apply keeps_ite
    | intro _ _ _
    | split

theorem Closed.forwardFrame (h : Closed L P) (hL : [.nodes, .stationPort, .counters] ⊆ L) {s : State} {i : Nat} {e :
    NodeEntry} {f : Frame} (hs : P s) : P (State.forwardFrame s i e f) := by
  unfold State.forwardFrame
  try dsimp only
  repeat'
    first
    | with_reducible assumption
    | with_reducible apply h.modNode (List.Subset.trans (by decide) hL)
    | with_reducible apply h.offerForwarded (List.Subset.trans (by decide) hL)
    | with_reducible apply keeps_ite
    | intro _ _ _
    | split

theorem Closed.unknownSource (h : Closed L P) (hL : [.stationPort, .counters] ⊆ L) {s : State} {f : Frame} (hs : P s)
    : P (State.unknownSource s f) := by
  unfold State.unknownSource
  try dsimp only
  repeat'
    first
    | with_reducible assumption
    | with_reducible apply h.count (List.Subset.trans (by decide) hL)
    | with_reducible apply h.offerForwarded (List.Subset.trans (by decide) hL)
    | with_reducible apply keeps_ite
    | intro _ _ _
    | split

theorem Closed.takeFieldFrame (h : Closed L P) (hL : [.rounds, .modules, .strings, .cellsHold, .limits, .envelope, .gate,
    .grid, .conn, .thermal, .fire, .nodes, .fieldPort, .stationPort, .notices, .flags, .counters, .choices] ⊆ L) {s :
    State} {f : Frame} (hs : P s) : P (State.takeFieldFrame s f) := by
  unfold State.takeFieldFrame
  try dsimp only
  repeat'
    first
    | with_reducible assumption
    | with_reducible apply h.count (List.Subset.trans (by decide) hL)
    | with_reducible apply h.unknownSource (List.Subset.trans (by decide) hL)
    | with_reducible apply h.nodeHeard (List.Subset.trans (by decide) hL)
    | with_reducible apply h.consumeFrame (List.Subset.trans (by decide) hL)
    | with_reducible apply h.forwardFrame (List.Subset.trans (by decide) hL)
    | with_reducible apply keeps_ite
    | intro _ _ _
    | split

theorem Closed.setLineState (h : Closed L P) (hL : [.lines] ⊆ L) {s : State} {i : Nat} {x : LineState} (hs : P s) : P
    (State.setLineState s i x) := by
  unfold State.setLineState
  try dsimp only
  repeat'
    first
    | with_reducible assumption
    | with_reducible apply h.modLine (List.Subset.trans (by decide) hL)
    | intro _ _ _
    | split

theorem Closed.pinBecomes (h : Closed L P) (hL : [.lines] ⊆ L) {s : State} {pin : InputPin} {high : Bool} (hs : P s)
    : P (State.pinBecomes s pin high) := by
  unfold State.pinBecomes
  try dsimp only
  repeat'
    first
    | with_reducible assumption
    | with_reducible apply h.modLine (List.Subset.trans (by decide) hL)
    | with_reducible apply h.setLines (List.Subset.trans (by decide) hL)
    | with_reducible apply keeps_ite
    | intro _ _ _
    | split

theorem Closed.breakerLine (h : Closed L P) (hL : [.envelope, .gate, .conn, .fieldPort, .notices, .flags, .counters]
    ⊆ L) {s : State} {closed : Bool} (hs : P s) : P (State.breakerLine s closed) := by
  unfold State.breakerLine
  try dsimp only
  repeat'
    first
    | with_reducible assumption
    | with_reducible apply h.breakerMoved (List.Subset.trans (by decide) hL)
    | with_reducible apply keeps_ite
    | split

theorem Closed.eStopBegins (h : Closed L P) (hL : [.modules, .strings, .envelope, .gate, .conn, .fieldPort, .notices,
    .flags, .counters] ⊆ L) {s : State} {gateIsFirst : Bool} (hs : P s) : P (State.eStopBegins s gateIsFirst) := by
  unfold State.eStopBegins
  try dsimp only
  repeat'
    first
    | with_reducible assumption
    | with_reducible apply h.holdForEStop (List.Subset.trans (by decide) hL)
    | with_reducible apply h.changeEval (List.Subset.trans (by decide) hL)
    | with_reducible apply h.forEach
    | with_reducible apply h.raiseCause (List.Subset.trans (by decide) hL)
    | with_reducible apply h.trip (List.Subset.trans (by decide) hL)
    | with_reducible apply keeps_ite
    | intro _ _ _
    | split

theorem Closed.eStopLine (h : Closed L P) (hL : [.modules, .strings, .envelope, .gate, .conn, .fieldPort, .notices,
    .flags, .counters, .choices] ⊆ L) {s : State} (hs : P s) : P (State.eStopLine s) := by
  unfold State.eStopLine
  try dsimp only
  repeat'
    first
    | with_reducible assumption
    | with_reducible apply h.chooseGate (List.Subset.trans (by decide) hL)
    | with_reducible apply h.eStopBegins (List.Subset.trans (by decide) hL)
    | intro _ _ _
    | split

theorem Closed.holdLine (h : Closed L P) (hL : [.envelope, .gate, .thermal, .fire, .fieldPort, .notices, .flags,
    .counters] ⊆ L) {s : State} {x : LineState} (hs : P s) : P (State.holdLine s x) := by
  unfold State.holdLine
  try dsimp only
  repeat'
    first
    | with_reducible assumption
    | with_reducible apply h.pauseCountdowns (List.Subset.trans (by decide) hL)
    | with_reducible apply h.resumeCountdowns (List.Subset.trans (by decide) hL)
    | split

theorem Closed.breakerReleased (h : Closed L P) (hL : [.envelope, .gate, .conn, .fieldPort, .notices, .flags, .counters] ⊆ L) {s : State} (hs : P s) : P (State.breakerReleased s) := by
  unfold State.breakerReleased
  try dsimp only
  repeat'
    first
    | with_reducible assumption
    | with_reducible apply h.setConn (List.Subset.trans (by decide) hL)
    | with_reducible apply h.breakerLine (List.Subset.trans (by decide) hL)
    | with_reducible apply h.adoptBreaker (List.Subset.trans (by decide) hL)
    | with_reducible apply keeps_ite
    | split

theorem Closed.lineReleased (h : Closed L P) (hL : [.modules, .strings, .envelope, .gate, .conn, .thermal, .fire,
    .fieldPort, .notices, .flags, .counters] ⊆ L) {old : LineEntry} {was : LineState} {s : State} (hs : P s) : P
    (State.lineReleased old was s) := by
  unfold State.lineReleased
  try dsimp only
  repeat'
    first
    | with_reducible assumption
    | with_reducible apply h.breakerReleased (List.Subset.trans (by decide) hL)
    | with_reducible apply h.breakerLine (List.Subset.trans (by decide) hL)
    | with_reducible apply h.adoptBreaker (List.Subset.trans (by decide) hL)
    | with_reducible apply h.fireLineMoved (List.Subset.trans (by decide) hL)
    | with_reducible apply h.resumeCountdowns (List.Subset.trans (by decide) hL)
    | with_reducible apply h.changeEval (List.Subset.trans (by decide) hL)
    | with_reducible apply keeps_ite
    | intro _ _ _
    | split

theorem Closed.linesLoaded (h : Closed L P) (hL : [.modules, .strings, .envelope, .gate, .conn, .thermal, .fire,
    .fieldPort, .notices, .flags, .lines, .counters] ⊆ L) {s : State} {before : List LineEntry} (hs : P s) : P
    (State.linesLoaded s before) := by
  unfold State.linesLoaded
  try dsimp only
  repeat'
    first
    | with_reducible assumption
    | with_reducible apply h.forEach
    | with_reducible apply h.modLine (List.Subset.trans (by decide) hL)
    | with_reducible apply h.lineReleased (List.Subset.trans (by decide) hL)
    | intro _ _ _
    | split

theorem Closed.enterHoldup (h : Closed L P) (hL : [.rounds, .modules, .thermal, .fieldPort, .notices, .supply,
    .counters] ⊆ L) {s : State} (hs : P s) : P (State.enterHoldup s) := by
  unfold State.enterHoldup
  try dsimp only
  repeat'
    first
    | with_reducible assumption
    | with_reducible apply h.setSupply (List.Subset.trans (by decide) hL)
    | with_reducible apply h.raise (List.Subset.trans (by decide) hL)
    | with_reducible apply h.roundSeesHoldup (List.Subset.trans (by decide) hL)
    | with_reducible apply h.clearAllMasks (List.Subset.trans (by decide) hL)
    | with_reducible apply h.makeCoolant (List.Subset.trans (by decide) hL)
    | split

theorem Closed.enterNormal (h : Closed L P) (hL : [.thermal, .fieldPort, .notices, .supply, .counters] ⊆ L) {s :
    State} (hs : P s) : P (State.enterNormal s) := by
  unfold State.enterNormal
  try dsimp only
  repeat'
    first
    | with_reducible assumption
    | with_reducible apply h.setSupply (List.Subset.trans (by decide) hL)
    | with_reducible apply h.raise (List.Subset.trans (by decide) hL)
    | with_reducible apply h.makeCoolant (List.Subset.trans (by decide) hL)
    | split

theorem Closed.holdupLowBegins (h : Closed L P) (hL : [.thermal, .fieldPort, .notices, .flags, .supply, .counters] ⊆
    L) {s : State} (hs : P s) : P (State.holdupLowBegins s) := by
  unfold State.holdupLowBegins
  try dsimp only
  repeat'
    first
    | with_reducible assumption
    | with_reducible apply h.setSupply (List.Subset.trans (by decide) hL)
    | with_reducible apply h.latch (List.Subset.trans (by decide) hL)
    | with_reducible apply h.raise (List.Subset.trans (by decide) hL)
    | with_reducible apply h.makeCoolant (List.Subset.trans (by decide) hL)
    | split

theorem Closed.holdupLowEnds (h : Closed L P) (hL : [.thermal, .fieldPort, .notices, .supply, .counters] ⊆ L) {s :
    State} (hs : P s) : P (State.holdupLowEnds s) := by
  unfold State.holdupLowEnds
  try dsimp only
  repeat'
    first
    | with_reducible assumption
    | with_reducible apply h.setSupply (List.Subset.trans (by decide) hL)
    | with_reducible apply h.raise (List.Subset.trans (by decide) hL)
    | with_reducible apply h.makeCoolant (List.Subset.trans (by decide) hL)
    | split

theorem Closed.stringsLoaded (h : Closed L P) (hL : [.modules, .strings, .fieldPort, .notices, .counters] ⊆ L) {s :
    State} {old : State} (hs : P s) : P (State.stringsLoaded s old) := by
  unfold State.stringsLoaded
  try dsimp only
  repeat'
    first
    | with_reducible assumption
    | with_reducible apply h.forEach
    | with_reducible apply h.modModule (List.Subset.trans (by decide) hL)
    | with_reducible apply h.clearMasks (List.Subset.trans (by decide) hL)
    | with_reducible apply h.modCharge (List.Subset.trans (by decide) hL)
    | with_reducible apply h.uncalibrate (List.Subset.trans (by decide) hL)
    | with_reducible apply keeps_ite
    | intro _ _ _
    | split

theorem Closed.nodesLoaded (h : Closed L P) (hL : [.modules, .strings, .envelope, .gate, .grid, .conn, .thermal,
    .fire, .nodes, .fieldPort, .notices, .flags, .counters] ⊆ L) {s : State} {before : List (Option NodeEntry)} (hs :
    P s) : P (State.nodesLoaded s before) := by
  unfold State.nodesLoaded
  try dsimp only
  repeat'
    first
    | with_reducible assumption
    | with_reducible apply h.setNodes (List.Subset.trans (by decide) hL)
    | with_reducible apply h.silenceEffects (List.Subset.trans (by decide) hL)
    | with_reducible apply keeps_foldl
    | with_reducible apply keeps_ite
    | intro _ _ _
    | split

theorem Closed.zonesLoaded (h : Closed L P) (hL : [.modules] ⊆ L) {s : State} (hs : P s) : P (State.zonesLoaded s) :=
    by
  unfold State.zonesLoaded
  try dsimp only
  repeat'
    first
    | with_reducible assumption
    | with_reducible apply h.setModules (List.Subset.trans (by decide) hL)
    | intro _ _ _
    | split

theorem Closed.putTable (h : Closed L P) (hL : [.engine, .config] ⊆ L) {s : State} {c : TableContents} (hs : P s) : P
    (State.putTable s c) := by
  unfold State.putTable
  try dsimp only
  repeat'
    first
    | with_reducible assumption
    | with_reducible apply h.setConfig (List.Subset.trans (by decide) hL)
    | with_reducible apply h.setEngine (List.Subset.trans (by decide) hL)
    | split

theorem Closed.tableLoaded (h : Closed L P) (hL : [.modules, .strings, .envelope, .gate, .grid, .conn, .thermal,
    .fire, .nodes, .fieldPort, .notices, .flags, .lines, .counters] ⊆ L) {s : State} {old : State} {c :
    TableContents} {entry : Option Nat} (hs : P s) : P (State.tableLoaded s old c entry) := by
  unfold State.tableLoaded
  try dsimp only
  repeat'
    first
    | with_reducible assumption
    | with_reducible apply h.clearStages (List.Subset.trans (by decide) hL)
    | with_reducible apply h.truncateHistory (List.Subset.trans (by decide) hL)
    | with_reducible apply h.watchReconnect (List.Subset.trans (by decide) hL)
    | with_reducible apply h.stringsLoaded (List.Subset.trans (by decide) hL)
    | with_reducible apply h.detectorsLoaded (List.Subset.trans (by decide) hL)
    | with_reducible apply h.evaluateZones (List.Subset.trans (by decide) hL)
    | with_reducible apply h.nodesLoaded (List.Subset.trans (by decide) hL)
    | with_reducible apply h.linesLoaded (List.Subset.trans (by decide) hL)
    | with_reducible apply h.zonesLoaded (List.Subset.trans (by decide) hL)
    | intro _ _ _
    | split

theorem Closed.takeTable (h : Closed L P) (hL : [.modules, .strings, .envelope, .gate, .grid, .conn, .thermal, .fire,
    .nodes, .fieldPort, .engine, .notices, .flags, .config, .lines, .counters] ⊆ L) {s : State} {c : TableContents}
    {entry : Option Nat} (hs : P s) : P (State.takeTable s c entry) := by
  unfold State.takeTable
  try dsimp only
  repeat'
    first
    | with_reducible assumption
    | with_reducible apply h.putTable (List.Subset.trans (by decide) hL)
    | with_reducible apply h.tableLoaded (List.Subset.trans (by decide) hL)
    | with_reducible apply h.changeEval (List.Subset.trans (by decide) hL)
    | with_reducible apply keeps_ite
    | split

theorem Closed.storeParameter (h : Closed L P) (hL : [.modules, .fieldPort, .engine, .config, .counters] ⊆ L) {s :
    State} {id : Nat} {v : Int} (hs : P s) : P (State.storeParameter s id v) := by
  unfold State.storeParameter
  try dsimp only
  repeat'
    first
    | with_reducible assumption
    | with_reducible apply h.setConfig (List.Subset.trans (by decide) hL)
    | with_reducible apply h.setEngine (List.Subset.trans (by decide) hL)
    | with_reducible apply h.reduceMasks (List.Subset.trans (by decide) hL)
    | with_reducible apply keeps_ite
    | split

theorem Closed.zeroCounters (h : Closed L P) (hL : [.strings, .fire, .counters] ⊆ L) {s : State} (hs : P s) : P
    (State.zeroCounters s) := by
  unfold State.zeroCounters
  try dsimp only
  repeat'
    first
    | with_reducible assumption
    | with_reducible apply h.setCounters (List.Subset.trans (by decide) hL)
    | with_reducible apply h.setStrings (List.Subset.trans (by decide) hL)
    | with_reducible apply h.setFire (List.Subset.trans (by decide) hL)
    | intro _ _ _
    | split

theorem Closed.releaseHeld (h : Closed L P) (hL : [.gate, .notices, .counters] ⊆ L) {s : State} (hs : P s) : P
    (State.releaseHeld s) := by
  unfold State.releaseHeld
  try dsimp only
  repeat'
    first
    | with_reducible assumption
    | with_reducible apply h.setGate (List.Subset.trans (by decide) hL)
    | with_reducible apply h.raise (List.Subset.trans (by decide) hL)
    | split

theorem Closed.recordWritten (h : Closed L P) (hL : [.engine, .notices, .image, .counters] ⊆ L) {s : State} {correct
    : Bool} (hs : P s) : P (State.recordWritten s correct) := by
  unfold State.recordWritten
  try dsimp only
  repeat'
    first
    | with_reducible assumption
    | with_reducible apply h.setImage (List.Subset.trans (by decide) hL)
    | with_reducible apply h.setEngine (List.Subset.trans (by decide) hL)
    | with_reducible apply h.raise (List.Subset.trans (by decide) hL)
    | with_reducible apply keeps_ite
    | split

theorem Closed.cutStore (h : Closed L P) (hL : [.engine, .image] ⊆ L) {s : State} (hs : P s) : P (State.cutStore s)
    := by
  unfold State.cutStore
  try dsimp only
  repeat'
    first
    | with_reducible assumption
    | with_reducible apply h.setImage (List.Subset.trans (by decide) hL)
    | with_reducible apply h.setEngine (List.Subset.trans (by decide) hL)
    | split

theorem Closed.scrubTable (h : Closed L P) (hL : [.notices, .flags, .config, .counters] ⊆ L) {n : Nat} {s : State}
    (hs : P s) : P (State.scrubTable n s) := by
  unfold State.scrubTable
  try dsimp only
  repeat'
    first
    | with_reducible assumption
    | with_reducible apply h.setConfig (List.Subset.trans (by decide) hL)
    | with_reducible apply h.latch (List.Subset.trans (by decide) hL)
    | with_reducible apply h.raise (List.Subset.trans (by decide) hL)
    | with_reducible apply keeps_ite
    | split

theorem Closed.scrub (h : Closed L P) (hL : [.envelope, .gate, .fieldPort, .notices, .flags, .config, .counters] ⊆ L)
    {s : State} (hs : P s) : P (State.scrub s) := by
  unfold State.scrub
  try dsimp only
  repeat'
    first
    | with_reducible assumption
    | with_reducible apply h.forEach
    | with_reducible apply h.scrubTable (List.Subset.trans (by decide) hL)
    | with_reducible apply h.changeEval (List.Subset.trans (by decide) hL)
    | with_reducible apply keeps_ite
    | intro _ _ _
    | split

theorem Closed.noteFailures (h : Closed L P) (hL : [.notices, .flags, .counters] ⊆ L) {s : State} (hs : P s) : P
    (State.noteFailures s) := by
  unfold State.noteFailures
  try dsimp only
  repeat'
    first
    | with_reducible assumption
    | with_reducible apply h.forEach
    | with_reducible apply h.latch (List.Subset.trans (by decide) hL)
    | with_reducible apply h.raise (List.Subset.trans (by decide) hL)
    | intro _ _ _
    | split

theorem Closed.noteUncalibrated (h : Closed L P) (hL : [.notices, .counters] ⊆ L) {s : State} {old : State} (hs : P
    s) : P (State.noteUncalibrated s old) := by
  unfold State.noteUncalibrated
  try dsimp only
  repeat'
    first
    | with_reducible assumption
    | with_reducible apply h.forEach
    | with_reducible apply h.raise (List.Subset.trans (by decide) hL)
    | with_reducible apply keeps_ite
    | intro _ _ _
    | split

theorem Closed.relatchLockout (h : Closed L P) (hL : [.flags] ⊆ L) {s : State} (hs : P s) : P (State.relatchLockout
    s) := by
  unfold State.relatchLockout
  try dsimp only
  repeat'
    first
    | with_reducible assumption
    | with_reducible apply h.latch (List.Subset.trans (by decide) hL)
    | with_reducible apply keeps_ite
    | split

theorem Closed.relatchZone (h : Closed L P) (hL : [.notices, .flags, .counters] ⊆ L) {z : Nat} {s : State} (hs : P s)
    : P (State.relatchZone z s) := by
  unfold State.relatchZone
  try dsimp only
  repeat'
    first
    | with_reducible assumption
    | with_reducible apply h.latchStage (List.Subset.trans (by decide) hL)
    | with_reducible apply h.latch (List.Subset.trans (by decide) hL)
    | with_reducible apply h.raise (List.Subset.trans (by decide) hL)
    | with_reducible apply keeps_ite
    | split

theorem Closed.start (h : Closed L P) (hL : [.envelope, .gate, .thermal, .fire, .fieldPort, .notices, .flags,
    .counters] ⊆ L) {s : State} {old : State} (hs : P s) : P (State.start s old) := by
  unfold State.start
  try dsimp only
  repeat'
    first
    | with_reducible assumption
    | with_reducible apply h.noteFailures (List.Subset.trans (by decide) hL)
    | with_reducible apply h.noteUncalibrated (List.Subset.trans (by decide) hL)
    | with_reducible apply h.relatchLockout (List.Subset.trans (by decide) hL)
    | with_reducible apply h.forEach
    | with_reducible apply h.relatchZone (List.Subset.trans (by decide) hL)
    | with_reducible apply h.latch (List.Subset.trans (by decide) hL)
    | with_reducible apply h.setUnwatched (List.Subset.trans (by decide) hL)
    | with_reducible apply h.makeFrame (List.Subset.trans (by decide) hL)
    | with_reducible apply h.makeCoolant (List.Subset.trans (by decide) hL)
    | with_reducible apply h.raise (List.Subset.trans (by decide) hL)
    | with_reducible apply keeps_ite
    | intro _ _ _
    | split

theorem Closed.envelopeTick (h : Closed L P) (hL : [.envelope, .gate, .fieldPort, .notices, .counters] ⊆ L) {s :
    State} (hs : P s) : P (State.envelopeTick s) := by
  unfold State.envelopeTick
  try dsimp only
  repeat'
    first
    | with_reducible assumption
    | with_reducible apply h.setEnvelope (List.Subset.trans (by decide) hL)
    | with_reducible apply h.changeEval (List.Subset.trans (by decide) hL)
    | split

theorem Closed.overshot (h : Closed L P) (hL : [.envelope, .gate, .conn, .fieldPort, .notices, .flags, .counters] ⊆
    L) {s : State} (hs : P s) : P (State.overshot s) := by
  unfold State.overshot
  try dsimp only
  repeat'
    first
    | with_reducible assumption
    | with_reducible apply h.setGate (List.Subset.trans (by decide) hL)
    | with_reducible apply h.latch (List.Subset.trans (by decide) hL)
    | with_reducible apply h.raise (List.Subset.trans (by decide) hL)
    | with_reducible apply h.trip (List.Subset.trans (by decide) hL)
    | split

theorem Closed.historyTick (h : Closed L P) (hL : [.conn] ⊆ L) {s : State} (hs : P s) : P (State.historyTick s) := by
  unfold State.historyTick
  try dsimp only
  repeat'
    first
    | with_reducible assumption
    | with_reducible apply h.setConn (List.Subset.trans (by decide) hL)
    | split

theorem Closed.fireTick (h : Closed L P) (hL : [.modules, .strings, .envelope, .gate, .conn, .thermal, .fire,
    .fieldPort, .notices, .flags, .counters] ⊆ L) {s : State} (hs : P s) : P (State.fireTick s) := by
  unfold State.fireTick
  try dsimp only
  repeat'
    first
    | with_reducible assumption
    | with_reducible apply h.setFire (List.Subset.trans (by decide) hL)
    | with_reducible apply h.evaluateZones (List.Subset.trans (by decide) hL)
    | split

theorem Closed.scrubTick (h : Closed L P) (hL : [.envelope, .gate, .fieldPort, .notices, .flags, .config, .counters]
    ⊆ L) {s : State} (hs : P s) : P (State.scrubTick s) := by
  unfold State.scrubTick
  try dsimp only
  repeat'
    first
    | with_reducible assumption
    | with_reducible apply h.setConfig (List.Subset.trans (by decide) hL)
    | with_reducible apply h.scrub (List.Subset.trans (by decide) hL)
    | split

theorem Closed.maintMoves (h : Closed L P) (hL : [.lines] ⊆ L) {s : State} (hs : P s) : P (State.maintMoves s) := by
  unfold State.maintMoves
  try dsimp only
  repeat'
    first
    | with_reducible assumption
    | with_reducible apply h.setLines (List.Subset.trans (by decide) hL)
    | split

end Sys2Proof.Machine
end

