-- ==== Sys2Proof/Laws/Answers.lean ====
section
/-! SUPPORT. What the requests' bodies can do, said once: none of them touches the Station queue, part time, the reset
or the image. -/

namespace Sys2Proof.Machine

variable {P : State → Prop} {L : List Part}

theorem Closed.readStatus (h : Closed L P) (hL : [.counters] ⊆ L) {args : List Byte} {s : State} (hs : P s) : P
    (State.readStatus args s).1 := by
  unfold State.readStatus
  try simp only [State.plain, State.checked, State.ok, State.refuse, State.refuseMalformed]
  repeat'
    first
    | with_reducible assumption
    | with_reducible apply h.countPort (List.Subset.trans (by decide) hL)
    | split
    | dsimp only

theorem Closed.readRecords (h : Closed L P) (hL : [.counters] ⊆ L) {args : List Byte} {s : State} (hs : P s) : P
    (State.readRecords args s).1 := by
  unfold State.readRecords
  try simp only [State.checked, State.ok, State.refuse, State.refuseMalformed]
  repeat'
    first
    | with_reducible assumption
    | with_reducible apply h.countPort (List.Subset.trans (by decide) hL)
    | split
    | dsimp only

theorem Closed.scanCells (h : Closed L P) (hL : [.counters] ⊆ L) {args : List Byte} {s : State} (hs : P s) : P
    (State.scanCells args s).1 := by
  unfold State.scanCells
  try simp only [State.checked, State.ok, State.refuse, State.refuseMalformed]
  repeat'
    first
    | with_reducible assumption
    | with_reducible apply h.countPort (List.Subset.trans (by decide) hL)
    | split
    | dsimp only

theorem Closed.readEnvelope (h : Closed L P) (hL : [.envelope, .counters] ⊆ L) {args : List Byte} {s : State} (hs : P
    s) : P (State.readEnvelope args s).1 := by
  unfold State.readEnvelope
  try simp only [State.plain, State.checked, State.ok, State.refuse, State.refuseMalformed]
  repeat'
    first
    | with_reducible assumption
    | with_reducible apply h.evaluate (List.Subset.trans (by decide) hL)
    | with_reducible apply h.countPort (List.Subset.trans (by decide) hL)
    | split
    | dsimp only

theorem Closed.readTable (h : Closed L P) (hL : [.counters] ⊆ L) {args : List Byte} {s : State} (hs : P s) : P
    (State.readTable args s).1 := by
  unfold State.readTable
  try simp only [State.byByte, State.checked, State.ok, State.refuse, State.refuseMalformed]
  repeat'
    first
    | with_reducible assumption
    | with_reducible apply h.countPort (List.Subset.trans (by decide) hL)
    | split
    | dsimp only

theorem Closed.loadContents (h : Closed L P) (hL : [.modules, .strings, .envelope, .gate, .grid, .conn, .thermal,
    .fire, .nodes, .fieldPort, .engine, .notices, .flags, .config, .lines, .counters] ⊆ L) {n : Nat} {bytes : List
    Byte} {s : State} (hs : P s) : P (State.loadContents n bytes s).1 := by
  unfold State.loadContents
  try simp only [State.ok, State.refuse]
  repeat'
    first
    | with_reducible assumption
    | with_reducible apply h.takeTable (List.Subset.trans (by decide) hL)
    | with_reducible apply h.countPort (List.Subset.trans (by decide) hL)
    | split
    | dsimp only

theorem Closed.loadTable (h : Closed L P) (hL : [.modules, .strings, .envelope, .gate, .grid, .conn, .thermal, .fire,
    .nodes, .fieldPort, .engine, .notices, .flags, .config, .lines, .counters] ⊆ L) {args : List Byte} {s : State}
    (hs : P s) : P (State.loadTable args s).1 := by
  unfold State.loadTable
  try simp only [State.checked, State.refuse, State.refuseMalformed]
  repeat'
    first
    | with_reducible assumption
    | with_reducible apply h.loadContents (List.Subset.trans (by decide) hL)
    | with_reducible apply h.countPort (List.Subset.trans (by decide) hL)
    | split
    | dsimp only

theorem Closed.loadEntry (h : Closed L P) (hL : [.modules, .strings, .envelope, .gate, .grid, .conn, .thermal, .fire,
    .nodes, .fieldPort, .engine, .notices, .flags, .config, .lines, .counters] ⊆ L) {args : List Byte} {s : State}
    (hs : P s) : P (State.loadEntry args s).1 := by
  unfold State.loadEntry
  try simp only [State.checked, State.ok, State.refuse, State.refuseMalformed]
  repeat'
    first
    | with_reducible assumption
    | with_reducible apply h.takeTable (List.Subset.trans (by decide) hL)
    | with_reducible apply h.countPort (List.Subset.trans (by decide) hL)
    | split
    | dsimp only

theorem Closed.setParameter (h : Closed L P) (hL : [.modules, .fieldPort, .engine, .config, .counters] ⊆ L) {args :
    List Byte} {s : State} (hs : P s) : P (State.setParameter args s).1 := by
  unfold State.setParameter
  try simp only [State.checked, State.ok, State.refuse, State.refuseMalformed]
  repeat'
    first
    | with_reducible assumption
    | with_reducible apply h.storeParameter (List.Subset.trans (by decide) hL)
    | with_reducible apply h.countPort (List.Subset.trans (by decide) hL)
    | split
    | dsimp only

theorem Closed.storeImage (h : Closed L P) (hL : [.engine, .counters] ⊆ L) {args : List Byte} {s : State} (hs : P s)
    : P (State.storeImage args s).1 := by
  unfold State.storeImage
  try simp only [State.plain, State.checked, State.ok, State.refuse, State.refuseMalformed]
  repeat'
    first
    | with_reducible assumption
    | with_reducible apply h.setEngine (List.Subset.trans (by decide) hL)
    | with_reducible apply h.countPort (List.Subset.trans (by decide) hL)
    | split
    | dsimp only

theorem Closed.clearFlagsRequest (h : Closed L P) (hL : [.flags, .counters] ⊆ L) {args : List Byte} {s : State} (hs :
    P s) : P (State.clearFlagsRequest args s).1 := by
  unfold State.clearFlagsRequest
  try simp only [State.checked, State.ok, State.refuse, State.refuseMalformed]
  repeat'
    first
    | with_reducible assumption
    | with_reducible apply h.clearFlags (List.Subset.trans (by decide) hL)
    | with_reducible apply h.countPort (List.Subset.trans (by decide) hL)
    | split
    | dsimp only

theorem Closed.clearCountersRequest (h : Closed L P) (hL : [.strings, .fire, .counters] ⊆ L) {args : List Byte} {s :
    State} (hs : P s) : P (State.clearCountersRequest args s).1 := by
  unfold State.clearCountersRequest
  try simp only [State.plain, State.checked, State.ok, State.refuse, State.refuseMalformed]
  repeat'
    first
    | with_reducible assumption
    | with_reducible apply h.zeroCounters (List.Subset.trans (by decide) hL)
    | with_reducible apply h.countPort (List.Subset.trans (by decide) hL)
    | split
    | dsimp only

theorem Closed.restartRequest (h : Closed L P) (hL : [.engine, .counters] ⊆ L) {args : List Byte} {s : State} (hs : P
    s) : P (State.restartRequest args s).1 := by
  unfold State.restartRequest
  try simp only [State.plain, State.checked, State.ok, State.refuse, State.refuseMalformed]
  repeat'
    first
    | with_reducible assumption
    | with_reducible apply h.setEngine (List.Subset.trans (by decide) hL)
    | with_reducible apply h.countPort (List.Subset.trans (by decide) hL)
    | split
    | dsimp only

theorem Closed.startRound (h : Closed L P) (hL : [.rounds, .modules, .strings, .cellsHold, .limits, .envelope, .gate, .conn,
    .thermal, .fire, .fieldPort, .notices, .flags, .counters, .choices] ⊆ L) {args : List Byte} {s : State} (hs : P
    s) : P (State.startRound args s).1 := by
  unfold State.startRound
  try simp only [State.checked, State.ok, State.refuse, State.refuseMalformed]
  repeat'
    first
    | with_reducible assumption
    | with_reducible apply h.beginRound (List.Subset.trans (by decide) hL)
    | with_reducible apply h.countPort (List.Subset.trans (by decide) hL)
    | split
    | dsimp only

theorem Closed.stopRoundRequest (h : Closed L P) (hL : [.rounds, .modules, .strings, .cellsHold, .limits, .envelope, .gate,
    .conn, .thermal, .fire, .fieldPort, .notices, .flags, .counters, .choices] ⊆ L) {args : List Byte} {s : State}
    (hs : P s) : P (State.stopRoundRequest args s).1 := by
  unfold State.stopRoundRequest
  try simp only [State.plain, State.checked, State.ok, State.refuse, State.refuseMalformed]
  repeat'
    first
    | with_reducible assumption
    | with_reducible apply h.stopRound (List.Subset.trans (by decide) hL)
    | with_reducible apply h.countPort (List.Subset.trans (by decide) hL)
    | split
    | dsimp only

theorem Closed.isolateString (h : Closed L P) (hL : [.modules, .strings, .envelope, .gate, .conn, .fieldPort,
    .notices, .flags, .counters] ⊆ L) {args : List Byte} {s : State} (hs : P s) : P (State.isolateString args s).1 :=
    by
  unfold State.isolateString
  try simp only [State.byByte, State.byString, State.checked, State.ok, State.refuse, State.refuseMalformed]
  repeat'
    first
    | with_reducible assumption
    | with_reducible apply h.raiseCause (List.Subset.trans (by decide) hL)
    | with_reducible apply h.countPort (List.Subset.trans (by decide) hL)
    | split
    | dsimp only

theorem Closed.restoreString (h : Closed L P) (hL : [.modules, .strings, .envelope, .gate, .conn, .fieldPort,
    .notices, .flags, .counters] ⊆ L) {args : List Byte} {s : State} (hs : P s) : P (State.restoreString args s).1 :=
    by
  unfold State.restoreString
  try simp only [State.byByte, State.byString, State.checked, State.ok, State.refuse, State.refuseMalformed]
  repeat'
    first
    | with_reducible assumption
    | with_reducible apply h.restore (List.Subset.trans (by decide) hL)
    | with_reducible apply h.countPort (List.Subset.trans (by decide) hL)
    | split
    | dsimp only

theorem Closed.resetStringRequest (h : Closed L P) (hL : [.modules, .strings, .envelope, .gate, .conn, .fieldPort,
    .notices, .flags, .counters] ⊆ L) {args : List Byte} {s : State} (hs : P s) : P (State.resetStringRequest args
    s).1 := by
  unfold State.resetStringRequest
  try simp only [State.byByte, State.byString, State.checked, State.ok, State.refuse, State.refuseMalformed]
  repeat'
    first
    | with_reducible assumption
    | with_reducible apply h.resetString (List.Subset.trans (by decide) hL)
    | with_reducible apply h.countPort (List.Subset.trans (by decide) hL)
    | split
    | dsimp only

theorem Closed.releaseGate (h : Closed L P) (hL : [.gate, .notices, .counters] ⊆ L) {args : List Byte} {s : State}
    (hs : P s) : P (State.releaseGate args s).1 := by
  unfold State.releaseGate
  try simp only [State.plain, State.checked, State.ok, State.refuse, State.refuseMalformed]
  repeat'
    first
    | with_reducible assumption
    | with_reducible apply h.releaseHeld (List.Subset.trans (by decide) hL)
    | with_reducible apply h.countPort (List.Subset.trans (by decide) hL)
    | split
    | dsimp only

theorem Closed.connect (h : Closed L P) (hL : [.conn, .counters] ⊆ L) {args : List Byte} {s : State} (hs : P s) : P
    (State.connect args s).1 := by
  unfold State.connect
  try simp only [State.plain, State.checked, State.ok, State.refuse, State.refuseMalformed]
  repeat'
    first
    | with_reducible assumption
    | with_reducible apply h.setConn (List.Subset.trans (by decide) hL)
    | with_reducible apply h.countPort (List.Subset.trans (by decide) hL)
    | split
    | dsimp only

theorem Closed.disconnectRequest (h : Closed L P) (hL : [.envelope, .gate, .conn, .fieldPort, .notices, .flags,
    .counters] ⊆ L) {args : List Byte} {s : State} (hs : P s) : P (State.disconnectRequest args s).1 := by
  unfold State.disconnectRequest
  try simp only [State.plain, State.checked, State.ok, State.refuse, State.refuseMalformed]
  repeat'
    first
    | with_reducible assumption
    | with_reducible apply h.disconnect (List.Subset.trans (by decide) hL)
    | with_reducible apply h.countPort (List.Subset.trans (by decide) hL)
    | split
    | dsimp only

theorem Closed.resetLockoutRequest (h : Closed L P) (hL : [.envelope, .gate, .conn, .fieldPort, .notices, .counters]
    ⊆ L) {args : List Byte} {s : State} (hs : P s) : P (State.resetLockoutRequest args s).1 := by
  unfold State.resetLockoutRequest
  try simp only [State.plain, State.checked, State.ok, State.refuse, State.refuseMalformed]
  repeat'
    first
    | with_reducible assumption
    | with_reducible apply h.resetLockout (List.Subset.trans (by decide) hL)
    | with_reducible apply h.countPort (List.Subset.trans (by decide) hL)
    | split
    | dsimp only

theorem Closed.resetFireRequest (h : Closed L P) (hL : [.modules, .strings, .envelope, .gate, .conn, .thermal, .fire,
    .fieldPort, .notices, .flags, .counters] ⊆ L) {args : List Byte} {s : State} (hs : P s) : P
    (State.resetFireRequest args s).1 := by
  unfold State.resetFireRequest
  try simp only [State.byByte, State.checked, State.ok, State.refuse, State.refuseMalformed]
  repeat'
    first
    | with_reducible assumption
    | with_reducible apply h.resetFireZone (List.Subset.trans (by decide) hL)
    | with_reducible apply h.countPort (List.Subset.trans (by decide) hL)
    | split
    | dsimp only

theorem Closed.unknownCode (_h : Closed L P) (_hL : [] ⊆ L) {s : State} (hs : P s) : P (State.unknownCode s).1 := by
  unfold State.unknownCode
  try simp only [State.refuse]
  repeat'
    first
    | with_reducible assumption
    | split
    | dsimp only

/-- The pieces that some request's body changes. -/
def requestParts : List Part :=
  [.rounds, .modules, .strings, .cellsHold, .limits, .envelope, .gate, .grid, .conn, .thermal, .fire, .nodes, .fieldPort,
   .engine, .notices, .flags, .config, .lines, .counters, .choices]

/-- Whatever request a code names, its body changes nothing but the pieces of `requestParts`. -/
theorem Closed.requestOf (h : Closed L P) (hL : requestParts ⊆ L) {code : Nat} {args : List Byte}
    {body : State → Answer} (hb : requestOf code args = some body) {s : State} (hs : P s) : P (body s).1 := by
  unfold Machine.requestOf at hb
  split at hb <;> first | cases hb | skip
  · exact h.readStatus (List.Subset.trans (by decide) hL) hs
  · exact h.readRecords (List.Subset.trans (by decide) hL) hs
  · exact h.scanCells (List.Subset.trans (by decide) hL) hs
  · exact h.readEnvelope (List.Subset.trans (by decide) hL) hs
  · exact h.readTable (List.Subset.trans (by decide) hL) hs
  · exact h.loadTable (List.Subset.trans (by decide) hL) hs
  · exact h.loadEntry (List.Subset.trans (by decide) hL) hs
  · exact h.setParameter (List.Subset.trans (by decide) hL) hs
  · exact h.storeImage (List.Subset.trans (by decide) hL) hs
  · exact h.clearFlagsRequest (List.Subset.trans (by decide) hL) hs
  · exact h.clearCountersRequest (List.Subset.trans (by decide) hL) hs
  · exact h.restartRequest (List.Subset.trans (by decide) hL) hs
  · exact h.startRound (List.Subset.trans (by decide) hL) hs
  · exact h.stopRoundRequest (List.Subset.trans (by decide) hL) hs
  · exact h.isolateString (List.Subset.trans (by decide) hL) hs
  · exact h.restoreString (List.Subset.trans (by decide) hL) hs
  · exact h.resetStringRequest (List.Subset.trans (by decide) hL) hs
  · exact h.releaseGate (List.Subset.trans (by decide) hL) hs
  · exact h.connect (List.Subset.trans (by decide) hL) hs
  · exact h.disconnectRequest (List.Subset.trans (by decide) hL) hs
  · exact h.resetLockoutRequest (List.Subset.trans (by decide) hL) hs
  · exact h.resetFireRequest (List.Subset.trans (by decide) hL) hs

end Sys2Proof.Machine
end

