-- ==== Sys2Proof/Laws/PerInstr.lean ====
section
/-! SUPPORT. A family of statements about every command as syntax, one lemma for each: what the well-formedness of a
command says of the bytes it carries (R152, R165). -/

namespace Sys2Proof.Laws.FrameOperands

/-- The addresses that a command carries: DEST and SRC of its frame. -/
def addresses (i : Instr) : List Nat :=
  match i with
  | .moduleReport dest src _ | .stringReport dest src _ | .gridSample dest src _ | .pcsStatus dest src _
  | .coolantStatus dest src _ | .detectorReport dest src _ | .dispatch dest src _ => [dest, src]
  | .fieldFrame f | .stationFrame f => [f.dest, f.src]
  | _ => []

/-- The payload bytes that a command carries; of a request, the arguments. -/
def carried (i : Instr) : List Byte :=
  match i with
  | .moduleReport _ _ b | .stringReport _ _ b | .gridSample _ _ b | .pcsStatus _ _ b | .coolantStatus _ _ b
  | .detectorReport _ _ b | .dispatch _ _ b => b
  | .fieldFrame f | .stationFrame f => f.payload
  | .readStatus b | .readRecords b | .scanCells b | .readEnvelope b | .readTable b | .loadTable b | .loadEntry b
  | .setParameter b | .storeImage b | .clearFlags b | .clearCounters b | .restart b | .startRound b | .stopRound b
  | .isolateString b | .restoreString b | .resetString b | .releaseGate b | .connect b | .disconnect b
  | .resetLockout b | .resetFire b | .unknownRequest b => b
  | .faultyFrameEnd _ _ _ _ b _ => b
  | _ => []

/-- How many bytes a command can carry: 64, but for a LOAD TABLE (log 18). -/
def room (i : Instr) : Nat :=
  match i with
  | .loadTable _ => 513
  | _ => 64

/-- A well-formed command carries addresses of 0 to 127, and no more bytes than its frame holds. -/
def Statement (i : Instr) : Prop :=
  i.wellFormed = true → (∀ a ∈ addresses i, a ≤ 127) ∧ (carried i).length ≤ room i

theorem of_frame {d s : Nat} {b : List Byte} (h : (addressOk d && addressOk s && payloadOk b) = true) :
    (∀ a ∈ [d, s], a ≤ 127) ∧ b.length ≤ 64 := by
  simp [addressOk, payloadOk] at h
  simp; omega

theorem of_whole {f : Frame} (h : f.wellFormed = true) :
    (∀ a ∈ [f.dest, f.src], a ≤ 127) ∧ f.payload.length ≤ 64 := by
  simp [Frame.wellFormed, addressOk, payloadOk] at h
  simp; omega

theorem of_bytes {b : List Byte} {n : Nat} (h : decide (b.length ≤ n) = true) :
    (∀ a ∈ ([] : List Nat), a ≤ 127) ∧ b.length ≤ n :=
  ⟨by simp, of_decide_eq_true h⟩

theorem of_args {b : List Byte} (h : argsOk b = true) : (∀ a ∈ ([] : List Nat), a ≤ 127) ∧ b.length ≤ 64 :=
  ⟨by simp, Nat.le_succ_of_le (of_decide_eq_true h)⟩

theorem of_none : (∀ a ∈ ([] : List Nat), a ≤ 127) ∧ ([] : List Byte).length ≤ 64 := by simp

theorem moduleReport : ∀ x0 x1 x2, Statement (.moduleReport x0 x1 x2) := fun _ _ _ h => of_frame h

theorem stringReport : ∀ x0 x1 x2, Statement (.stringReport x0 x1 x2) := fun _ _ _ h => of_frame h

theorem gridSample : ∀ x0 x1 x2, Statement (.gridSample x0 x1 x2) := fun _ _ _ h => of_frame h

theorem pcsStatus : ∀ x0 x1 x2, Statement (.pcsStatus x0 x1 x2) := fun _ _ _ h => of_frame h

theorem coolantStatus : ∀ x0 x1 x2, Statement (.coolantStatus x0 x1 x2) := fun _ _ _ h => of_frame h

theorem detectorReport : ∀ x0 x1 x2, Statement (.detectorReport x0 x1 x2) := fun _ _ _ h => of_frame h

theorem fieldFrame : ∀ x0, Statement (.fieldFrame x0) := fun _ h => of_whole h

theorem stationFrame : ∀ x0, Statement (.stationFrame x0) := fun _ h => of_whole h

theorem dispatch : ∀ x0 x1 x2, Statement (.dispatch x0 x1 x2) := fun _ _ _ h => of_frame h

theorem readStatus : ∀ x0, Statement (.readStatus x0) := fun _ h => of_args h

theorem readRecords : ∀ x0, Statement (.readRecords x0) := fun _ h => of_args h

theorem scanCells : ∀ x0, Statement (.scanCells x0) := fun _ h => of_args h

theorem readEnvelope : ∀ x0, Statement (.readEnvelope x0) := fun _ h => of_args h

theorem readTable : ∀ x0, Statement (.readTable x0) := fun _ h => of_args h

theorem loadTable : ∀ x0, Statement (.loadTable x0) := fun _ h => of_bytes h

theorem loadEntry : ∀ x0, Statement (.loadEntry x0) := fun _ h => of_args h

theorem setParameter : ∀ x0, Statement (.setParameter x0) := fun _ h => of_args h

theorem storeImage : ∀ x0, Statement (.storeImage x0) := fun _ h => of_args h

theorem clearFlags : ∀ x0, Statement (.clearFlags x0) := fun _ h => of_args h

theorem clearCounters : ∀ x0, Statement (.clearCounters x0) := fun _ h => of_args h

theorem restart : ∀ x0, Statement (.restart x0) := fun _ h => of_args h

theorem startRound : ∀ x0, Statement (.startRound x0) := fun _ h => of_args h

theorem stopRound : ∀ x0, Statement (.stopRound x0) := fun _ h => of_args h

theorem isolateString : ∀ x0, Statement (.isolateString x0) := fun _ h => of_args h

theorem restoreString : ∀ x0, Statement (.restoreString x0) := fun _ h => of_args h

theorem resetString : ∀ x0, Statement (.resetString x0) := fun _ h => of_args h

theorem releaseGate : ∀ x0, Statement (.releaseGate x0) := fun _ h => of_args h

theorem connect : ∀ x0, Statement (.connect x0) := fun _ h => of_args h

theorem disconnect : ∀ x0, Statement (.disconnect x0) := fun _ h => of_args h

theorem resetLockout : ∀ x0, Statement (.resetLockout x0) := fun _ h => of_args h

theorem resetFire : ∀ x0, Statement (.resetFire x0) := fun _ h => of_args h

theorem unknownRequest : ∀ x0, Statement (.unknownRequest x0) := fun _ h => of_bytes h

theorem lengthError : ∀ x0 x1, Statement (.lengthError x0 x1) := fun _ _ _ => of_none

theorem truncatedFrame : ∀ x0 x1, Statement (.truncatedFrame x0 x1) := fun _ _ _ => of_none

theorem faultyFrameEnd : ∀ x0 x1 x2 x3 x4 x5, Statement (.faultyFrameEnd x0 x1 x2 x3 x4 x5) :=
  fun _ _ _ _ _ _ h => of_bytes h

theorem fieldTransmitStart : Statement (.fieldTransmitStart) := fun _ => of_none

theorem fieldFrameSent : Statement (.fieldFrameSent) := fun _ => of_none

theorem stationTransmitStart : Statement (.stationTransmitStart) := fun _ => of_none

theorem stationFrameSent : Statement (.stationFrameSent) := fun _ => of_none

theorem noticeMove : Statement (.noticeMove) := fun _ => of_none

theorem intervalExpiry : Statement (.intervalExpiry) := fun _ => of_none

theorem wakeSettleExpiry : Statement (.wakeSettleExpiry) := fun _ => of_none

theorem quietSettleExpiry : Statement (.quietSettleExpiry) := fun _ => of_none

theorem roundDeadlineExpiry : Statement (.roundDeadlineExpiry) := fun _ => of_none

theorem contactorTimerExpiry : ∀ x0, Statement (.contactorTimerExpiry x0) := fun _ _ => of_none

theorem envelopeTimerExpiry : Statement (.envelopeTimerExpiry) := fun _ => of_none

theorem stationSilenceExpiry : Statement (.stationSilenceExpiry) := fun _ => of_none

theorem overshootTimerExpiry : Statement (.overshootTimerExpiry) := fun _ => of_none

theorem stageDelayExpiry : ∀ x0, Statement (.stageDelayExpiry x0) := fun _ _ => of_none

theorem openTimeout : Statement (.openTimeout) := fun _ => of_none

theorem closeTimeout : Statement (.closeTimeout) := fun _ => of_none

theorem reconnectTimerExpiry : Statement (.reconnectTimerExpiry) := fun _ => of_none

theorem historyTimerExpiry : Statement (.historyTimerExpiry) := fun _ => of_none

theorem tripPulseEnd : Statement (.tripPulseEnd) := fun _ => of_none

theorem closePulseEnd : Statement (.closePulseEnd) := fun _ => of_none

theorem nodeSilenceExpiry : ∀ x0, Statement (.nodeSilenceExpiry x0) := fun _ _ => of_none

theorem clearTimerExpiry : ∀ x0, Statement (.clearTimerExpiry x0) := fun _ _ => of_none

theorem fireTimerExpiry : Statement (.fireTimerExpiry) := fun _ => of_none

theorem releaseCountdownEnd : ∀ x0, Statement (.releaseCountdownEnd x0) := fun _ _ => of_none

theorem auxRestoreExpiry : Statement (.auxRestoreExpiry) := fun _ => of_none

theorem scrubTimerExpiry : Statement (.scrubTimerExpiry) := fun _ => of_none

theorem lineLevelChange : ∀ x0 x1, Statement (.lineLevelChange x0 x1) := fun _ _ _ => of_none

theorem breakerFeedbackChange : Statement (.breakerFeedbackChange) := fun _ => of_none

theorem breakerAdoption : Statement (.breakerAdoption) := fun _ => of_none

theorem fireLineChange : ∀ x0, Statement (.fireLineChange x0) := fun _ _ => of_none

theorem releaseHoldChange : Statement (.releaseHoldChange) := fun _ => of_none

theorem eStopActive : Statement (.eStopActive) := fun _ => of_none

theorem eStopInactive : Statement (.eStopInactive) := fun _ => of_none

theorem unassignedLineChange : ∀ x0, Statement (.unassignedLineChange x0) := fun _ _ => of_none

theorem maintChange : Statement (.maintChange) := fun _ => of_none

theorem vauxFall : Statement (.vauxFall) := fun _ => of_none

theorem vauxRise : Statement (.vauxRise) := fun _ => of_none

theorem vauxRestoreDip : Statement (.vauxRestoreDip) := fun _ => of_none

theorem holdupLowBegin : Statement (.holdupLowBegin) := fun _ => of_none

theorem holdupLowEnd : Statement (.holdupLowEnd) := fun _ => of_none

theorem brownOut : Statement (.brownOut) := fun _ => of_none

theorem resetnAssert : Statement (.resetnAssert) := fun _ => of_none

theorem restartReset : Statement (.restartReset) := fun _ => of_none

theorem resetComplete : ∀ x0, Statement (.resetComplete x0) := fun _ _ => of_none

theorem storeRecordWritten : ∀ x0, Statement (.storeRecordWritten x0) := fun _ _ => of_none

theorem syncReceived : ∀ x0, Statement (.syncReceived x0) := fun _ _ => of_none

end Sys2Proof.Laws.FrameOperands
end

