-- ==== Sys2Proof/Tests/Slice0.lean ====
section
/-! SUPPORT. The model's own tests: the refusals of WellFormed, worked examples of the manual, and states that meet
the hypotheses of the statements, at the boundaries of their ranges. -/

namespace Sys2Proof.Tests

open Sys2Proof.Machine

/- One theorem at a time: each takes a thread of its own otherwise. -/
set_option Elab.async false

/-! ### Ill-formed commands (WellFormed) -/

/-- A payload of `n` zeros. -/
def zeros (n : Nat) : List Byte := List.replicate n 0

theorem test_wellFormed_moduleReport_dest : (Instr.moduleReport 128 1 []).wellFormed = false := by decide
theorem test_wellFormed_stringReport_src : (Instr.stringReport 1 128 []).wellFormed = false := by decide
theorem test_wellFormed_gridSample_payload : (Instr.gridSample 1 1 (zeros 65)).wellFormed = false := by decide
theorem test_wellFormed_pcsStatus_dest : (Instr.pcsStatus 128 1 []).wellFormed = false := by decide
theorem test_wellFormed_coolantStatus_src : (Instr.coolantStatus 1 200 []).wellFormed = false := by decide
theorem test_wellFormed_detectorReport_payload : (Instr.detectorReport 1 1 (zeros 65)).wellFormed = false := by decide
theorem test_wellFormed_fieldFrame_kind : (Instr.fieldFrame ⟨1, 1, 256, []⟩).wellFormed = false := by decide
theorem test_wellFormed_stationFrame_payload : (Instr.stationFrame ⟨1, 1, 1, zeros 65⟩).wellFormed = false := by decide
theorem test_wellFormed_dispatch_dest : (Instr.dispatch 128 0 []).wellFormed = false := by decide
theorem test_wellFormed_readStatus_args : (Instr.readStatus (zeros 64)).wellFormed = false := by decide
theorem test_wellFormed_loadTable_args : (Instr.loadTable (zeros 514)).wellFormed = false := by decide +kernel
theorem test_wellFormed_unknownRequest_payload : (Instr.unknownRequest (zeros 65)).wellFormed = false := by decide
theorem test_wellFormed_truncatedFrame_bytes : (Instr.truncatedFrame .field ⟨zeros 70, 6⟩).wellFormed = false := by decide
theorem test_wellFormed_faultyFrameEnd_payload :
    (Instr.faultyFrameEnd .field 1 1 1 (zeros 65) 0).wellFormed = false := by decide
theorem test_wellFormed_accepts_longest_frame : (Instr.gridSample 127 127 (zeros 64)).wellFormed = true := by decide

/-! ### Worked examples of the manual -/

/-- The check value of the CRC with polynomial 1021h and initial value FFFFh over the digits 1 to 9 (general
knowledge of that CRC; R153 gives its parameters). -/
theorem test_crc_check_value :
    crc16 [0x31, 0x32, 0x33, 0x34, 0x35, 0x36, 0x37, 0x38, 0x39] = 0x29B1 := by decide +kernel

/-- R62's examples with T4 = (80, 1024), (100, 512), (110, 0). -/
theorem test_curve_truncates :
    (([60, 80, 93, 105, 110, 140] : List Int).map (Curve.at [(80, 1024), (100, 512), (110, 0)])) =
      [1024, 1024, 692, 256, 0, 0] := by decide

/-- The frequency response of the gate's worked examples: df −150, −200, −300 and −10. -/
theorem test_frequency_response :
    (([-150, -200, -300, -10] : List Int).map (Curve.at [(-500, 800), (-100, 0), (100, 0), (500, -800)])) =
      [100, 200, 400, 0] := by decide

/-- Chapter 3's worked batch: a record of 280 Ah before its first report. -/
def batchStart : ChargeRec :=
  { ChargeRec.atPowerOn 512 280 with q := 7056000000, soc := 716 }

theorem test_batch_first_sample :
    (batchStart.sample 1234 10 (-37)).q = 7055987660 ∧ (batchStart.sample 1234 10 (-37)).batchSum = 12340 := by decide

/-- Chapter 3's worked batch after sixteen samples: the trim takes 111 back and leaves a residue. -/
theorem test_batch_trim :
    let r := batchStart.fill 1234 10 (-37) 16
    r.q = 7055802671 ∧ r.residue = -30784 ∧ r.batchCount = 0 ∧ r.batchSum = 0 ∧ r.soc = 716 := by decide +kernel

/-- Chapter 7's worked duties. -/
theorem test_duties : ([0, 40, 96, 104, 160, 200, 248, 255].map dutyOf) = [0, 40, 128, 160, 512, 1280, 3584, 4032] := by
  decide

/-- Chapter 7's worked demand codes: e of 8, −3, 26 and 35 with k 8 and base 40. -/
theorem test_demand_codes : (([8, -3, 26, 35] : List Int).map (demandCode .builtIn)) = [104, 40, 248, 255] := by decide

/-- Chapter 7's statuses 2, 5 and 7: the limits from OK, from DEGRADED and from LOST. -/
theorem test_coolant_limits :
    coolantAfter .builtIn .ok ⟨.run, 49, 0, 250, 0⟩ = .degraded ∧
    coolantAfter .builtIn .degraded ⟨.run, 44, 0, 215, 0⟩ = .degraded ∧
    coolantAfter .builtIn .degraded ⟨.run, 43, 0, 230, 0⟩ = .ok ∧
    coolantAfter .builtIn .lost ⟨.run, 47, 0, 240, 0⟩ = .degraded ∧
    coolantAfter .builtIn .lost ⟨.standby, 50, 0, 0, 0⟩ = .ok := by decide

/-- Chapter 4's string 2: its temperature factor in charge at 93 and 60, and string 1's voltage factor at 3580. -/
theorem test_string_factors :
    temperatureFactor [(0, 0), (20, 1024), (90, 1024), (110, 0)] ⟨some (3430, 24), some (3295, 25), some 93, some 60⟩ = 871 ∧
    voltageFactorChg .builtIn ⟨some (3580, 12), some (3300, 13), some 74, some 61⟩ = 716 := by decide

/-- Chapter 5's ramps: 360 kW from 0 toward 800 within 1800 ms at 200 kW/s, and at once toward zero. -/
theorem test_ramps : ramped 0 800 360 = 360 ∧ ramped 1722 1523 0 = 1523 ∧ ramped 1500 1722 240 = 1722 := by decide

/-! ### States for the tests -/

/-- An entry of T14 with record index 0, policy ALL and a timeout of 500 ms. -/
def node (address : Nat) (role : Role) : Option NodeEntry := some ⟨address, role, 0, .all, 500⟩

/-- A node table with one node of each role, and empty entries after them. -/
def siteNodes : List (Option NodeEntry) :=
  [node 10 .moduleMonitor, node 11 .stringMonitor, node 12 .meter, node 13 .pcs, node 14 .chiller, node 15 .firePanel,
   node 16 .other] ++ List.replicate 57 none

/-- A state with other tables. -/
def tabled (s : State) (f : Tables → Tables) : State := s.setConfig { s.config with tables := f s.config.tables }

/-- The part after reset, with nodes in its node table. -/
def site : State := tabled .reset fun t => { t with t14 := siteNodes }

/-- The part with MAINT active. -/
def maint : State := site.setLines { site.lines with maint := ⟨false, 0, true⟩ }

/-- The part held in a reset by a brown-out. -/
def held : State := site.beginReset true false

/-- A frame of this kind waiting for this destination. -/
def waiting (kind dest : Nat) : Placed := ⟨⟨dest, 120, kind, []⟩, none⟩

/-- A Field Port whose NORMAL queue is full of frames that do not supersede. -/
def fullNormal : FieldPort := ⟨none, [], List.replicate 32 (waiting 0x50 1), none⟩

/-- A notice waiting. -/
def module (i : Nat) : Notice := ⟨.moduleStale, some i, 1, 0⟩

/-- A Station Port with `n` notices waiting. -/
def crowded (n : Nat) : StationPort := ⟨none, (List.range n).map fun i => .notice (module i), 0, none⟩

/-- An open round of scope ALL. -/
def openRound : OpenRound := ⟨.all, false, [0, 1], [], [], false, none, 0, false⟩

/-- The part in a phase of that round, with its timer due. -/
def inPhase (x : RoundPhase) : State :=
  site.setRounds { site.rounds with phase := x, tag := 1, openRound := some { openRound with phaseTimer := some 0 } }

/-- The part with its connection in a state. -/
def inConn (x : ConnState) : State := site.setConn { site.conn with state := x }

/-- The part with a zone in FIRE, locked out with cause FIRE, and its strings isolated. -/
def burning : State :=
  let s := State.reset.modFireZone 0 fun z => { z with stage := .fire }
  (s.setConn { s.conn with state := .openLocked, lockout := .fire }).setThermal
    { s.thermal with command := { s.thermal.command with fanDuty := 0 } }

/-- The part with a LIVE node of an index. -/
def liveNode (s : State) (i : Nat) : State := s.modNode i fun r => { r with state := .live, silenceEnd := some 500 }

/-- A store write of the tables in force. -/
def write (record : Nat) (failed : Option Nat) : StoreWrite := ⟨.builtIn, .builtIn, [512, 512, 512, 512], record, 0, failed⟩

/-- The part in a store write. -/
def writing (record : Nat) (failed : Option Nat) : State :=
  site.setEngine { site.engine with store := some (write record failed) }

/-- A time long after reset, at which every timer that then runs is due. -/
def later (s : State) : State := s.setTime 100000

/-- The part with line 7 of a function, its pin high for longer than its debounce. -/
def lined (f : LineFunction) : State :=
  later ((tabled site fun t => { t with t15 := t.t15.set 7 ⟨f, 15, .activeHigh, 500⟩ }).modLine 7 fun r =>
    { r with high := true })

/-- The part with a zone in a stage, its sources an alarming detector and a cell grade. -/
def sourced (x : FireStage) (g : Grade) : State :=
  ((tabled site fun t => { t with t12 := t.t12.set 15 ⟨true, .gas, 7, 100, 200, 1, false⟩ }).modFireZone 7 fun z =>
    { z with stage := x, cellGrade := g }).setFire
      { (State.reset.modFireZone 7 fun z => { z with stage := x, cellGrade := g }).fire with
        detectors := site.fire.detectors.set 15 { DetectorRec.atReset with grade := .alarm } }

/-! ### Worked examples over a state -/

/-- A string IN_SERVICE with calibrated charge, as chapter 4's example gives it. -/
def serving (soc vMax vMin : Nat) (tMax tMin : Int) (r : StringRec) : StringRec :=
  { r with
    state := .inService
    extremes := ⟨some (vMax, 0), some (vMin, 1), some tMax, some tMin⟩
    charge := { r.charge with soc, uncalibrated := false } }

/-- Chapter 4's worked container: four strings in service, the breaker closed, and the coolant DEGRADED. -/
def worked : State :=
  let s := tabled site fun t =>
    { t with
      t3 := [(0, 0), (20, 1024), (90, 1024), (110, 0)], t4 := [(80, 1024), (100, 512), (110, 0)]
      t5 := [(900, 1024), (1024, 102)], t6 := [(0, 0), (100, 1024)]
      t7 := [(-500, 800), (-100, 0), (100, 0), (500, -800)] }
  let s := (((s.modString 0 (serving 600 3420 3290 70 58)).modString 1 (serving 940 3580 3300 74 61)).modString 2
    (serving 610 3430 3295 93 60)).modString 3 (serving 590 3415 3288 68 57)
  (s.setConn { s.conn with state := .connected, feedback := .closed }).setThermal { s.thermal with coolant := .degraded }

/-- Chapter 4's example, first row: 1663 kW of charge and 1722 kW of discharge, both for COOLANT. -/
theorem test_worked_limits :
    worked.evaluation.pChgLim = 1663 ∧ worked.evaluation.pDisLim = 1722 ∧ worked.evaluation.fc = 768 ∧
    worked.evaluation.causeChg = .container .coolant ∧ worked.evaluation.causeDis = .container .coolant := by
  decide +kernel

/-- Chapter 4's example, second row: the coolant OK, and the least string factors named. -/
theorem test_worked_limits_coolant_ok :
    let e := (worked.setThermal { worked.thermal with coolant := .ok }).evaluation
    e.pChgLim = 2218 ∧ e.pDisLim = 2297 ∧ e.causeChg = .string 1 .voltage ∧ e.causeDis = .string 2 .temperature := by
  decide +kernel

/-- Chapter 5's DISPATCH no. 18 at 5000 ms: 800 kW ramped from 0 to 360, and 100 kvar. -/
theorem test_worked_dispatch :
    let s := (worked.setEnvelope { worked.envelope with record := worked.evaluation }).setTime 5000
    let m := (s.setGate { s.gate with state := .passing, lastFrame := some 3200 }).making .station 800 100
    m.p = 360 ∧ m.q = 100 ∧ m.flags.ramp = true ∧ m.flags.clampDis = false := by decide +kernel

/-- Chapter 8's example at 110000 ms: a hold line pauses the countdown with 24000 ms remaining. -/
theorem test_worked_countdown :
    let s := (site.setTime 110000).modFireZone 2 fun z => { z with stage := .releaseDelay, countdown := some (.running 134000) }
    (s.pauseCountdowns.fireZone 2).countdown = some (.paused 24000) := by decide +kernel

/-- Chapter 2's example: of six candidates, four are kept, the tie going to the lower position. -/
theorem test_worked_candidates :
    keepHighest 4 [(0, 3362), (3, 3338), (4, 3355), (7, 3362), (11, 3371), (14, 3355)] = [0, 4, 7, 11] := by decide +kernel

/-- Chapter 6's example: a second trip stays below the trip limit, and opens toward OPEN_WAIT. -/
theorem test_worked_trip :
    let s := (worked.setTime 2010150).setConn { worked.conn with history := [⟨1200000, .stage 0⟩] }
    (s.trip (.stage 1)).conn.target = some .openWait ∧ (s.trip (.stage 1)).conn.history.length = 2 ∧
      (s.trip (.stage 1)).conn.tripOut = some 2010350 := by decide +kernel

/-- Chapter 10's example at 6200 ms: the oldest INFO notice of a full queue gives way to a TRIP notice. -/
theorem test_worked_overflow :
    let q : List Notice :=
      ⟨.dispatchCorrected, none, 2, 5000⟩ :: ⟨.nodeLive, some 14, 1, 5200⟩ :: (List.range 22).map module
    (enterNotice q ⟨.connectionTripped, none, 1, 6200⟩).head? = some ⟨.nodeLive, some 14, 1, 5200⟩ ∧
      losesNotice q ⟨.connectionTripped, none, 1, 6200⟩ = true := by decide +kernel

/-- R152: a CLAMPED response to SET PARAMETER carries its code, status 1 and the value in four signed bytes; an
UNKNOWN_REQUEST has status 6. -/
theorem test_response_payload :
    (⟨8, .clamped, .parameter (-2)⟩ : Response).payload = [8, 1, 0xFF, 0xFF, 0xFF, 0xFE] ∧
    (⟨99, .unknownRequest, .none⟩ : Response).payload = [99, 6] := by decide

/-- R152 with R22 and R120: bleed and cooling are named on / off, so that on is 0 and off is 1. -/
theorem test_on_off_bytes :
    cellBytes ⟨some 3300, none, .normal, 0, 0⟩ true = [0x0C, 0xE4, 0xFF, 0xFF, 2, 0, 0, 0] ∧
    (cellBytes ⟨some 3300, none, .normal, 0, 0⟩ false).getLast? = some 1 ∧
    ZoneRec.bytes ⟨true, some 60, true, 40, 40, 40⟩ = [1, 0, 60, 0, 40, 40, 0, 40] := by decide

/-- R134 and R152: an absent group takes the bytes of each of its fields. -/
theorem test_absent_groups_keep_their_length :
    (pcsBytes none).length = (pcsBytes (some ⟨0, 0, .run⟩)).length ∧
    (chillerBytes none).length = (chillerBytes (some ⟨.run, 0, 0, 0, 0⟩)).length ∧
    (countdownBytes none).length = (countdownBytes (some ⟨0, true⟩)).length ∧
    (calibrationBytes none).length = (calibrationBytes (some ⟨true, 0, 0⟩)).length := ⟨rfl, rfl, rfl, rfl⟩

/-- R152: a NOTICE leaves for the station controller with its kind and severity numbered, and 255 for no subject. -/
theorem test_notice_frame :
    (StationFrame.notice ⟨.cellHard, none, 2, 0x01020304⟩).frame 120 =
      ⟨0, 120, kindNotice, [1, 3, 255, 2, 1, 2, 3, 4]⟩ := by decide

/-- R134, on chapter 8's example at 110000 ms: READ RECORDS gives 24000 ms of the running countdown. -/
theorem test_countdown_is_read_as_remaining :
    let s := (site.setTime 110000).modFireZone 2 fun z => { z with stage := .releaseDelay, countdown := some (.running 134000) }
    (s.fireView 2).countdown = some ⟨24000, true⟩ := by decide +kernel

/-- R171: COOLANT_LOST, cleared while the coolant is LOST, is latched again at the next FAULT status. -/
theorem test_coolant_lost_latches_again :
    let s := site.setThermal { site.thermal with coolant := .lost }
    s.isLatched .coolantLost = false ∧ (s.takeCoolantStatus ⟨.fault, 0, 0, 0⟩).isLatched .coolantLost = true := by decide

/-- No word spells a command: the table gives bits to no row. -/
theorem test_no_word_decodes : decodeTableWord 32 0x12345678 = none := rfl

/-! ### Stepping, idling and resets -/

theorem witness_StepExecutesTheFrontCommand :
    (State.reset.setPending [.noticeMove, .brownOut]).pending = .noticeMove :: [.brownOut] := rfl

theorem witness_IdleAndHeldPartsOnlyWait :
    (State.reset.pending = [] ∧ State.reset.runs) ∧
    (held.pending = [] ∧ ¬held.sys.hold = none ∧ actsInReset .noticeMove = false) := ⟨⟨rfl, rfl⟩, rfl, by decide, rfl⟩

theorem witness_ResetEventsHoldThePart :
    State.reset.engine.store = none ∧ (writing 1 none).engine.store = some (write 1 none) := ⟨rfl, rfl⟩

theorem witness_ResetCompleteStartsThePart :
    (held.sys.hold = some ⟨true, false⟩ ∧ (⟨true, false⟩ : ResetHold).cause = .powerOn) ∧
    ((site.beginReset false true).sys.hold = some ⟨false, true⟩ ∧
      (⟨false, true⟩ : ResetHold).cause ≠ .powerOn) := ⟨⟨rfl, rfl⟩, rfl, by decide⟩

theorem witness_ResetKeepsAndAnnounces :
    (held.sys.hold = some ⟨true, false⟩ ∧ held.fire.zones.length = 8 ∧ held.strings[3]?.isSome = true) ∧
    (let s := burning.beginReset false true
     s.sys.hold = some ⟨false, true⟩ ∧ s.fire.zones.length = 8 ∧ (⟨false, true⟩ : ResetHold).cause ≠ .powerOn ∧
       (s.fireZone 0).stage.confirmed = true ∧ (s.fireZone 7).stage.confirmed = false) := by decide +kernel

theorem witness_ResetStateFollowsFromPowerOn :
    (State.atReset.setSys ⟨some ⟨true, false⟩, .powerOn, 120⟩).sys.hold = some ⟨true, false⟩ := rfl

/-! ### The conditions that every step keeps -/

theorem witness_steps : ∃ t, step State.reset = .next t := ⟨_, rfl⟩

theorem witness_QueuesKeepTheirForm :
    NoticesOk ((List.range 24).map module) ∧
    FieldPortOk { fullNormal with urgent := [waiting kindDispatch 13, waiting kindCoolantCommand 14] } ∧
    StationPortOk (crowded 32) := by
  unfold NoticesOk FieldPortOk StationPortOk; decide +kernel

theorem witness_AlertFollowsTheFlags : FlagsOk (site.latch .fire).flags ∧ (site.latch .fire).flags.alert = true := by
  unfold FlagsOk; decide +kernel

theorem witness_OutputsNeverPulseTogether : PulsesOk { State.reset.conn with tripOut := some 200 } := Or.inr rfl

theorem test_zones_guarded : ∀ z ∈ burning.fire.zones, FireZoneOk z := by
  intro z hz
  have h : z.clearTimer = none ∧ z.countdown = none :=
    (by decide +kernel : ∀ z ∈ burning.fire.zones, z.clearTimer = none ∧ z.countdown = none) z hz
  exact ⟨fun t ht => by simp [h.1] at ht, fun hc => absurd h.2 hc⟩

theorem witness_GuardOutlastsEveryStep : burning.Guarded ∧ burning.anyConfirmed = true where
  left :=
    { fire := fun _ => by unfold ConnRec.lockedOut; decide +kernel
      history := fun h => absurd h (by decide)
      release := fun _ => by decide +kernel
      lockout := fun _ => by decide
      zones := test_zones_guarded
      eightZones := rfl
      fourStrings := rfl
      limits := by unfold Tables.limitsTrips; decide
      imageLimits := by unfold Tables.limitsTrips; decide
      storeLimits := fun w h => nomatch h }
  right := by decide +kernel

theorem witness_ChargeStaysWithinCapacity : site.ChargesOk where
  records := by unfold ChargeOk; decide +kernel
  image := by decide
  store := fun w h => nomatch h

/-! ### Frames -/

/-- One report row of each role of the site: its row, its frame, and its entry of the node table. -/
def reports : List (Instr × Frame × Nat × NodeEntry) :=
  [(.moduleReport 0 10 ([0, 0, 1] ++ zeros 5), ⟨0, 10, 0x01, [0, 0, 1] ++ zeros 5⟩, 0, ⟨10, .moduleMonitor, 0, .all, 500⟩),
   (.stringReport 0 11 (zeros 6), ⟨0, 11, 0x02, zeros 6⟩, 1, ⟨11, .stringMonitor, 0, .all, 500⟩),
   (.gridSample 0 12 (zeros 11), ⟨0, 12, 0x03, zeros 11⟩, 2, ⟨12, .meter, 0, .all, 500⟩),
   (.pcsStatus 0 13 (zeros 5), ⟨0, 13, 0x04, zeros 5⟩, 3, ⟨13, .pcs, 0, .all, 500⟩),
   (.coolantStatus 0 14 (zeros 7), ⟨0, 14, 0x05, zeros 7⟩, 4, ⟨14, .chiller, 0, .all, 500⟩),
   (.detectorReport 0 15 (zeros 48), ⟨0, 15, 0x06, zeros 48⟩, 5, ⟨15, .firePanel, 0, .all, 500⟩),
   (.fieldFrame ⟨127, 12, 0x03, zeros 11⟩, ⟨127, 12, 0x03, zeros 11⟩, 2, ⟨12, .meter, 0, .all, 500⟩)]

theorem witness_FieldReportReachesItsBlock : site.runs ∧ (∀ r ∈ reports,
    reportRow r.1 = some r.2.1 ∧ r.2.1.src ≠ site.sys.address ∧
    (site.nodeIndex fun e => e.address == r.2.1.src) = some r.2.2.1 ∧ site.nodeEntry r.2.2.1 = some r.2.2.2 ∧
    r.2.2.2.role.kind = some r.2.1.kind ∧ payloadFits r.2.1.kind r.2.1.payload = true) ∧
    (ModuleReport.read ([0, 0, 1] ++ zeros 5) = some (⟨0, false, [], [0], []⟩, []) ∧
      StringReport.read (zeros 6) = some (⟨0, 0, 0, false⟩, []) ∧
      GridSample.read (zeros 11) = some (⟨0, 0, 0, 0, 0⟩, []) ∧ PcsStatus.read (zeros 5) = some (⟨0, 0, .run⟩, []) ∧
      CoolantStatus.read (zeros 7) = some (⟨.run, 0, 0, 0⟩, []) ∧
      detectorPairs (zeros 48) = some (List.replicate 16 (0, 0))) ∧
    ((3 ≤ 2 + 1 ∧ ¬3 ≤ 1 + 1) ∧ (crowded 27).used < 28 ∧ 28 ≤ (crowded 28).used) := ⟨rfl, by decide +kernel⟩

theorem witness_OtherFieldFramesAreCounted :
    site.runs ∧ reportRow (.fieldFrame ⟨0, 120, 0x50, []⟩) = some ⟨0, 120, 0x50, []⟩ ∧ site.sys.address = 120 ∧
    payloadFits 0x50 [] = true ∧ (site.nodeIndex fun e => e.address == 99) = none ∧
    (reportRow (.stringReport 0 10 (zeros 6)) = some ⟨0, 10, 0x02, zeros 6⟩ ∧ payloadFits 0x02 (zeros 6) = true ∧
      (site.nodeIndex fun e => e.address == 10) = some 0 ∧ site.nodeEntry 0 = node 10 .moduleMonitor ∧
      Role.moduleMonitor.kind = some 0x01) ∧
    (reportRow (.stringReport 0 11 (zeros 5)) = some ⟨0, 11, 0x02, zeros 5⟩ ∧ payloadFits 0x02 (zeros 5) = false ∧
      payloadFits kindManagementRequest [1, 0] = false ∧ (site.nodeIndex fun e => e.address == 11) = some 1 ∧
      site.nodeEntry 1 = node 11 .stringMonitor ∧ Role.stringMonitor.kind = some 0x02) ∧
    ((site.nodeIndex fun e => e.address == 16) = some 6 ∧ site.nodeEntry 6 = node 16 .other) ∧
    (crowded 27).used < 28 ∧ 28 ≤ (crowded 28).used := by
  refine ⟨rfl, ?_⟩; decide +kernel

theorem witness_TakenFrameMakesItsNodeLive : 63 < site.nodes.length := by decide

/-- A module report of tag 1 with one cell. -/
def report : ModuleReport := ⟨1, false, [], [3300], []⟩

theorem witness_StaleModuleReportIsDiscarded :
    site.refusesReport 0 report ∧ (inPhase .collecting).refusesReport 2 report ∧
    (inPhase .collecting).refusesReport 0 { report with tag := 0 } ∧
    moduleReportFits ([0, 0, 1] ++ zeros 5) = true ∧
    (ModuleReport.read ([0, 0, 1] ++ zeros 5)).isSome = true :=
  ⟨Or.inl (by decide), Or.inr (Or.inr fun o h => by cases h; exact Or.inl (by decide)), Or.inr (Or.inl (by decide)),
    by decide, by decide⟩

theorem witness_AcceptedModuleReportUpdatesItsModule :
    (inPhase .collecting).rounds.phase = .collecting ∧ report.tag = (inPhase .collecting).rounds.tag ∧
    (inPhase .collecting).rounds.openRound = some { openRound with phaseTimer := some 0 } ∧ 1 ∈ openRound.expected ∧
    1 ∉ openRound.reported ∧ openRound.reported.length + 1 ≠ openRound.expected.length ∧
    (let last := { openRound with reported := [0] }
     1 ∈ last.expected ∧ 1 ∉ last.reported ∧ last.reported.length + 1 = last.expected.length) ∧
    1 < (inPhase .collecting).modules.length := by decide

theorem witness_CountedSampleMovesTheCharge :
    { batchStart with batchCount := 14 }.batchCount + 1 < 16 ∧ 16 ≤ { batchStart with batchCount := 15 }.batchCount + 1 := by
  decide

/-- The part without strings in use. -/
def idle : State := tabled site fun t =>
  { t with t10 := { t.t10 with entries := List.replicate 4 { StringEntry.builtIn with inUse := false } } }

theorem witness_StringReportIsRecordedAndCounted :
    let s := idle.modCharge 3 fun r => { r with lastSeq := some 255, lastTime := some 0 }
    3 < s.strings.length ∧ (s.stringEntry 3).inUse = false ∧
    ¬s.params.balanceCurrentLimit < (s.params.balanceCurrentLimit : Int).natAbs ∧
    s.params.balanceCurrentLimit < ((s.params.balanceCurrentLimit : Int) + 1).natAbs ∧
    (s.stringAt 3).charge.lastSeq = some 255 ∧ (s.stringAt 3).charge.lastTime = some 0 ∧ 255 < 256 ∧
    ((255 + 256 - 255) % 256 = 0 ∧ (0 + 256 - 255) % 256 = 1 ∧ (16 + 256 - 255) % 256 = 17 ∧ (17 + 256 - 255) % 256 = 18) ∧
    (s.time - 0).toNat < 128 * s.params.sampleInterval ∧ (idle.stringAt 3).charge.lastSeq = none := by decide +kernel

/-- The part with MAINT active and its string 0 in a state, measured by a LIVE monitor and with an open contactor. -/
def inString (x : StringState) : State :=
  (liveNode maint 1).modString 0 fun r => { r with state := x, voltage := some 8000, feedback := .isOpen, timer := some 0 }

/-- Every state of a string. -/
def stringStates : List StringState :=
  [.awaiting, .inService, .isolating, .restoring, .isolated, .lockedOut, .welded]

theorem witness_StringFeedbackMovesItsString :
    (∀ x ∈ stringStates, 0 < (inString x).strings.length ∧ ((inString x).stringEntry 0).inUse = true ∧
      ((inString x).stringAt 0).state = x ∧ (inString x).addressOf .stringMonitor 0 = some 11) ∧
    (⟨255, 200, 8000, true⟩ : StringReport).closed = true ∧ (⟨255, 200, 8000, false⟩ : StringReport).closed = false ∧
    (let s := ((inString .awaiting).modString 0 fun r => { r with retained := .welded }).setConn
       { site.conn with state := .connected }
     (s.stringAt 0).state = .awaiting ∧ (s.stringAt 0).retained = .welded ∧ s.conn.state = .connected ∧
       ((s.takeStringReport 0 ⟨0, 0, 8000, false⟩).stringAt 0).state = .welded) ∧
    (((inString .isolated).takeStringReport 0 ⟨0, 0, 8000, true⟩).stringAt 0).state = .isolating ∧ 0 < 4 := by
  decide +kernel

theorem witness_GridSampleIsTakenOrRepeated :
    let s := site.setGrid { site.grid with lastSeq := some 255 }
    (⟨255, 1000, 1000, 1000, 50000⟩ : GridSample).seq < 256 ∧ s.grid.lastSeq = some 255 ∧
    (∀ l, s.grid.lastSeq = some l → l < 256) ∧ site.grid.lastSeq ≠ some 255 ∧ s.grid.lastSeq ≠ some 0 :=
  ⟨by decide, rfl, fun l h => by cases h; decide, by decide, by decide⟩

/-- The part with these voltage extremes and this frequency as its latest sample, its meter LIVE. -/
def sampled (low high : Nat) (f : Int) : State :=
  (liveNode site 2).setGrid { site.grid with vMin := some low, vMax := some high, f := some f }

/-- A latest sample within the windows of T9. -/
def steady : State := sampled 1000 1000 50000

theorem witness_StagesAndConnectionFollowTheSample :
    ((site.stageEntry 7).inUse = false ∧ 7 < site.grid.stages.length ∧ site.grid.value (site.stageEntry 0).quantity = none) ∧
    (let s := sampled 849 1000 50000
     (s.stageEntry 0).inUse = true ∧ s.grid.value (s.stageEntry 0).quantity = some 849 ∧ (s.stageAt 0).state = .clear ∧
       (s.stageEntry 0).trip = 850) ∧
    (let s := (sampled 900 1000 50000).modStage 0 fun r => { r with state := .pickedUp }
     (s.stageEntry 0).restore = 900 ∧ (s.stageAt 0).state ≠ .clear ∧ (s.stageEntry 0).action = .trip) ∧
    (∀ x ∈ [ConnState.connected, .rideThrough, .openWait, .reconnectTiming, .closing], (inConn x).conn.state = x) ∧
    (steady.conn.request = .none ∧ steady.tables.t9.autoReconnect = true ∧ steady.nodeStateOf .meter 0 = .live ∧
      steady.lineIsActive .eStop = false ∧ (∀ z ∈ steady.fire.zones, z.stage ≠ .preAlarm ∧ z.stage.confirmed = false) ∧
      steady.conn.feedback = .isOpen ∧ steady.conn.startAdopted = true ∧ steady.tables.t9.vWindowLow ≤ 1000 ∧
      1000 ≤ steady.tables.t9.vWindowHigh ∧ steady.tables.t9.fWindowLow ≤ 50000 ∧ 50000 ≤ steady.tables.t9.fWindowHigh) ∧
    site.nodeStateOf .meter 0 ≠ .live ∧
    (let s := site.setGate { site.gate with state := .passing, frParticipation := true, pFrApplied := site.params.frStep }
     s.params.frStep ≤ (s.frTerm - s.gate.pFrApplied).natAbs) := by decide +kernel

theorem witness_PcsStatusIsStoredAndChecked :
    site.gate.pPrev.natAbs + site.params.overshootTol < (4000 : Int).natAbs ∧
    site.gate.overshootEnd = none ∧ site.gate.overshootArmed = true := by decide

theorem witness_CoolantStatusSetsTheCoolantState :
    (⟨.run, 46, 0, 250⟩ : CoolantStatus).state = .run ∧ site.thermal.coolant = .ok ∧
    (⟨.fault, 0, 0, 0⟩ : CoolantStatus).state = .fault ∧ (⟨.standby, 0, 0, 0⟩ : CoolantStatus).state = .standby ∧
    (site.takeCoolantStatus ⟨.fault, 0, 0, 0⟩).thermal.coolant = .lost ∧
    (site.takeCoolantStatus ⟨.run, 49, 0, 250⟩).thermal.coolant = .degraded ∧
    (site.takeCoolantStatus ⟨.standby, 0, 0, 0⟩).thermal.coolant = .ok := by decide +kernel

/-- The part with detector 15 in use. -/
def detecting : State := tabled site fun t => { t with t12 := t.t12.set 15 ⟨true, .gas, 0, 100, 200, 1, false⟩ }

theorem witness_DetectorPairMovesItsDetector :
    (15 < 15 + 1 ∧ (detecting.detectorEntry (14 + 0)).inUse = false ∧
      (15 + 0 ≤ 15 ∧ (detecting.detectorEntry (15 + 0)).inUse = true ∧ 15 + 0 < detecting.fire.detectors.length)) ∧
    (((detecting.takeDetectorPair 15 0 (0, 65535)).detectorAt 15).loop = .isOpen ∧
      ((detecting.takeDetectorPair 15 0 (0, 65534)).detectorAt 15).loop = .short ∧
      ((detecting.takeDetectorPair 15 0 (0, 65533)).detectorAt 15).loop = .normal ∧
      (detecting.detectorEntry 15).mask = false ∧ ({ DetectorEntry.builtIn with mask := true }.mask = true)) ∧
    (let d := { DetectorRec.atReset with loop := .isOpen, normalRun := 1 }
     d.loop ≠ .normal ∧ (DetectorRec.atReset.loop = .normal ∧ 2 ≤ inc8 d.normalRun ∧ inc8 d.normalRun < 3)) ∧
    DetectorEntry.builtIn.mask = false ∧ { DetectorEntry.builtIn with mask := true }.mask = true := by decide +kernel

/-- R139: a return to NORMAL raises DETECTOR_RESTORED, and no notice of a masked detector. -/
theorem test_masked_detector_raises_no_notice :
    let opened := fun mask : Bool =>
      (tabled site fun t => { t with t12 := t.t12.set 15 ⟨true, .gas, 0, 100, 200, 1, mask⟩ }).modDetector 15
        fun d => { d with loop := .isOpen }
    let t := fun mask : Bool => (opened mask).takeDetectorPair 15 0 (0, 0)
    ((t true).detectorAt 15).loop = .normal ∧ (t true).notices = (opened true).notices ∧
      (t false).notices = (opened false).notices ++ [⟨.detectorRestored, some 15, 1, 0⟩] := by decide +kernel

theorem witness_StationFramesAreSorted :
    site.runs ∧ payloadFits 0x50 [] = true ∧ payloadFits kindNotice (zeros 8) = true ∧
    isPartOwned kindNotice = true ∧ isPartOwned 0x50 = false ∧ (0x50 : Nat) ≠ kindManagementRequest ∧
    (0x50 : Nat) ≠ kindDispatch ∧ site.sys.address = 120 ∧ site.fieldPort.normalUsed < 32 ∧ 32 ≤ fullNormal.normalUsed ∧
    payloadFits kindDispatch (zeros 5) = false ∧ payloadFits kindManagementRequest [1, 0] = false ∧
    isPartOwned kindDispatch = false ∧
    (let f : Frame := ⟨120, 0, kindDispatch, zeros 6⟩
     f.dest = site.sys.address ∧ f.kind ≠ kindManagementRequest ∧ (⟨13, 1, kindDispatch, []⟩ : Frame).src ≠ 0) := by
  refine ⟨rfl, ?_⟩; decide +kernel

theorem witness_DispatchIsMadeAndAnswered :
    site.runs ∧ 13 ≠ site.sys.address ∧ payloadFits kindDispatch (zeros 6) = true ∧
    DispatchOrder.read (zeros 6) = some (⟨0, 0, 0, false⟩, []) ∧ site.pcsAddress = some 13 ∧
    site.pcsAddress ≠ some 14 ∧ (site.setStationPort (crowded 31)).stationPort.used < 32 ∧
    (let r : StationFrame := .result ⟨7, 0, 0, 0, .held, true⟩
     let p : StationPort := { crowded 31 with queue := .notice (module 0) :: r :: (crowded 30).queue }
     32 ≤ p.used ∧ p.queue = [.notice (module 0)] ++ r :: (crowded 30).queue ∧
       (∀ f ∈ [StationFrame.notice (module 0)], f.isResult = false)) ∧
    (32 ≤ (crowded 32).used ∧ ∀ f ∈ (crowded 32).queue, f.isResult = false) := by
  refine ⟨rfl, ?_⟩; decide +kernel

theorem witness_DispatchFramesKeepToTheEnvelope :
    let p := waiting kindDispatch 13
    (site.gate.state = .held ∧ { site.gate with state := .passing }.state ≠ .held) ∧
    ((site.fieldPort.admits p = true ∧ fullNormal.admits p = false) ∧ ¬(FrameType.station = .corrective)) ∧
    (State.reset.pcsAddress = none ∧ site.pcsAddress = some 13) ∧
    (let t : Int := 100
     t.sign = (100 : Int).sign ∧ t.natAbs ≤ (100 : Int).natAbs ∧ t.sign ≠ (0 : Int).sign) ∧
    (let s := steady.setGate { site.gate with state := .passing, frParticipation := true }
     s.gate.state = .passing ∧ s.nodeStateOf .meter 0 = .live ∧ s.grid.stale = false ∧ s.grid.f = some 50000) ∧
    (site.grid.f = none ∧ site.nodeStateOf .meter 0 ≠ .live) := by decide +kernel

theorem witness_ReceiveSlotFollowsItsEvents :
    (site.runs ∧ site.slot .field = none ∧ (site.setSlot .station (some [1, 2])).slot .station = some [1, 2]) ∧
    ((64 : Byte).toNat ≤ 64 ∧ ¬(65 : Byte).toNat ≤ 64 ∧ 5 ≤ 5 ∧ ¬6 ≤ 5) ∧
    (crc16 [127, 0, 0x50, 0] = 0x1CE4 ∧ (127 : Byte).toNat ≤ 127 ∧ ¬(128 : Byte).toNat ≤ 127 ∧
      crc16 [127, 0, 0x50, 0] ≠ 0) := by
  refine ⟨⟨rfl, rfl, rfl⟩, ?_⟩; decide +kernel

/-! ### Queues -/

theorem witness_PlacedFramesJoinReplaceOrAreRefused :
    let p := waiting kindDispatch 13
    (supersedable p.frame.kind = true ∧ [p].any p.matches = true ∧ ([] : List Placed).any p.matches = false) ∧
    (¬(supersedable 0x50 = true) ∧ { fullNormal with normal := fullNormal.normal.tail }.normalUsed < 32) ∧
    32 ≤ fullNormal.normalUsed := by decide +kernel

theorem witness_NoticesEnterAndLeaveTheQueue :
    ((module 3).kind = .moduleStale ∧ ((List.range 23).map module).length < 24 ∧
      24 ≤ ((List.range 24).map module).length ∧
      (∀ w ∈ (List.range 24).map module, ¬(w.kind = .cellHard ∧ w.subject = some 0)) ∧
      (List.range 24).map module = [] ++ module 0 :: ((List.range 23).map fun i => module (i + 1)) ∧
      (∀ v ∈ (List.range 23).map (fun i => module (i + 1)), (module 0).rank ≤ v.rank)) ∧
    (site.runs ∧ [module 0, ⟨.fire, some 0, 1, 0⟩, module 1] = [module 0] ++ ⟨.fire, some 0, 1, 0⟩ :: [module 1] ∧
      (∀ v ∈ [module 0], v.rank < (⟨.fire, some 0, 1, 0⟩ : Notice).rank) ∧
      (∀ v ∈ [module 1], v.rank ≤ (⟨.fire, some 0, 1, 0⟩ : Notice).rank) ∧ (crowded 30).used ≤ 30) := by
  refine ⟨by decide +kernel, rfl, ?_⟩; decide

theorem witness_TransmittersSendInOrderAndFreePlaces :
    let p := waiting kindDispatch 13
    let q := waiting kindSampleCall 127
    let f : FieldPort := ⟨none, [p], [p], none⟩
    (site.runs ∧ f.sending = none ∧ f.urgent = p :: [] ∧ { f with urgent := [] }.normal = p :: [] ∧
      { f with sending := some (p, .urgent) }.sending = some (p, .urgent) ∧ (crowded 1).sending = none ∧
      (crowded 1).queue = .notice (module 0) :: []) ∧
    (site.rounds.openRound = none ∧ site.engine.restartPending = false ∧
      (inPhase .waking).rounds.openRound = some { openRound with phaseTimer := some 0 } ∧
      { q with round := some 0 }.round = some openRound.serial ∧ (inPhase .waking).rounds.phase = .waking ∧
      (inPhase .quietSettle).rounds.phase = .quietSettle ∧ (inPhase .collecting).rounds.phase = .collecting ∧
      q.frame.kind = kindSampleCall) ∧
    (let s := (site.setEngine { site.engine with restartPending := true }).setStationPort
        { crowded 1 with sending := some (.response ⟨3, .ok, .none⟩) }
     s.runs ∧ s.engine.restartPending = true ∧ s.stationPort.sending = some (.response ⟨3, .ok, .none⟩) ∧
       (StationFrame.response ⟨3, .ok, .none⟩).isRestart = false) := by
  refine ⟨⟨rfl, ?_⟩, ?_, rfl, ?_⟩ <;> decide

/-! ### Requests -/

theorem witness_takesRequests : site.takesRequests ∧ (site.setStationPort (crowded 31)).takesRequests :=
  ⟨⟨rfl, rfl, by decide⟩, rfl, rfl, by decide⟩

theorem witness_RequestRowsAreServedWithOneResponse :
    (requestRow (.readTable [1]) = some (5, [1]) ∧ site.runs) ∧
    ((∃ body, requestOf 22 [0] = some body) ∧ site.engine.restartPending = false ∧ (crowded 31).used < 32 ∧
      32 ≤ (crowded 32).used) := ⟨⟨rfl, rfl⟩, ⟨_, rfl⟩, rfl, by decide, by decide⟩

theorem witness_ProtectedRequestsNeedMaint :
    site.takesRequests ∧ site.lines.maint.active = false ∧ requestRow (.restart []) = some (12, []) ∧
    requestRow (.loadTable [16]) = some (6, [16]) ∧ isProtectedTable (16 : Byte).toNat = true ∧
    isProtectedTable (11 : Byte).toNat = false := ⟨⟨rfl, rfl, by decide⟩, rfl, rfl, rfl, by decide, by decide⟩

theorem witness_PlainReadsAnswerWithTheirRecords :
    site.takesRequests ∧ site.tables.get (16 : Byte).toNat = some (.t16 zoneMapDefault) := ⟨⟨rfl, rfl, by decide⟩, rfl⟩

theorem witness_RecordReadsAnswerAndChangeNothing :
    RecordClass.named (6 : Byte).toNat = some .stage ∧ (7 : Byte).toNat < RecordClass.stage.size ∧
    RecordClass.named (0 : Byte).toNat = some .cell ∧ (3 : Byte).toNat ≤ 3 ∧ (site.stringEntry 3).inUse = true ∧
    (191 : Byte).toNat < RecordClass.cell.size ∧ 191 ∈ site.cellGroup 3 ∧ site.recordGroup .cell 3 ≠ [] ∧
    CellTest.named (4 : Byte).toNat = some .unknown ∧ scanMode (1 : Byte).toNat = some false ∧
    CellTest.named (0 : Byte).toNat = some .vGe ∧ scanMode (0 : Byte).toNat = some true := by decide +kernel

theorem witness_TakenLoadReplacesTheTable :
    maint.takesRequests ∧ maint.config.crcs.length = 16 ∧ maint.config.faulted.length = 16 ∧ maint.maintActive ∧
    isTable (2 : Byte).toNat = true ∧ tableLengthOk 2 [0, 120] = true ∧
    parseTable 2 [0, 120] = some (.t2 ⟨120⟩) ∧ (TableContents.t2 ⟨120⟩).valid = true ∧
    entryLengthOk 14 (zeros 8) = true ∧ maint.entryResult 14 63 (zeros 8) = some (.t14 siteNodes) :=
  ⟨⟨rfl, rfl, by decide⟩, rfl, rfl, rfl, by decide, by decide, by decide, by decide, by decide, by decide +kernel⟩

/-- What a load brings: each premise on the loaded contents, at the first and the last entry of its table. -/
theorem witness_TakenLoadReplacesTheTable_brings :
    (let s := site.setConfig { site.config with faulted := site.config.faulted.set 1 true }
     s.anyFault = true ∧ (s.setConfig { s.config with faulted := s.config.faulted.set 1 false }).anyFault = false ∧
       (TableContents.t2 ⟨120⟩).number = 2) ∧
    ((TableContents.t7 []).number ≤ 7 ∧ (TableContents.t11 site.tables.t11).number = 11) ∧
    (site.conn.state ≠ .reconnectTiming ∧ (inConn .reconnectTiming).conn.state = .reconnectTiming) ∧
    (let t10 := { site.tables.t10 with entries := List.replicate 4 { StringEntry.builtIn with capacityAh := 100 } }
     let u := site.takeTable (.t10 t10) none
     site.strings[3]?.isSome = true ∧ u.strings[3]?.isSome = true ∧ site.modules[47]?.isSome = true ∧
       u.modules[47]?.isSome = true ∧ (site.stringEntry 3).capacityAh ≠ 100) ∧
    (let s := liveNode site 1
     (s.nodeAt 1).state = .live ∧ ((s.takeTable (.t14 (List.replicate 64 none)) none).nodeAt 1).state = .unseen) ∧
    (let s := (lined .eStop).setLineState 7 .active
     (s.lineAt 7).state = .active ∧ (s.lineEntry 7).function = .eStop ∧
       ((s.takeTable (.t15 site.tables.t15) none).lineAt 7).state = .unknown) := by decide +kernel

theorem witness_SetParameterStoresTheClampedValue :
    site.takesRequests ∧ site.params.get (39 : Byte).toNat = some 10 ∧ (39 : Byte).toNat ≠ 10 ∧
    site.params.get (10 : Byte).toNat = some 4 ∧ 47 < site.modules.length :=
  ⟨⟨rfl, rfl, by decide⟩, by decide, by decide, by decide, by decide⟩

theorem witness_StoreWritesTheSnapshot :
    site.engine.store = none ∧
    ((writing 17 none).runs ∧ (writing 17 none).engine.store = some (write 17 none) ∧
      (writing 17 none).due (some (write 17 none).due) = true ∧ (write 17 none).record < 18) ∧
    ((writing 17 none).takesRequests ∧ site.params.trims.length = 4) ∧
    18 ≤ (write 18 (some 3)).record ∧ (write 18 (some 3)).failed = some 3 ∧ (write 18 none).failed = none :=
  ⟨rfl, ⟨rfl, rfl, by decide, by decide⟩, ⟨⟨rfl, rfl, by decide⟩, rfl⟩, by decide, rfl, rfl⟩

theorem witness_ClearRequestsClearWhatTheyName : site.takesRequests := ⟨rfl, rfl, by decide⟩

theorem witness_RestartEndsInAReset :
    maint.takesRequests ∧ maint.maintActive ∧
    (let r : Response := ⟨12, .ok, .none⟩
     let s := (maint.setEngine { maint.engine with restartPending := true }).setStationPort
       { maint.stationPort with sending := some (.response r) }
     s.runs ∧ s.engine.restartPending = true ∧ s.stationPort.sending = some (.response r) ∧ r.code = 12 ∧
       r.status = .ok) := ⟨⟨rfl, rfl, by decide⟩, rfl, rfl, rfl, rfl, rfl, rfl⟩

theorem witness_RoundRequestsBeginAndStopRounds :
    (site.takesRequests ∧ site.rounds.phase = .idle ∧ site.modulesInUse ≠ [] ∧ (1 : Byte).toNat ≤ 1) ∧
    ((3 : Byte).toNat ≤ 3 ∧ (site.stringEntry 3).inUse = true ∧ site.modulesOf 3 ≠ [] ∧ (47 : Byte).toNat ≤ 47 ∧
      site.moduleInUse 47 = true) ∧
    (idle.takesRequests ∧ (idle.stringEntry 3).inUse = false ∧ idle.moduleInUse 47 = false ∧ idle.modulesInUse = [] ∧
      (tabled site fun t => { t with t10 := { t.t10 with entries := t.t10.entries.map fun e => { e with modules := 0 } } }
        ).modulesOf 3 = []) ∧
    ((inPhase .collecting).takesRequests ∧ (inPhase .quietSettle).rounds.phase = .quietSettle ∧
      (inPhase .collecting).rounds.openRound = some { openRound with phaseTimer := some 0 }) ∧
    ((inPhase .waking).rounds.phase = .waking ∧ (inPhase .waking).supply.mode = .normal ∧
      (inPhase .waking).fieldPort.normalUsed < 32 ∧
      (let p : Placed := ⟨⟨127, 120, kindWakeCall, []⟩, some 0⟩
       { site.fieldPort with normal := [p] }.normal = [p] ∧ p.frame.kind = kindWakeCall ∧ p.round = some openRound.serial) ∧
      ((inPhase .waking).setSupply ⟨.holdup, none, false⟩).supply.mode = .holdup ∧
      (∀ p ∈ fullNormal.normal, p.frame.kind ≠ kindWakeCall) ∧ 32 ≤ fullNormal.normalUsed) := by
  refine ⟨⟨⟨rfl, rfl, ?_⟩, ?_⟩, ?_, ⟨⟨rfl, rfl, ?_⟩, ?_⟩, ⟨⟨rfl, rfl, ?_⟩, ?_⟩, ?_⟩ <;> decide +kernel

theorem witness_StringRequestsMoveTheirString :
    (∀ x ∈ stringStates, 0 < (inString x).strings.length ∧ ((inString x).stringAt 0).state = x ∧
      (inString x).addressOf .stringMonitor 0 = some 11) ∧
    ((inString .inService).takesRequests ∧ (0 : Byte).toNat ≤ 3 ∧ ((inString .isolated).stringEntry 0).inUse = true ∧
      (inString .isolated).restoreRefusal 0 = none ∧ (inString .lockedOut).restoreRefusal 0 = some .notIsolated ∧
      (inString .lockedOut).maintActive ∧ ((inString .welded).stringAt 0).feedback = .isOpen) :=
  ⟨by decide +kernel, ⟨rfl, rfl, by decide⟩, by decide, by decide, by decide +kernel, by decide +kernel, rfl, rfl⟩

/-- Each reason of R33 but the first refuses a string at rest: a zone in PRE_ALARM, a monitor that is not LIVE, an absent
voltage, and a voltage 5.1 V from that of the string in service; one 5 V from it is restored. -/
theorem witness_StringRequestsMoveTheirString_reasons :
    let s := inString .isolated
    let beside := fun v : Nat => s.modString 1 fun r => { r with state := .inService, voltage := some v }
    (s.modFireZone 7 fun z => { z with stage := .preAlarm }).restoreRefusal 0 = some .fireStage ∧
    (s.modNode 1 fun r => { r with state := .silent }).restoreRefusal 0 = some .causePresent ∧
    (s.modString 0 fun r => { r with voltage := none }).restoreRefusal 0 = some .voltageUnknown ∧
    (beside 8051).restoreRefusal 0 = some .voltageMismatch ∧ (beside 8050).restoreRefusal 0 = none := by decide +kernel

theorem witness_GateConnectionAndFireRequestsAct :
    (maint.takesRequests ∧ maint.maintActive ∧ maint.gate.state = .held ∧ maint.lineIsActive .eStop = false) ∧
    (maint.conn.state ≠ .openLocked ∧ (inConn .openWait).conn.state = .openWait) ∧
    (inConn .closing).conn.state = .closing ∧
    ((inConn .openLocked).anyConfirmed = false ∧ (inConn .openLocked).conn.feedback ≠ .closed) ∧
    maint.resetFireBlocked (7 : Byte).toNat = false ∧ (requestOf (23 : Byte).toNat []).isNone = true :=
  ⟨⟨⟨rfl, rfl, by decide⟩, rfl, rfl, by decide⟩, ⟨by decide, rfl⟩, rfl, ⟨by decide, by decide⟩, by decide +kernel, rfl⟩

/-- A zone with this many detectors graded PRE, which RESET FIRE is asked for. -/
def graded (n : Nat) : State :=
  let s := tabled maint fun t => { t with t12 := List.replicate n ⟨true, .gas, 7, 100, 200, 1, false⟩ ++ t.t12.drop n }
  s.setFire { s.fire with
    detectors := List.replicate n { DetectorRec.atReset with grade := .pre } ++ s.fire.detectors.drop n }

theorem witness_GateConnectionAndFireRequestsAct_refusals :
    (let s := (lined .eStop).setLineState 7 .active
     s.gate.state = .held ∧ s.lineIsActive .eStop = true) ∧
    { site.gate with state := .failsafe }.state ≠ .held ∧
    ((inConn .openLocked).conn.state = .openLocked ∧ (inConn .reconnectTiming).conn.state = .reconnectTiming) ∧
    (burning.anyConfirmed = true ∧ { site.conn with state := .openLocked, feedback := .closed }.feedback = .closed) ∧
    (maint.anyConfirmed = false ∧ (inConn .opening).conn.state ≠ .openLocked) ∧
    (7 < (8 : Byte).toNat ∧ (7 : Byte).toNat ≤ 7 ∧ (sourced .fire .alarm).resetFireBlocked 7 = true) ∧
    (∀ n ≤ 2, (graded n).fire.zones.length = 8 ∧ (graded n).resetFireBlocked 7 = false ∧
      ((graded n).sources 7).length = n + 1) := by decide +kernel

/-! ### Rounds, closes, cooling and fire -/

/-- A module that has reported, at this temperature and with sixteen quiet cells. -/
def measured (temp : Int) (mv : Nat) (r : ModuleRec) : ModuleRec :=
  { r with
    quality := .fresh, temps := [temp], history := [temp - 20]
    cells := List.replicate 16 ⟨some mv, some mv, .normal, 0, 0⟩ }

/-- The part with modules 0 and 1 measured, their string in service and without current. -/
def measuredPart : State :=
  ((site.modModule 0 (measured 50 3300)).modModule 1 (measured 50 3400)).modString 0 fun r =>
    { r with state := .inService, current := some 0 }

/-- A completed quiet round in which modules 0 and 1 have reported. -/
def closing : CloseRecord := ⟨.all, true, true, [0, 1], true, [0, 1]⟩

theorem witness_RoundsBeginAndClose :
    site.fieldPort.normalUsed < 32 ∧ 32 ≤ fullNormal.normalUsed ∧
    (inPhase .collecting).rounds.openRound = some { openRound with phaseTimer := some 0 } ∧ openRound.expected.Nodup ∧
    (inPhase .collecting).supply.mode = .normal ∧ 47 < (inPhase .collecting).modules.length ∧
    (let s := ((inPhase .collecting).setSupply ⟨.holdup, none, false⟩).setFieldPort fullNormal
     s.rounds.openRound = some { openRound with phaseTimer := some 0 } ∧ s.supply.mode = .holdup ∧
       32 ≤ s.fieldPort.normalUsed) := by decide

theorem witness_CloseJudgesModulesAndStrings :
    measuredPart.modules[47]?.isSome = true ∧
    ((measuredPart.judgeModules closing).judgeStrings).modules[47]?.isSome = true ∧
    (measuredPart.moduleAt 0).cells[15]?.isSome = true ∧ measuredPart.strings[3]?.isSome = true ∧
    (measuredPart.stringEntry 3).inUse = true ∧ (idle.stringEntry 3).inUse = false := by decide +kernel

theorem witness_CloseBalancesAndCalibrates :
    (47 < 48 ∧ 47 < measuredPart.modules.length ∧ 3 < measuredPart.strings.length) ∧
    (closing.completed = true ∧ closing.quiet = true ∧ closing.quietUsable = true ∧ measuredPart.moduleInUse 1 = true ∧
      closing.scope.covers 1 = true ∧ (measuredPart.moduleAt 1).quality = .fresh ∧ 1 ∈ closing.quietValid ∧
      measuredPart.zoneTemp 0 = some 50 ∧ 50 < measuredPart.params.balanceTempLimit ∧
      (15, 3400) ∈ measuredPart.quietVoltages 1 ∧ (0, 3300) ∈ measuredPart.quietVoltages 0) ∧
    (site.addressOf .moduleMonitor 0 = some 10 ∧ (measuredPart.moduleAt 0).resend = false ∧
      (site.moduleAt 1).quality ≠ .stale ∧ site.zoneTemp 0 = none) ∧
    (let hold := waiting kindBleedHold 127
     let set := waiting kindBleedSet 10
     { site.fieldPort with normal := [hold, set] }.setAheadOfHold 10 = false ∧
       { site.fieldPort with normal := [set, hold] }.setAheadOfHold 10 = true ∧ { closing with completed := false }.completed = false) := by
  decide +kernel

/-- R160: a BLEED SET replaces an older one to its monitor in its place, at an aborted close as at a completed one. -/
theorem test_bleed_set_is_replaced_in_its_place :
    let waits := [waiting kindBleedSet 10, waiting kindBleedHold 127, waiting kindSampleCall 127]
    let s := site.setFieldPort { site.fieldPort with normal := waits }
    let t := fun c : Bool => s.bleedClose ⟨.all, c, true, [], false, []⟩
    let kinds := fun c : Bool => (t c).fieldPort.normal.map (·.frame.kind)
    kinds false = [kindBleedSet, kindBleedHold, kindSampleCall] ∧ kinds true = kinds false ∧
      (t false).counters.fieldSuperseded = 1 := by decide +kernel

/-- R15: where no older BLEED SET waits, that of an aborted quiet round is sent after the BLEED HOLD. -/
theorem test_bleed_set_of_an_abort_follows_the_hold :
    let s := site.setFieldPort { site.fieldPort with normal := [waiting kindBleedHold 127] }
    (s.bleedClose ⟨.all, false, true, [], false, []⟩).fieldPort.normal.map (·.frame.kind) =
      [kindBleedHold, kindBleedSet] := by decide +kernel

/-- R19: a T1 and a T2 loaded with lower limits judge a string from the next close on. -/
theorem test_loaded_limits_take_effect_at_a_close :
    let s := tabled (site.modModule 0 fun r => { r with quality := .fresh, temps := [50] }) fun t => { t with t2 := ⟨50⟩ }
    s.tempHardCondition 0 = false ∧ (s.judgeModules closing).tempHardCondition 0 = true := by decide +kernel

theorem witness_CoolantCommandFollowsTheDemands :
    measuredPart.thermal.zones.length = 8 ∧ burning.thermal.zones.length = 8 ∧ burning.anyConfirmed = true ∧
    measuredPart.anyConfirmed = false ∧ measuredPart.addressOf .chiller 0 = some 14 ∧
    State.reset.addressOf .chiller 0 = none ∧
    (let f := waiting kindCoolantCommand 14
     site.fieldPort.admits f = true ∧ fullNormal.admits f = false) ∧
    (measuredPart.zonesAfterClose[7]?.isSome = true ∧ measuredPart.zoneTemp 0 = some 50 ∧ measuredPart.zoneTemp 7 = none) := by
  decide +kernel

theorem witness_FireZonesFollowTheirSources :
    ((sourced .normal .alarm).fire.zones.length = 8 ∧ (sourced .normal .alarm).sources 7 = [.alarm, .alarm] ∧
      ((sourced .normal .alarm).fireZone 7).stage.rank < FireStage.fire.rank) ∧
    ((sourced .normal .none).sources 7 = [.none, .alarm] ∧
      ((sourced .normal .none).fireZone 7).stage.rank < FireStage.preAlarm.rank) ∧
    (((sourced .preAlarm .none).fireZone 7).stage = .preAlarm ∧
      (site.modFireZone 7 fun z => { z with stage := .preAlarm }).sources 7 = [.none] ∧
      FireStage.normal.rank < FireStage.preAlarm.rank) ∧
    ((burning.fireZone 0).stage.confirmed = true ∧ site.addressOf .chiller 0 = some 14) ∧
    (let s := tabled measuredPart fun t => { t with t13 := { t.t13 with tFire := 50 } }
     s.moduleInUse 1 = true ∧ (s.moduleAt 1).zone = 0 ∧ (s.moduleAt 1).quality = .fresh ∧ 50 ∈ (s.moduleAt 1).temps) ∧
    (measuredPart.tables.t13.tFire = 160 ∧
      (∃ r ∈ lastEntries measuredPart.tables.t13.riseWindow [30], measuredPart.tables.t13.riseThreshold ≤ 50 - r)) := by
  decide +kernel

/-! ### Timers -/

theorem witness_RoundTimersLeadARoundOn :
    (later site).runs ∧ (later site).due (some (later site).rounds.intervalEnd) = true ∧
    (later site).rounds.phase.isAtRest = true ∧ (later site).supply.mode = .normal ∧
    (inPhase .waking).rounds.phase.isAtRest = false ∧ (inPhase .waking).due (some 0) = true ∧
    (inPhase .quietSettle).fieldPort.normalUsed < 32 ∧ idle.modulesInUse = [] ∧ site.modulesInUse ≠ [] ∧
    (let s := (inPhase .quietSettle).setFieldPort fullNormal
     s.rounds.openRound = some { openRound with phaseTimer := some 0 } ∧ s.due (some 0) = true ∧
       s.rounds.phase = .quietSettle ∧ 32 ≤ s.fieldPort.normalUsed) ∧
    (let s := (inPhase .waking).setRounds
        { (inPhase .waking).rounds with openRound := some { openRound with quiet := true, phaseTimer := some 0 } }
     s.rounds.openRound = some { openRound with quiet := true, phaseTimer := some 0 } ∧ s.rounds.phase = .waking) :=
  ⟨rfl, by decide, rfl, rfl, rfl, by decide, by decide, by decide +kernel, by decide +kernel, by decide +kernel,
    by decide +kernel⟩

theorem witness_ContactorAndNodeTimersAct :
    let s := fun x : StringState => later (site.modString 0 fun r => { r with state := x, timer := some 500 })
    (∀ x ∈ [StringState.isolating, .restoring], (s x).runs ∧ 0 < (s x).strings.length ∧
      (s x).due ((s x).stringAt 0).timer = true ∧ ((s x).stringAt 0).state = x ∧
      (liveNode (s x) 1).nodeStateOf .stringMonitor 0 = .live ∧ (s x).nodeStateOf .stringMonitor 0 ≠ .live) ∧
    ((liveNode (later site) 6).nodeEntry 6 = node 16 .other ∧ ((liveNode (later site) 6).nodeAt 6).state = .live ∧
      (liveNode (later site) 6).due ((liveNode (later site) 6).nodeAt 6).silenceEnd = true) ∧
    ((∀ x ∈ stringStates, ((inString x).stringAt 0).state = x) ∧ site.thermal.coolant ≠ .lost ∧
      { site.thermal with coolant := .lost }.coolant = .lost) := by
  unfold State.runs; decide +kernel

theorem witness_EnvelopeAndGateTimersAct :
    let s := later site
    let g := s.setGate { s.gate with state := .passing, overshootEnd := some 100000 }
    s.runs ∧ s.due (some s.envelope.timerEnd) = true ∧ g.due g.gate.silenceEnd = true ∧ g.gate.state = .passing ∧
    s.gate.state ≠ .passing ∧ g.due g.gate.overshootEnd = true ∧
    (let p := g.setGate { g.gate with pPrev := 1 }
     g.gate.qPrev = 0 ∧ g.gate.pPrev = 0 ∧ (p.evaluation.pDisLim : Int) < p.gate.pPrev ∧ p.gate.state ≠ .held ∧
       p.pcsAddress = some 13) := ⟨rfl, by decide, by decide, rfl, by decide, by decide, by decide +kernel⟩

theorem witness_GridAndBreakerTimersAct :
    let c := fun x : ConnState => later (site.setConn { site.conn with
      state := x, breakerEnd := some 0, reconnectEnd := some 0, tripOut := some 0, closeOut := some 0 })
    let p := later (site.modStage 7 fun r => { r with state := .pickedUp, timer := some 0 })
    (p.runs ∧ (p.stageAt 7).state = .pickedUp ∧ p.due (p.stageAt 7).timer = true) ∧
    (c .opening).due (c .opening).conn.breakerEnd = true ∧ (c .closing).conn.state = .closing ∧
    (c .reconnectTiming).due (c .reconnectTiming).conn.reconnectEnd = true ∧
    (c .opening).due (some (c .opening).conn.historyEnd) = true ∧ (c .opening).due (c .opening).conn.tripOut = true ∧
    (c .opening).due (c .opening).conn.closeOut = true := by
  refine ⟨⟨rfl, ?_⟩, ?_⟩ <;> decide

theorem witness_FireTimersAct :
    let s := later (site.modFireZone 7 fun z =>
      { z with stage := .preAlarm, clearTimer := some ⟨60000, .watch⟩, countdown := some (.running 30000) })
    s.runs ∧ 7 < s.fire.zones.length ∧ (s.fireZone 7).clearTimer = some ⟨60000, .watch⟩ ∧
    s.due (some 60000) = true ∧ s.due (some s.fire.timerEnd) = true ∧
    (s.fireZone 7).countdown = some (.running 30000) ∧ s.due (some 30000) = true := by
  refine ⟨rfl, ?_⟩; decide

/-! ### Lines, supply and configuration -/

theorem witness_LinesSettleAndAct :
    (site.lineAt 7).high ≠ true ∧ site.lines.maint.high ≠ false ∧
    (let s := later (site.setLines { site.lines with maint := ⟨false, 0, false⟩ })
     s.runs ∧ 20 ≤ (s.time - s.lines.maint.since).toNat ∧ s.lines.maint.active = s.lines.maint.high) ∧
    (∀ f ∈ [LineFunction.none, .manualCall, .panelFire, .releaseHold],
      ((lined f).lineEntry 7).debounce ≤ ((lined f).time - ((lined f).lineAt 7).since).toNat ∧
      ((lined f).lineEntry 7).stateOf ((lined f).lineAt 7).high = .active ∧ ((lined f).lineAt 7).state ≠ .active ∧
      ((lined f).lineEntry 7).function = f) ∧
    (lined .releaseHold).lineOf .releaseHold = some 7 ∧
    (∀ c ∈ [none, some (.running 5), some (.paused 0), some (.paused 24000)],
      let s := site.modFireZone 7 fun z => { z with stage := .releaseDelay, countdown := c }
      s.fire.zones.length = 8 ∧ (s.fireZone 7).countdown = c) :=
  ⟨by decide, by decide, ⟨rfl, by decide, rfl⟩, by decide +kernel, by decide +kernel, by decide +kernel⟩

theorem witness_BreakerAndStopLinesAct :
    let low := fun s : State => s.modLine 7 fun r => { r with high := false }
    let b := fun (x : ConnState) (f : Feedback) =>
      (lined .breakerClosed).setConn { site.conn with state := x, feedback := f }
    (∀ x ∈ [ConnState.openWait, .reconnectTiming, .openLocked, .closing, .opening],
      (b x .isOpen).settles 7 = some .active ∧ (b x .isOpen).lineOf .breakerClosed = some 7 ∧
      (b x .isOpen).conn.startAdopted = true ∧ (b x .isOpen).conn.state = x) ∧
    (∀ x ∈ [ConnState.connected, .rideThrough, .opening, .openWait, .reconnectTiming, .openLocked, .closing],
      (low (b x .closed)).settles 7 = some .inactive ∧ (b x .closed).conn.feedback = .closed ∧
      (b x .closed).conn.state = x) ∧
    ({ site.conn with startAdopted := false }.startAdopted = false ∧ { site.conn with lockout := .fire }.lockout ≠ .none) ∧
    ((lined .breakerClosed).setLineState 7 .active).standingTrip = none ∧
    (((lined .breakerClosed).modStage 7 fun r => { r with state := .operated }).modNode 2 fun r =>
      { r with state := .silent }).standingTrip = some .meterLost ∧
    (site.conn.lockout = .none ∧ site.anyConfirmed = false) ∧
    (let e := lined .eStop
     e.settles 7 = some .active ∧ e.lineOf .eStop = some 7 ∧ (low e).settles 7 = some .inactive) := by
  decide +kernel

theorem witness_SupplyEventsMoveTheMode :
    let h := later (site.setSupply ⟨.holdup, some 5000, true⟩)
    site.runs ∧ site.supply.mode = .normal ∧ h.supply.mode = .holdup ∧ h.due h.supply.restoreEnd = true ∧
    site.supply.holdupLow = false ∧ h.supply.holdupLow = true := ⟨rfl, rfl, rfl, by decide, rfl, rfl⟩

theorem witness_ScrubMarksTheTablesThatDiffer :
    (later site).runs ∧ (later site).due (some (later site).config.scrubEnd) = true ∧
    (later site).config.faulted.length = 16 ∧
    (let s := site.setConfig { site.config with crcs := site.config.crcs.set 15 0 }
     s.anyFault = false ∧ (s.tables.get 16).map TableContents.crc ≠ some (s.config.crcs.getD 15 0)) := by
  refine ⟨rfl, ?_, rfl, ?_⟩ <;> decide +kernel

theorem witness_EnvelopeStaysWithinCapsAndRatings :
    (∀ i < 4, site.stringCounts i = false) ∧ site.conn.state ≠ .connected ∧
    (TableContents.t3 site.tables.t3).valid = true ∧ (TableContents.t4 site.tables.t4).valid = true ∧
    (TableContents.t5 site.tables.t5).valid = true ∧ (TableContents.t6 site.tables.t6).valid = true ∧
    site.tables.t13.prealarmFactor ≤ 1024 ∧ site.params.degradedFactor ≤ 1024 := by decide +kernel

/-- A table of breakpoints that rises in x, and the strings and limiting causes of chapter 4's container. -/
theorem witness_EnvelopeStaysWithinCapsAndRatings_factors :
    ([(80, 1024), (100, 512), (110, 0)] : Curve).Pairwise (fun p q => p.1 < q.1) ∧
    (worked.evaluation.strings[3]?.isSome = true ∧ (worked.stringEntry 3).inUse = true ∧
      (worked.stringAt 3).state = .inService ∧ (site.stringAt 3).state ≠ .inService) ∧
    ((worked.stringAt 3).extremes.tMax = some 68 ∧ site.evaluation.causeChg = .noString) ∧
    (let s := tabled worked fun t => { t with t9 := { t.t9 with importCap := 10 } }
     s.evaluation.causeChg = .importCap) ∧
    ((worked.modString 0 fun r => { r with extremes := .absent }).setThermal
      { worked.thermal with coolant := .ok }).evaluation.causeChg = .string 0 .noReadings := by decide +kernel

theorem witness_TripCauseOpensTheBreaker :
    ∀ x ∈ [ConnState.connected, .rideThrough, .closing, .opening, .openWait, .reconnectTiming, .openLocked],
      (inConn x).conn.state = x := by decide

end Sys2Proof.Tests
end

section
/-! PROOF of O16 (R10, R11): a MODULE REPORT that fails a condition of R10 is counted as stale, and its frame goes the
way of every frame of a known node. The read of a payload uses up the bytes that its counts name, so one that fits its
layout leaves nothing over (R152, R153). -/

namespace Sys2Proof.Machine

/-! ### The bytes that a reader takes (R152) -/

/-- `r` takes `k` bytes off the front whenever it succeeds. -/
def Takes {α : Type} (r : Reader α) (k : Nat) : Prop :=
  ∀ ⦃bs : List Byte⦄ ⦃a : α⦄ ⦃rest : List Byte⦄, r bs = some (a, rest) → bs.length = k + rest.length

theorem takes_get16 : Takes get16 2 := by
  intro bs a rest h
  unfold get16 at h
  split at h
  · obtain ⟨-, rfl⟩ := Prod.mk.inj (Option.some.inj h)
    simp; omega
  · cases h

theorem takes_getSigned16 : Takes getSigned16 2 := by
  intro bs a rest h
  obtain ⟨⟨w, left⟩, hw, he⟩ := Option.map_eq_some_iff.mp h
  obtain ⟨-, rfl⟩ := Prod.mk.inj he
  exact takes_get16 hw

theorem takes_getMany {α : Type} {r : Reader α} {k : Nat} (hr : Takes r k) (n : Nat) : Takes (getMany r n) (n * k) := by
  induction n with
  | zero =>
    intro bs as rest h
    obtain ⟨-, rfl⟩ := Prod.mk.inj (Option.some.inj h)
    simp
  | succ n ih =>
    intro bs as rest h
    obtain ⟨⟨a, mid⟩, ha, h⟩ := Option.bind_eq_some_iff.mp h
    obtain ⟨⟨more, left⟩, hmore, h⟩ := Option.bind_eq_some_iff.mp h
    obtain ⟨-, rfl⟩ := Prod.mk.inj (Option.some.inj h)
    have first := hr ha
    have others := ih hmore
    rw [Nat.succ_mul]
    omega

/-- The six fixed bytes of a MODULE REPORT, then as many voltages and temperatures as its counts say (R152). -/
theorem ModuleReport.length_of_read {payload rest : List Byte} {x : ModuleReport}
    (h : ModuleReport.read payload = some (x, rest)) :
    payload.length = 6 + 2 * (payload.getD 2 0).toNat + 2 * (payload.getD 3 0).toNat + rest.length := by
  match payload with
  | tag :: flags :: n :: t :: hi :: lo :: body =>
    obtain ⟨⟨voltages, mid⟩, hv, h⟩ := Option.bind_eq_some_iff.mp h
    obtain ⟨⟨temps, left⟩, ht, h⟩ := Option.bind_eq_some_iff.mp h
    obtain ⟨-, rfl⟩ := Prod.mk.inj (Option.some.inj h)
    have cells := takes_getMany takes_get16 n.toNat hv
    have sensors := takes_getMany takes_getSigned16 t.toNat ht
    simp only [List.length_cons, List.getD_cons_succ, List.getD_cons_zero]
    omega
  | [] | [_] | [_, _] | [_, _, _] | [_, _, _, _] | [_, _, _, _, _] => cases h

/-- A MODULE REPORT that fits its layout is read whole (R153). -/
theorem ModuleReport.readAll_of_fits {payload rest : List Byte} {x : ModuleReport}
    (hf : moduleReportFits payload = true) (h : ModuleReport.read payload = some (x, rest)) :
    readAll ModuleReport.read payload = some x := by
  have length := ModuleReport.length_of_read h
  have fits : payload.length = 6 + 2 * (payload.getD 2 0).toNat + 2 * (payload.getD 3 0).toNat := by
    simp only [moduleReportFits, Bool.and_eq_true, beq_iff_eq] at hf
    exact hf.2
  have : rest = [] := List.eq_nil_of_length_eq_zero (by omega)
  simp [readAll, h, this]

/-! ### Refused reports (R10, R11) -/

/-- The conditions of R10 read only the Round Controller. -/
theorem State.refusesReport_congr {s t : State} (hr : t.rounds = s.rounds) {m : Nat} {x : ModuleReport} :
    t.refusesReport m x ↔ s.refusesReport m x := by
  simp only [State.refusesReport, hr]

theorem State.not_accepts_of_refusesReport {s : State} {m : Nat} {x : ModuleReport} (h : s.refusesReport m x) :
    s.accepts m x.tag = false := by
  rcases h with phase | tag | member
  · simp [State.accepts, phase]
  · simp [State.accepts, tag]
  · cases ho : s.rounds.openRound with
    | none => simp [State.accepts, ho]
    | some o => rcases member o ho with out | again <;> simp [State.accepts, *]

/-- A refused report is counted as stale and no more, whether or not a round is open (R11). -/
theorem State.takeModuleReport_of_refusesReport {s : State} {m : Nat} {x : ModuleReport} (h : s.refusesReport m x) :
    s.takeModuleReport m x = s.setCounters { s.counters with staleReports := inc16 s.counters.staleReports } := by
  have refused := State.not_accepts_of_refusesReport h
  unfold State.takeModuleReport
  split
  · simp [refused, State.count]
  · rfl

/-! ### A report on its way to its block (R155, R157) -/

/-- A frame taken from a node leaves the Round Controller alone (R155). -/
@[simp] theorem State.nodeHeard_rounds (s : State) (i : Nat) (e : NodeEntry) : (s.nodeHeard i e).rounds = s.rounds :=
  (closed_frame s [.nodes, .notices, .counters]).nodeHeard (List.Subset.refl _) (State.changesOnly_refl s _) .rounds
    (by decide)

/-- A frame that fits its kind, from a known node whose role has that kind, has its node heard, reaches the block of the
role, and is offered to the Station queue (R153, R157, R158). -/
theorem State.fieldReceive_of_known {s : State} {f : Frame} {i : Nat} {e : NodeEntry} (hsrc : f.src ≠ s.sys.address)
    (hi : (s.nodeIndex fun e => e.address == f.src) = some i) (he : s.nodeEntry i = some e)
    (hk : e.role.kind = some f.kind) (hf : payloadFits f.kind f.payload = true) :
    s.fieldReceive f =
      (((s.setSlot .field none).nodeHeard i e).consume e f.payload).forwardFrame i e f := by
  have hsrc' : (f.src == (s.setSlot .field none).sys.address) = false := beq_eq_false_iff_ne.mpr hsrc
  have hi' : ((s.setSlot .field none).nodeIndex fun e => e.address == f.src) = some i := hi
  have he' : (s.setSlot .field none).nodeEntry i = some e := he
  simp [State.fieldReceive, State.receiveWhole_of_fits s .field f hf, State.takeFieldFrame, hsrc', hi', he',
    State.consumeFrame, hk, isMalformed, hf]

/-- The block of a module monitor's role takes a MODULE REPORT as it is read (R152, R157). -/
theorem State.consume_moduleReport {s : State} {e : NodeEntry} {payload rest : List Byte} {x : ModuleReport}
    (hr : e.role = .moduleMonitor) (hf : moduleReportFits payload = true)
    (h : ModuleReport.read payload = some (x, rest)) :
    s.consume e payload = s.takeModuleReport e.recordIndex x := by
  simp [State.consume, hr, State.hand, ModuleReport.readAll_of_fits hf h]

/-- While the part runs, the MODULE REPORT row is a frame received whole on the Field Port (R157). -/
theorem exec_moduleReport_of_runs {s : State} (h : s.runs) (dest src : Nat) (payload : List Byte) :
    exec (.moduleReport dest src payload) s = .next (s.fieldReceive ⟨dest, src, kindModuleReport, payload⟩) := by
  have running : s.sys.hold = none := h
  have arm : exec (.moduleReport dest src payload) s = execModuleReport dest src payload s := rfl
  simp [arm, execModuleReport, State.whileRunning, running]

/-- Settles O16, from the refusal by the Round Controller and the way of a report to its block. -/
theorem staleModuleReportIsDiscarded : Obligations.StaleModuleReportIsDiscarded := by
  refine ⟨fun s m x h => State.takeModuleReport_of_refusesReport h, ?_⟩
  intro s i e f x rest hs hsrc hi he hr hf hx hrefuse
  have hk : e.role.kind = some kindModuleReport := by rw [hr]; rfl
  have arrives := State.fieldReceive_of_known (f := ⟨f.dest, f.src, kindModuleReport, f.payload⟩) hsrc hi he hk hf
  have refused : ((s.setSlot .field none).nodeHeard i e).refusesReport e.recordIndex x :=
    (State.refusesReport_congr (State.nodeHeard_rounds ..)).mpr hrefuse
  rw [exec_moduleReport_of_runs hs, arrives, State.consume_moduleReport hr hf hx,
    State.takeModuleReport_of_refusesReport refused]

end Sys2Proof.Machine
end

section
/-! PROOF of O9 (R173): ALERT follows the latched flags through every step, since `latch`, `clearFlags` and a reset alone
change a flag; and the mask of ALERT holds exactly the flags but NODE_SILENT. -/

namespace Sys2Proof.Machine

section

variable {s t : State}

/-! ### The flags that drive ALERT (R171, R173) -/

/-- The flags of severity ALARM or TRIP. -/
def alertFlags : List Flag :=
  [.cellHard, .tempHard, .contactorFail, .pcsOvershoot, .lockout, .breakerFail, .coolantLost, .detectorFault, .fire,
   .release, .configFault, .holdupLow]

theorem mem_alertFlags (f : Flag) : f ∈ alertFlags ↔ f ≠ .nodeSilent := by cases f <;> decide

/-- The bits of the mask are those of the flags that drive ALERT. -/
theorem alertMask_getLsbD_iff (i : Nat) : alertMask.getLsbD i = true ↔ ∃ f ∈ alertFlags, f.bit = i := by
  constructor
  · intro h
    have named : ∀ i : Fin 16, alertMask.getLsbD i = true → ∃ f ∈ alertFlags, f.bit = i := by decide
    exact named ⟨i, BitVec.lt_of_getLsbD h⟩ h
  · rintro ⟨f, hf, rfl⟩
    exact (by decide : ∀ f ∈ alertFlags, alertMask.getLsbD f.bit = true) f hf

theorem ne_zero_iff_exists_getLsbD {w : Nat} {x : BitVec w} : x ≠ 0 ↔ ∃ i, x.getLsbD i = true := by
  constructor
  · intro h
    refine Classical.byContradiction fun noBit => h (BitVec.eq_of_getLsbD_eq fun i _ => ?_)
    have unset : x.getLsbD i = false := Bool.eq_false_iff.mpr fun hi => noBit ⟨i, hi⟩
    exact unset.trans BitVec.getLsbD_zero.symm
  · rintro ⟨i, hi⟩ rfl
    exact Bool.false_ne_true (BitVec.getLsbD_zero.symm.trans hi)

/-- ALERT is active exactly while a flag other than NODE_SILENT is latched (R173). -/
theorem alertOf_eq_true_iff (l : BitVec 16) :
    alertOf l = true ↔ ∃ f : Flag, f ≠ .nodeSilent ∧ l.getLsbD f.bit = true := by
  calc alertOf l = true
      ↔ ∃ i, l.getLsbD i = true ∧ alertMask.getLsbD i = true := by
        simp only [alertOf, bne_iff_ne, ne_zero_iff_exists_getLsbD, BitVec.getLsbD_and, Bool.and_eq_true]
    _ ↔ ∃ f : Flag, f ≠ .nodeSilent ∧ l.getLsbD f.bit = true := by
        simp only [alertMask_getLsbD_iff, mem_alertFlags]
        constructor
        · rintro ⟨i, hl, f, hf, rfl⟩
          exact ⟨f, hf, hl⟩
        · rintro ⟨f, hf, hl⟩
          exact ⟨f.bit, hl, f, hf, rfl⟩

/-! ### The shared shapes of a command -/

theorem keeps_whileRunning {P : State → Prop} {f : State → State} (hs : P s) (h : s.whileRunning f = .next t)
    (hf : P (f s)) : P t := by
  unfold State.whileRunning at h
  split at h <;> cases h <;> assumption

theorem keeps_onExpiry {P : State → Prop} {timer : Option PartTime} {f : State → State} (hs : P s) (hf : P (f s)) :
    P (s.onExpiry timer f) := keeps_ite hf hs

theorem keeps_breakerOver {P : State → Prop} {c : ConnState} {f : State → State} (hs : P s) (hf : P (f s)) :
    P (s.breakerOver c f) := keeps_ite (keeps_onExpiry hs hf) hs

theorem Closed.onSettle {L : List Part} {P : State → Prop} (h : Closed L P) (hL : [.lines] ⊆ L) {i : Nat}
    {f : State → LineState → State} (hs : P s) (hf : ∀ s x, P s → P (f s x)) : P (s.onSettle i f) := by
  unfold State.onSettle
  split
  · exact hf _ _ (h.setLineState hL hs)
  · exact hs

theorem Closed.onFunction {L : List Part} {P : State → Prop} (h : Closed L P) (hL : [.lines] ⊆ L) {fn : LineFunction}
    {f : State → LineState → State} (hs : P s) (hf : ∀ s x, P s → P (f s x)) : P (s.onFunction fn f) := by
  unfold State.onFunction
  split
  · exact h.onSettle hL hs hf
  · exact hs

theorem Closed.onEStop {L : List Part} {P : State → Prop} (h : Closed L P) (hL : [.lines] ⊆ L) {x : LineState}
    {f : State → State} (hs : P s) (hf : ∀ s, P s → P (f s)) : P (s.onEStop x f) := by
  unfold State.onEStop
  split
  · exact keeps_ite (hf _ (h.setLineState hL hs)) hs
  · exact hs

/-- A report row is its frame received whole on the Field Port (R157). -/
theorem exec_of_reportRow {c : Instr} {f : Frame} (h : reportRow c = some f) :
    exec c s = s.whileRunning fun s => s.fieldReceive f := by
  cases c with
  | moduleReport | stringReport | gridSample | pcsStatus | coolantStatus | detectorReport | fieldFrame =>
    cases Option.some.inj h
    rfl
  | _ => nomatch h

/-- A request row is the arrival of its request, which is then served (R163, R165). -/
theorem exec_of_requestRow {c : Instr} {code : Nat} {args : List Byte} (h : requestRow c = some (code, args)) :
    exec c s = s.whileRunning fun s =>
      s.requestArrives.serve code ((requestOf code args).getD State.unknownCode) := by
  cases c with
  | readStatus | readRecords | scanCells | readEnvelope | readTable | loadTable | loadEntry | setParameter | storeImage
  | clearFlags | clearCounters | restart | startRound | stopRound | isolateString | restoreString | resetString
  | releaseGate | connect | disconnect | resetLockout | resetFire =>
    cases Option.some.inj h
    rfl
  | _ => nomatch h

/-! ### What keeps the condition on the flags -/

/-- ALERT follows the latched flags of a state (R173). -/
def State.AlertFollows (s : State) : Prop := FlagsOk s.flags

/-- What leaves the flags alone keeps the condition on them. -/
theorem State.AlertFollows.of_changesOnly {ps : List Part} (hs : s.AlertFollows) (h : s.changesOnly t ps)
    (hp : .flags ∉ ps) : t.AlertFollows := by
  have same : t.flags = s.flags := h .flags hp
  rwa [State.AlertFollows, same]

/-- Of the primitive operations only `latch` and `clearFlags` touch the flags, and both have ALERT follow them. -/
theorem closed_alertFollows {L : List Part} : Closed L State.AlertFollows where
  setRounds := fun _ _ _ hs => hs
  setModules := fun _ _ _ hs => hs
  setStrings := fun _ _ _ hs => hs
  setCellsHold := fun _ _ _ hs => hs
  setLimits := fun _ _ _ hs => hs
  setEnvelope := fun _ _ _ hs => hs
  setGate := fun _ _ _ hs => hs
  setGrid := fun _ _ _ hs => hs
  setConn := fun _ _ _ hs => hs
  setThermal := fun _ _ _ hs => hs
  setFire := fun _ _ _ hs => hs
  setNodes := fun _ _ _ hs => hs
  setEngine := fun _ _ _ hs => hs
  setConfig := fun _ _ _ hs => hs
  setImage := fun _ _ _ hs => hs
  setLines := fun _ _ _ hs => hs
  setSupply := fun _ _ _ hs => hs
  setCounters := fun _ _ _ hs => hs
  setChoices := fun _ _ _ hs => hs
  latch := fun _ _ f hs => hs.latch f
  clearFlags := fun _ _ named hs => hs.clear named
  placeUrgent := fun _ _ _ _ hs => hs.of_changesOnly (placeUrgent_frame _ _) (by decide)
  placeNormal := fun _ _ _ hs => hs.of_changesOnly (placeNormal_frame _ _) (by decide)
  offerForwarded := fun _ _ _ hs => hs.of_changesOnly (offerForwarded_frame _ _) (by decide)
  placeResult := fun _ _ _ hs => hs.of_changesOnly (placeResult_frame _ _) (by decide)
  raise := fun _ _ _ _ hs => hs.of_changesOnly (raise_frame _ _ _) (by decide)

@[simp] theorem State.setSlot_flags (s : State) (p : Port) (x : Option (List Byte)) :
    (s.setSlot p x).flags = s.flags := by cases p <;> rfl

theorem State.AlertFollows.setSlot (hs : s.AlertFollows) (p : Port) (x : Option (List Byte)) :
    (s.setSlot p x).AlertFollows := by
  rwa [State.AlertFollows, State.setSlot_flags]

theorem State.AlertFollows.count (hs : s.AlertFollows) (f : Counters → Counters) : (s.count f).AlertFollows :=
  closed_alertFollows.count (List.Subset.refl _) hs

theorem State.AlertFollows.countPort (hs : s.AlertFollows) (p : Port) (f : PortCounters → PortCounters) :
    (s.countPort p f).AlertFollows := closed_alertFollows.countPort (List.Subset.refl _) hs

/-! ### Requests (R163, R165) -/

/-- The body of a request keeps the condition, whatever its code (R165). -/
theorem State.AlertFollows.requestBody (hs : s.AlertFollows) (code : Nat) (args : List Byte) :
    ((requestOf code args).getD State.unknownCode s).1.AlertFollows := by
  cases hb : requestOf code args with
  | none => exact closed_alertFollows.unknownCode (List.Subset.refl _) hs
  | some body => exact closed_alertFollows.requestOf (List.Subset.refl _) hb hs

theorem State.AlertFollows.serve {code : Nat} {body : State → Answer} (hs : s.AlertFollows)
    (hb : ∀ s : State, s.AlertFollows → (body s).1.AlertFollows) : (s.serve code body).AlertFollows := by
  unfold State.serve State.answer
  split
  · exact hs.count _
  · exact hb _ hs

theorem State.AlertFollows.requestArrives (hs : s.AlertFollows) : s.requestArrives.AlertFollows :=
  closed_alertFollows.stationHeard (List.Subset.refl _) (hs.setSlot _ _)

theorem State.AlertFollows.managementRequest (hs : s.AlertFollows) (payload : List Byte) :
    (s.managementRequest payload).AlertFollows := by
  cases payload with
  | nil => exact hs.serve fun _ h => closed_alertFollows.unknownCode (List.Subset.refl _) h
  | cons b args => exact hs.serve fun _ h => h.requestBody _ _

/-! ### Frames received (R153, R157, R159) -/

theorem State.AlertFollows.receiveWhole (hs : s.AlertFollows) (p : Port) (f : Frame) :
    (s.receiveWhole p f).AlertFollows := by
  unfold State.receiveWhole
  dsimp only
  split
  · exact (hs.setSlot _ _).countPort _ _
  · exact hs.setSlot _ _

theorem State.AlertFollows.fieldReceive (hs : s.AlertFollows) (f : Frame) : (s.fieldReceive f).AlertFollows :=
  closed_alertFollows.takeFieldFrame (List.Subset.refl _) (hs.receiveWhole _ _)

theorem State.AlertFollows.forwardToField (hs : s.AlertFollows) (f : Frame) : (s.forwardToField f).AlertFollows := by
  unfold State.forwardToField
  split
  · exact hs
  · exact hs.count _

theorem State.AlertFollows.dispatchArrives (hs : s.AlertFollows) (f : Frame) : (s.dispatchArrives f).AlertFollows := by
  unfold State.dispatchArrives
  split
  · exact hs
  · split
    · exact closed_alertFollows.takeDispatch (List.Subset.refl _) hs
    · exact hs

theorem State.AlertFollows.stationSteps (hs : s.AlertFollows) (f : Frame) : (s.stationSteps f).AlertFollows := by
  unfold State.stationSteps
  split
  · exact closed_alertFollows.raise (List.Subset.refl _) (hs.count _)
  · split
    · split
      · exact hs.managementRequest _
      · exact hs.count _
    · split
      · exact hs.dispatchArrives f
      · exact hs.forwardToField f

theorem State.AlertFollows.stationReceive (hs : s.AlertFollows) (f : Frame) : (s.stationReceive f).AlertFollows := by
  have whole := hs.receiveWhole .station f
  unfold State.stationReceive
  dsimp only
  split
  · exact whole.count _
  · exact (closed_alertFollows.stationHeard (List.Subset.refl _) whole).stationSteps f

theorem State.AlertFollows.portReceive (hs : s.AlertFollows) (p : Port) (f : Frame) :
    (s.portReceive p f).AlertFollows := by
  cases p with
  | station => exact hs.stationReceive f
  | field => exact hs.fieldReceive f

theorem State.AlertFollows.headerArrives (hs : s.AlertFollows) (p : Port) (h : FrameHeader) :
    (s.headerArrives p h).AlertFollows := by
  unfold State.headerArrives
  split
  · exact hs
  · split
    · exact (hs.setSlot _ _).countPort _ _
    · exact hs.setSlot _ _

theorem State.AlertFollows.bytesThenGap (hs : s.AlertFollows) (p : Port) (part : FramePart) :
    (s.bytesThenGap p part).AlertFollows := by
  unfold State.bytesThenGap
  split
  · exact hs
  · split
    · exact (hs.setSlot _ _).countPort _ _
    · exact hs.setSlot _ _

theorem State.AlertFollows.frameEnds (hs : s.AlertFollows) (p : Port) (dest src kind : Byte) (payload : List Byte)
    (crc : BitVec 16) : (s.frameEnds p dest src kind payload crc).AlertFollows := by
  unfold State.frameEnds
  dsimp only
  split
  · exact (hs.setSlot _ _).countPort _ _
  · exact hs.portReceive _ _

theorem State.AlertFollows.syncArrives (hs : s.AlertFollows) (p : Port) : (s.syncArrives p).AlertFollows := by
  unfold State.syncArrives
  split
  · exact hs.setSlot _ _
  · exact hs

/-! ### Resets (R173, R179) -/

/-- No flag is latched from the beginning of a reset, and ALERT is inactive (R173). -/
@[simp] theorem State.beginReset_flags (s : State) (brownOut resetn : Bool) :
    (s.beginReset brownOut resetn).flags = ⟨0, false⟩ := rfl

theorem flagsOk_none : FlagsOk ⟨0, false⟩ := by unfold FlagsOk; decide

theorem State.alertFollows_beginReset (s : State) (brownOut resetn : Bool) :
    (s.beginReset brownOut resetn).AlertFollows := flagsOk_none

/-- A reset ends on no flag but those that what stands latches again (R119, R151, R178, R179). -/
theorem State.AlertFollows.completeReset (hs : s.AlertFollows) (found : ResetEnd) :
    (s.completeReset found).AlertFollows := by
  unfold State.completeReset
  split
  · exact hs
  · exact closed_alertFollows.start (List.Subset.refl _) flagsOk_none

/-! ### Transmission (R161 to R163, R171) -/

theorem State.AlertFollows.fieldSent (hs : s.AlertFollows) : s.fieldSent.AlertFollows := by
  unfold State.fieldSent
  split
  · exact hs
  · exact closed_alertFollows.roundFrameSent (List.Subset.refl _) hs

theorem State.AlertFollows.stationSent (hs : s.AlertFollows) : s.stationSent.AlertFollows := by
  unfold State.stationSent
  split
  · exact hs
  · dsimp only
    split
    · exact State.alertFollows_beginReset _ _ _
    · exact hs

theorem State.AlertFollows.moveNotice (hs : s.AlertFollows) : s.moveNotice.AlertFollows := by
  unfold State.moveNotice
  split
  · exact hs
  · split <;> exact hs

theorem State.AlertFollows.restartSent (hs : s.AlertFollows) : s.restartSent.AlertFollows := by
  unfold State.restartSent
  split
  · exact hs.stationSent
  · exact hs

/-! ### Every command -/

/-- The commands that are expiries: each acts when its timer has run out (log 1). -/
def isExpiry (c : Instr) : Bool :=
  match c with
  | .intervalExpiry | .wakeSettleExpiry | .quietSettleExpiry | .roundDeadlineExpiry | .contactorTimerExpiry _
  | .envelopeTimerExpiry | .stationSilenceExpiry | .overshootTimerExpiry | .stageDelayExpiry _ | .openTimeout
  | .closeTimeout | .reconnectTimerExpiry | .historyTimerExpiry | .tripPulseEnd | .closePulseEnd
  | .nodeSilenceExpiry _ | .clearTimerExpiry _ | .fireTimerExpiry | .releaseCountdownEnd _ | .auxRestoreExpiry
  | .scrubTimerExpiry | .storeRecordWritten _ => true
  | _ => false

/-- The commands that are changes of a debounced line or of the supply (R174 to R178). -/
def isLineOrSupplyChange (c : Instr) : Bool :=
  match c with
  | .breakerFeedbackChange | .breakerAdoption | .fireLineChange _ | .releaseHoldChange | .eStopActive
  | .eStopInactive | .unassignedLineChange _ | .maintChange | .vauxFall | .vauxRise | .vauxRestoreDip
  | .holdupLowBegin | .holdupLowEnd => true
  | _ => false

/-- Every expiry keeps the condition (R173). -/
theorem State.AlertFollows.expiry {c : Instr} (hs : s.AlertFollows) (hc : isExpiry c = true)
    (h : Machine.exec c s = .next t) : t.AlertFollows := by
  cases c with
  | intervalExpiry =>
    unfold Machine.exec execIntervalExpiry at h
    exact keeps_whileRunning hs h (keeps_onExpiry hs (closed_alertFollows.intervalOver (List.Subset.refl _) hs))
  | wakeSettleExpiry =>
    unfold Machine.exec execWakeSettleExpiry at h
    exact keeps_whileRunning hs h (keeps_ite (closed_alertFollows.wakeSettled (List.Subset.refl _) hs) hs)
  | quietSettleExpiry =>
    unfold Machine.exec execQuietSettleExpiry at h
    exact keeps_whileRunning hs h (keeps_ite (closed_alertFollows.sampleCall (List.Subset.refl _) hs) hs)
  | roundDeadlineExpiry =>
    unfold Machine.exec execRoundDeadlineExpiry at h
    exact keeps_whileRunning hs h (keeps_ite (closed_alertFollows.deadlineOver (List.Subset.refl _) hs) hs)
  | contactorTimerExpiry =>
    unfold Machine.exec execContactorTimerExpiry at h
    exact keeps_whileRunning hs h (keeps_onExpiry hs (closed_alertFollows.contactorTimedOut (List.Subset.refl _) hs))
  | envelopeTimerExpiry =>
    unfold Machine.exec execEnvelopeTimerExpiry at h
    exact keeps_whileRunning hs h (keeps_onExpiry hs (closed_alertFollows.envelopeTick (List.Subset.refl _) hs))
  | stationSilenceExpiry =>
    unfold Machine.exec execStationSilenceExpiry at h
    exact keeps_whileRunning hs h (keeps_onExpiry hs (closed_alertFollows.stationSilent (List.Subset.refl _) hs))
  | overshootTimerExpiry =>
    unfold Machine.exec execOvershootTimerExpiry at h
    exact keeps_whileRunning hs h (keeps_onExpiry hs (closed_alertFollows.overshot (List.Subset.refl _) hs))
  | stageDelayExpiry =>
    unfold Machine.exec execStageDelayExpiry at h
    exact keeps_whileRunning hs h
      (keeps_ite (keeps_onExpiry hs (closed_alertFollows.stageDelayOver (List.Subset.refl _) hs)) hs)
  | openTimeout =>
    unfold Machine.exec execOpenTimeout at h
    exact keeps_whileRunning hs h (keeps_breakerOver hs (closed_alertFollows.openTimedOut (List.Subset.refl _) hs))
  | closeTimeout =>
    unfold Machine.exec execCloseTimeout at h
    exact keeps_whileRunning hs h (keeps_breakerOver hs (closed_alertFollows.closeTimedOut (List.Subset.refl _) hs))
  | reconnectTimerExpiry =>
    unfold Machine.exec execReconnectTimerExpiry at h
    exact keeps_whileRunning hs h
      (keeps_ite (keeps_onExpiry hs (closed_alertFollows.beginClose (List.Subset.refl _) hs)) hs)
  | historyTimerExpiry =>
    unfold Machine.exec execHistoryTimerExpiry at h
    exact keeps_whileRunning hs h (keeps_onExpiry hs (closed_alertFollows.historyTick (List.Subset.refl _) hs))
  | tripPulseEnd =>
    unfold Machine.exec execTripPulseEnd at h
    exact keeps_whileRunning hs h (keeps_onExpiry hs hs)
  | closePulseEnd =>
    unfold Machine.exec execClosePulseEnd at h
    exact keeps_whileRunning hs h (keeps_onExpiry hs hs)
  | nodeSilenceExpiry =>
    unfold Machine.exec execNodeSilenceExpiry at h
    refine keeps_whileRunning hs h ?_
    split
    · exact keeps_ite (keeps_onExpiry hs (closed_alertFollows.nodeSilenced (List.Subset.refl _) hs)) hs
    · exact hs
  | clearTimerExpiry =>
    unfold Machine.exec execClearTimerExpiry at h
    exact keeps_whileRunning hs h (keeps_onExpiry hs (closed_alertFollows.clearTimedOut (List.Subset.refl _) hs))
  | fireTimerExpiry =>
    unfold Machine.exec execFireTimerExpiry at h
    exact keeps_whileRunning hs h (keeps_onExpiry hs (closed_alertFollows.fireTick (List.Subset.refl _) hs))
  | releaseCountdownEnd =>
    unfold Machine.exec execReleaseCountdownEnd at h
    exact keeps_whileRunning hs h (keeps_onExpiry hs (closed_alertFollows.releaseZone (List.Subset.refl _) hs))
  | auxRestoreExpiry =>
    unfold Machine.exec execAuxRestoreExpiry at h
    exact keeps_whileRunning hs h (keeps_onExpiry hs (closed_alertFollows.enterNormal (List.Subset.refl _) hs))
  | scrubTimerExpiry =>
    unfold Machine.exec execScrubTimerExpiry at h
    exact keeps_whileRunning hs h (keeps_onExpiry hs (closed_alertFollows.scrubTick (List.Subset.refl _) hs))
  | storeRecordWritten =>
    unfold Machine.exec execStoreRecordWritten at h
    exact keeps_whileRunning hs h (keeps_onExpiry hs (closed_alertFollows.recordWritten (List.Subset.refl _) hs))
  | _ => nomatch hc

/-- Every change of a line or of the supply keeps the condition (R173). -/
theorem State.AlertFollows.lineOrSupplyChange {c : Instr} (hs : s.AlertFollows) (hc : isLineOrSupplyChange c = true)
    (h : Machine.exec c s = .next t) : t.AlertFollows := by
  cases c with
  | breakerFeedbackChange =>
    unfold Machine.exec execBreakerFeedbackChange at h
    exact keeps_whileRunning hs h (keeps_ite (closed_alertFollows.onFunction (List.Subset.refl _) hs fun _ _ hs =>
      closed_alertFollows.breakerLine (List.Subset.refl _) hs) hs)
  | breakerAdoption =>
    unfold Machine.exec execBreakerAdoption at h
    exact keeps_whileRunning hs h (keeps_ite hs (closed_alertFollows.onFunction (List.Subset.refl _) hs fun _ _ hs =>
      closed_alertFollows.adoptBreaker (List.Subset.refl _) hs))
  | fireLineChange =>
    unfold Machine.exec execFireLineChange at h
    exact keeps_whileRunning hs h (keeps_ite (closed_alertFollows.onSettle (List.Subset.refl _) hs fun _ _ hs =>
      closed_alertFollows.fireLineMoved (List.Subset.refl _) hs) hs)
  | releaseHoldChange =>
    unfold Machine.exec execReleaseHoldChange at h
    exact keeps_whileRunning hs h (closed_alertFollows.onFunction (List.Subset.refl _) hs fun _ _ hs =>
      closed_alertFollows.holdLine (List.Subset.refl _) hs)
  | eStopActive =>
    unfold Machine.exec execEStopActive at h
    exact keeps_whileRunning hs h (closed_alertFollows.onEStop (List.Subset.refl _) hs fun _ hs =>
      closed_alertFollows.eStopLine (List.Subset.refl _) hs)
  | eStopInactive =>
    unfold Machine.exec execEStopInactive at h
    exact keeps_whileRunning hs h (closed_alertFollows.onEStop (List.Subset.refl _) hs fun _ hs =>
      closed_alertFollows.changeEval (List.Subset.refl _) hs)
  | unassignedLineChange =>
    unfold Machine.exec execUnassignedLineChange at h
    exact keeps_whileRunning hs h
      (keeps_ite (closed_alertFollows.onSettle (List.Subset.refl _) hs fun _ _ hs => hs) hs)
  | maintChange =>
    unfold Machine.exec execMaintChange at h
    exact keeps_whileRunning hs h (closed_alertFollows.maintMoves (List.Subset.refl _) hs)
  | vauxFall =>
    unfold Machine.exec execVauxFall at h
    exact keeps_whileRunning hs h (keeps_ite (closed_alertFollows.enterHoldup (List.Subset.refl _) hs) hs)
  | vauxRise =>
    unfold Machine.exec execVauxRise at h
    exact keeps_whileRunning hs h (keeps_ite hs hs)
  | vauxRestoreDip =>
    unfold Machine.exec execVauxRestoreDip at h
    exact keeps_whileRunning hs h hs
  | holdupLowBegin =>
    unfold Machine.exec execHoldupLowBegin at h
    exact keeps_whileRunning hs h (keeps_ite hs (closed_alertFollows.holdupLowBegins (List.Subset.refl _) hs))
  | holdupLowEnd =>
    unfold Machine.exec execHoldupLowEnd at h
    exact keeps_whileRunning hs h (keeps_ite (closed_alertFollows.holdupLowEnds (List.Subset.refl _) hs) hs)
  | _ => nomatch hc

/-- The condition lasts through every command (R173). -/
theorem State.AlertFollows.exec {c : Instr} (hs : s.AlertFollows) (h : exec c s = .next t) : t.AlertFollows := by
  cases c with
  | moduleReport | stringReport | gridSample | pcsStatus | coolantStatus | detectorReport | fieldFrame =>
    rw [exec_of_reportRow rfl] at h
    exact keeps_whileRunning hs h (hs.fieldReceive _)
  | readStatus | readRecords | scanCells | readEnvelope | readTable | loadTable | loadEntry | setParameter | storeImage
  | clearFlags | clearCounters | restart | startRound | stopRound | isolateString | restoreString | resetString
  | releaseGate | connect | disconnect | resetLockout | resetFire =>
    rw [exec_of_requestRow rfl] at h
    exact keeps_whileRunning hs h (hs.requestArrives.serve fun _ h => h.requestBody _ _)
  | unknownRequest payload =>
    unfold Machine.exec execUnknownRequest at h
    exact keeps_whileRunning hs h (hs.requestArrives.managementRequest payload)
  | stationFrame f =>
    unfold Machine.exec execStationFrame at h
    exact keeps_whileRunning hs h (hs.stationReceive f)
  | dispatch =>
    unfold Machine.exec execDispatch at h
    exact keeps_whileRunning hs h (hs.stationReceive _)
  | lengthError port header =>
    unfold Machine.exec execLengthError at h
    exact keeps_whileRunning hs h (hs.headerArrives port header)
  | truncatedFrame port part =>
    unfold Machine.exec execTruncatedFrame at h
    exact keeps_whileRunning hs h (hs.bytesThenGap port part)
  | faultyFrameEnd =>
    unfold Machine.exec execFaultyFrameEnd at h
    exact keeps_whileRunning hs h (hs.frameEnds ..)
  | syncReceived port =>
    unfold Machine.exec execSyncReceived at h
    exact keeps_whileRunning hs h (hs.syncArrives port)
  | fieldTransmitStart =>
    unfold Machine.exec execFieldTransmitStart at h
    exact keeps_whileRunning hs h hs
  | stationTransmitStart =>
    unfold Machine.exec execStationTransmitStart at h
    exact keeps_whileRunning hs h hs
  | fieldFrameSent =>
    unfold Machine.exec execFieldFrameSent at h
    exact keeps_whileRunning hs h hs.fieldSent
  | stationFrameSent =>
    unfold Machine.exec execStationFrameSent at h
    exact keeps_whileRunning hs h hs.stationSent
  | noticeMove =>
    unfold Machine.exec execNoticeMove at h
    exact keeps_whileRunning hs h hs.moveNotice
  | lineLevelChange =>
    cases h
    exact closed_alertFollows.pinBecomes (List.Subset.refl _) hs
  | brownOut | resetnAssert =>
    cases h
    exact State.alertFollows_beginReset ..
  | restartReset =>
    unfold Machine.exec execRestartReset at h
    exact keeps_whileRunning hs h hs.restartSent
  | resetComplete found =>
    cases h
    exact hs.completeReset found
  | intervalExpiry | wakeSettleExpiry | quietSettleExpiry | roundDeadlineExpiry | contactorTimerExpiry
  | envelopeTimerExpiry | stationSilenceExpiry | overshootTimerExpiry | stageDelayExpiry | openTimeout | closeTimeout
  | reconnectTimerExpiry | historyTimerExpiry | tripPulseEnd | closePulseEnd | nodeSilenceExpiry | clearTimerExpiry
  | fireTimerExpiry | releaseCountdownEnd | auxRestoreExpiry | scrubTimerExpiry | storeRecordWritten =>
    exact hs.expiry rfl h
  | breakerFeedbackChange | breakerAdoption | fireLineChange | releaseHoldChange | eStopActive | eStopInactive
  | unassignedLineChange | maintChange | vauxFall | vauxRise | vauxRestoreDip | holdupLowBegin | holdupLowEnd =>
    exact hs.lineOrSupplyChange rfl h

/-- A step is a command on its state, or a millisecond of part time, which leaves the flags alone. -/
theorem State.AlertFollows.step (hs : s.AlertFollows) (h : step s = .next t) : t.AlertFollows := by
  unfold Machine.step at h
  cases hp : s.pending with
  | nil =>
    rw [hp] at h
    cases h
    exact keeps_ite hs hs
  | cons c rest =>
    rw [hp] at h
    have taken : (s.setPending rest).AlertFollows := hs
    exact taken.exec h

end

/-- Settles O9, from the condition on the flags that every command keeps and the mask of ALERT. -/
theorem alertFollowsTheFlags : Obligations.AlertFollowsTheFlags :=
  ⟨fun s _ hs h => State.AlertFollows.step (s := s) hs h, alertOf_eq_true_iff,
    fun s b r => congrArg FlagRec.alert (s.beginReset_flags b r)⟩

end Sys2Proof.Machine
end

section
/-! What every command keeps, said once: a condition on the state that each operation which a command's meaning is made
of keeps is kept by every command. -/

namespace Sys2Proof.Machine

/-! ### Facts about choices and lists -/

/-- A choice by a condition is that by an equivalent one. -/
theorem ite_of_iff {α : Type} {p q : Prop} [Decidable p] [Decidable q] {a b c d : α} (h : p ↔ q) (yes : a = c) (no : b = d) :
    (if p then a else b) = if q then c else d := by
  subst yes no
  by_cases hp : p
  · rw [if_pos hp, if_pos (h.mp hp)]
  · rw [if_neg hp, if_neg fun hq => hp (h.mpr hq)]

/-- The entries that one-to-one values are taken of stand apart. -/
theorem nodup_map_of_injective {α β : Type} {f : α → β} (apart : ∀ a b, f a = f b → a = b) {l : List α} (h : l.Nodup) :
    (l.map f).Nodup :=
  List.Pairwise.map f (fun a b other same => other (apart a b same)) h

theorem nodup_filter {α : Type} (p : α → Bool) {l : List α} (h : l.Nodup) : (l.filter p).Nodup :=
  List.Pairwise.filter p h

theorem exists_mem_cons_or {α : Type} {p : α → Prop} {a : α} {l : List α} :
    (∃ x ∈ a :: l, p x) ↔ p a ∨ ∃ x ∈ l, p x := by
  simp only [List.mem_cons, or_and_right, exists_or, exists_eq_left]

theorem filter_one {α : Type} (p : α → Bool) (a : α) : [a].filter p = if p a then [a] else [] := by
  rw [List.filter_cons, List.filter_nil]

/-- The operations that the meanings of the commands are made of, one by one, keep `P`. -/
structure CommandOps (P : State → Prop) : Prop where
  setSlot : ∀ {s} p x, P s → P (s.setSlot p x)
  count : ∀ {s} f, P s → P (s.count f)
  usurped : ∀ {s} x, P s → P (s.raise .usurpedKind x)
  takeFieldFrame : ∀ {s} f, P s → P (s.takeFieldFrame f)
  stationHeard : ∀ {s}, P s → P s.stationHeard
  takeDispatch : ∀ {s} d o, P s → P (s.takeDispatch d o)
  forwardToField : ∀ {s} f, P s → P (s.forwardToField f)
  serve : ∀ {s} code args, P s → P (s.serve code ((requestOf code args).getD State.unknownCode))
  fieldStart : ∀ {s : State}, P s → P (s.setFieldPort s.fieldPort.start)
  fieldSent : ∀ {s}, P s → P s.fieldSent
  stationStart : ∀ {s : State}, P s → P (s.setStationPort s.stationPort.start)
  stationSent : ∀ {s}, P s → P s.stationSent
  moveNotice : ∀ {s}, P s → P s.moveNotice
  beginReset : ∀ {s} b r, P s → P (s.beginReset b r)
  completeReset : ∀ {s} found, P s → P (s.completeReset found)
  intervalOver : ∀ {s}, P s → P s.intervalOver
  wakeSettled : ∀ {s}, P s → P s.wakeSettled
  sampleCall : ∀ {s}, P s → P s.sampleCall
  deadlineOver : ∀ {s}, P s → P s.deadlineOver
  contactorTimedOut : ∀ {s} i, P s → P (s.contactorTimedOut i)
  envelopeTick : ∀ {s}, P s → P s.envelopeTick
  stationSilent : ∀ {s}, P s → P s.stationSilent
  overshot : ∀ {s}, P s → P s.overshot
  stageDelayOver : ∀ {s} i, P s → P (s.stageDelayOver i)
  openTimedOut : ∀ {s : State}, s.conn.state = .opening → P s → P s.openTimedOut
  closeTimedOut : ∀ {s : State}, s.conn.state = .closing → P s → P s.closeTimedOut
  beginClose : ∀ {s : State}, s.conn.state = .reconnectTiming → P s → P s.beginClose
  historyTick : ∀ {s}, P s → P s.historyTick
  tripPulseEnd : ∀ {s : State}, P s → P (s.setConn { s.conn with tripOut := none })
  closePulseEnd : ∀ {s : State}, P s → P (s.setConn { s.conn with closeOut := none })
  nodeSilenced : ∀ {s} i e, P s → P (s.nodeSilenced i e)
  clearTimedOut : ∀ {s} z, P s → P (s.clearTimedOut z)
  fireTick : ∀ {s}, P s → P s.fireTick
  releaseZone : ∀ {s : State} z, (s.fireZone z).countdown ≠ none → P s → P (s.releaseZone z)
  enterNormal : ∀ {s}, P s → P s.enterNormal
  scrubTick : ∀ {s}, P s → P s.scrubTick
  recordWritten : ∀ {s} c, P s → P (s.recordWritten c)
  setLines : ∀ {s} x, P s → P (s.setLines x)
  breakerLine : ∀ {s} c, P s → P (s.breakerLine c)
  adoptBreaker : ∀ {s} c, P s → P (s.adoptBreaker c)
  fireLineMoved : ∀ {s} e, P s → P (s.fireLineMoved e)
  holdLine : ∀ {s} x, P s → P (s.holdLine x)
  eStopLine : ∀ {s}, P s → P s.eStopLine
  changeEval : ∀ {s}, P s → P s.changeEval
  enterHoldup : ∀ {s}, P s → P s.enterHoldup
  setSupply : ∀ {s} x, P s → P (s.setSupply x)
  holdupLowBegins : ∀ {s}, P s → P s.holdupLowBegins
  holdupLowEnds : ∀ {s}, P s → P s.holdupLowEnds

namespace CommandOps

variable {P : State → Prop} {s t : State}

/-! ### Frames received (R153, R157, R159) -/

theorem countPort (h : CommandOps P) (p : Port) (f : PortCounters → PortCounters) (hs : P s) : P (s.countPort p f) :=
  h.count _ hs

theorem receiveWhole (h : CommandOps P) (p : Port) (f : Frame) (hs : P s) : P (s.receiveWhole p f) :=
  keeps_ite (h.countPort _ _ (h.setSlot _ _ hs)) (h.setSlot _ _ hs)

theorem fieldReceive (h : CommandOps P) (f : Frame) (hs : P s) : P (s.fieldReceive f) :=
  h.takeFieldFrame f (h.receiveWhole _ _ hs)

theorem dispatchArrives (h : CommandOps P) (f : Frame) (hs : P s) : P (s.dispatchArrives f) := by
  unfold State.dispatchArrives
  split
  · exact hs
  · split
    · exact h.takeDispatch _ _ hs
    · exact hs

theorem managementRequest (h : CommandOps P) (payload : List Byte) (hs : P s) : P (s.managementRequest payload) := by
  cases payload with
  | nil => exact h.serve 0 [] hs
  | cons b args => exact h.serve _ _ hs

theorem stationSteps (h : CommandOps P) (f : Frame) (hs : P s) : P (s.stationSteps f) := by
  unfold State.stationSteps
  split
  · exact h.usurped _ (h.count _ hs)
  · split
    · exact keeps_ite (h.managementRequest _ hs) (h.count _ hs)
    · exact keeps_ite (h.dispatchArrives f hs) (h.forwardToField f hs)

theorem stationReceive (h : CommandOps P) (f : Frame) (hs : P s) : P (s.stationReceive f) :=
  keeps_ite (h.count _ (h.receiveWhole _ f hs)) (h.stationSteps f (h.stationHeard (h.receiveWhole _ f hs)))

theorem portReceive (h : CommandOps P) (p : Port) (f : Frame) (hs : P s) : P (s.portReceive p f) := by
  cases p with
  | station => exact h.stationReceive f hs
  | field => exact h.fieldReceive f hs

theorem headerArrives (h : CommandOps P) (p : Port) (x : FrameHeader) (hs : P s) : P (s.headerArrives p x) := by
  unfold State.headerArrives
  split
  · exact hs
  · exact keeps_ite (h.countPort _ _ (h.setSlot _ _ hs)) (h.setSlot _ _ hs)

theorem bytesThenGap (h : CommandOps P) (p : Port) (x : FramePart) (hs : P s) : P (s.bytesThenGap p x) := by
  unfold State.bytesThenGap
  split
  · exact hs
  · exact keeps_ite (h.countPort _ _ (h.setSlot _ _ hs)) (h.setSlot _ _ hs)

theorem syncArrives (h : CommandOps P) (p : Port) (hs : P s) : P (s.syncArrives p) := by
  unfold State.syncArrives
  split
  · exact h.setSlot _ _ hs
  · exact hs

/-! ### Lines (R175) -/

theorem modLine (h : CommandOps P) (i : Nat) (f : LineRec → LineRec) (hs : P s) : P (s.modLine i f) := h.setLines _ hs

theorem pinBecomes (h : CommandOps P) (pin : InputPin) (high : Bool) (hs : P s) : P (s.pinBecomes pin high) := by
  cases pin with
  | line i => exact keeps_ite hs (h.modLine _ _ hs)
  | maint => exact keeps_ite hs (h.setLines _ hs)

theorem onSettle (h : CommandOps P) {i : Nat} {f : State → LineState → State} (hs : P s)
    (hf : ∀ s x, P s → P (f s x)) : P (s.onSettle i f) := by
  unfold State.onSettle
  split
  · exact hf _ _ (h.modLine _ _ hs)
  · exact hs

theorem onFunction (h : CommandOps P) {fn : LineFunction} {f : State → LineState → State} (hs : P s)
    (hf : ∀ s x, P s → P (f s x)) : P (s.onFunction fn f) := by
  unfold State.onFunction
  split
  · exact h.onSettle hs hf
  · exact hs

theorem onEStop (h : CommandOps P) {x : LineState} {f : State → State} (hs : P s) (hf : ∀ s, P s → P (f s)) :
    P (s.onEStop x f) := by
  unfold State.onEStop
  split
  · exact keeps_ite (hf _ (h.modLine _ _ hs)) hs
  · exact hs

theorem maintMoves (h : CommandOps P) (hs : P s) : P s.maintMoves := by
  unfold State.maintMoves
  split
  · exact h.setLines _ hs
  · exact hs

/-! ### Expiries (log 1) -/

/-- What a breaker timer's expiry keeps, in the state that the timer belongs to. -/
theorem keeps_breakerOver {c : ConnState} {f : State → State} (hs : P s) (hf : s.conn.state = c → P (f s)) :
    P (s.breakerOver c f) := by
  unfold State.breakerOver
  split
  · exact keeps_onExpiry hs (hf (beq_iff_eq.mp ‹_›))
  · exact hs

/-- A countdown that reaches 0 is one that runs (R147). -/
theorem keeps_countdownEnd {z : Nat} {f : State → State} (hs : P s)
    (hf : (s.fireZone z).countdown ≠ none → P (f s)) :
    P (s.onExpiry ((s.fireZone z).countdown.bind Countdown.endTime) f) := by
  unfold State.onExpiry
  split
  · rename_i running
    refine hf fun stopped => ?_
    simp [stopped, State.due] at running
  · exact hs

theorem expiry (h : CommandOps P) {c : Instr} (hs : P s) (hc : isExpiry c = true) (he : exec c s = .next t) :
    P t := by
  cases c with
  | intervalExpiry =>
    unfold Machine.exec execIntervalExpiry at he
    exact keeps_whileRunning hs he (keeps_onExpiry hs (h.intervalOver hs))
  | wakeSettleExpiry =>
    unfold Machine.exec execWakeSettleExpiry at he
    exact keeps_whileRunning hs he (keeps_ite (h.wakeSettled hs) hs)
  | quietSettleExpiry =>
    unfold Machine.exec execQuietSettleExpiry at he
    exact keeps_whileRunning hs he (keeps_ite (h.sampleCall hs) hs)
  | roundDeadlineExpiry =>
    unfold Machine.exec execRoundDeadlineExpiry at he
    exact keeps_whileRunning hs he (keeps_ite (h.deadlineOver hs) hs)
  | contactorTimerExpiry =>
    unfold Machine.exec execContactorTimerExpiry at he
    exact keeps_whileRunning hs he (keeps_ite (h.contactorTimedOut _ hs) hs)
  | envelopeTimerExpiry =>
    unfold Machine.exec execEnvelopeTimerExpiry at he
    exact keeps_whileRunning hs he (keeps_onExpiry hs (h.envelopeTick hs))
  | stationSilenceExpiry =>
    unfold Machine.exec execStationSilenceExpiry at he
    exact keeps_whileRunning hs he (keeps_onExpiry hs (h.stationSilent hs))
  | overshootTimerExpiry =>
    unfold Machine.exec execOvershootTimerExpiry at he
    exact keeps_whileRunning hs he (keeps_onExpiry hs (h.overshot hs))
  | stageDelayExpiry =>
    unfold Machine.exec execStageDelayExpiry at he
    exact keeps_whileRunning hs he (keeps_ite (keeps_onExpiry hs (h.stageDelayOver _ hs)) hs)
  | openTimeout =>
    unfold Machine.exec execOpenTimeout at he
    exact keeps_whileRunning hs he (keeps_breakerOver hs (h.openTimedOut · hs))
  | closeTimeout =>
    unfold Machine.exec execCloseTimeout at he
    exact keeps_whileRunning hs he (keeps_breakerOver hs (h.closeTimedOut · hs))
  | reconnectTimerExpiry =>
    unfold Machine.exec execReconnectTimerExpiry at he
    refine keeps_whileRunning hs he ?_
    split
    · exact keeps_onExpiry hs (h.beginClose (beq_iff_eq.mp ‹_›) hs)
    · exact hs
  | historyTimerExpiry =>
    unfold Machine.exec execHistoryTimerExpiry at he
    exact keeps_whileRunning hs he (keeps_onExpiry hs (h.historyTick hs))
  | tripPulseEnd =>
    unfold Machine.exec execTripPulseEnd at he
    exact keeps_whileRunning hs he (keeps_ite (h.tripPulseEnd hs) hs)
  | closePulseEnd =>
    unfold Machine.exec execClosePulseEnd at he
    exact keeps_whileRunning hs he (keeps_ite (h.closePulseEnd hs) hs)
  | nodeSilenceExpiry =>
    unfold Machine.exec execNodeSilenceExpiry at he
    refine keeps_whileRunning hs he ?_
    split
    · exact keeps_ite (keeps_onExpiry hs (h.nodeSilenced _ _ hs)) hs
    · exact hs
  | clearTimerExpiry =>
    unfold Machine.exec execClearTimerExpiry at he
    exact keeps_whileRunning hs he (keeps_ite (h.clearTimedOut _ hs) hs)
  | fireTimerExpiry =>
    unfold Machine.exec execFireTimerExpiry at he
    exact keeps_whileRunning hs he (keeps_onExpiry hs (h.fireTick hs))
  | releaseCountdownEnd =>
    unfold Machine.exec execReleaseCountdownEnd at he
    exact keeps_whileRunning hs he (keeps_countdownEnd hs (h.releaseZone _ · hs))
  | auxRestoreExpiry =>
    unfold Machine.exec execAuxRestoreExpiry at he
    exact keeps_whileRunning hs he (keeps_onExpiry hs (h.enterNormal hs))
  | scrubTimerExpiry =>
    unfold Machine.exec execScrubTimerExpiry at he
    exact keeps_whileRunning hs he (keeps_onExpiry hs (h.scrubTick hs))
  | storeRecordWritten =>
    unfold Machine.exec execStoreRecordWritten at he
    exact keeps_whileRunning hs he (keeps_onExpiry hs (h.recordWritten _ hs))
  | _ => nomatch hc

/-! ### Every command -/

theorem lineOrSupplyChange (h : CommandOps P) {c : Instr} (hs : P s) (hc : isLineOrSupplyChange c = true)
    (he : exec c s = .next t) : P t := by
  cases c with
  | breakerFeedbackChange =>
    unfold Machine.exec execBreakerFeedbackChange at he
    exact keeps_whileRunning hs he (keeps_ite (h.onFunction hs fun _ _ => h.breakerLine _) hs)
  | breakerAdoption =>
    unfold Machine.exec execBreakerAdoption at he
    exact keeps_whileRunning hs he (keeps_ite hs (h.onFunction hs fun _ _ => h.adoptBreaker _))
  | fireLineChange =>
    unfold Machine.exec execFireLineChange at he
    exact keeps_whileRunning hs he (keeps_ite (h.onSettle hs fun _ _ => h.fireLineMoved _) hs)
  | releaseHoldChange =>
    unfold Machine.exec execReleaseHoldChange at he
    exact keeps_whileRunning hs he (h.onFunction hs fun _ _ => h.holdLine _)
  | eStopActive =>
    unfold Machine.exec execEStopActive at he
    exact keeps_whileRunning hs he (h.onEStop hs fun _ => h.eStopLine)
  | eStopInactive =>
    unfold Machine.exec execEStopInactive at he
    exact keeps_whileRunning hs he (h.onEStop hs fun _ => h.changeEval)
  | unassignedLineChange =>
    unfold Machine.exec execUnassignedLineChange at he
    exact keeps_whileRunning hs he (keeps_ite (h.onSettle hs fun _ _ hs => hs) hs)
  | maintChange =>
    unfold Machine.exec execMaintChange at he
    exact keeps_whileRunning hs he (h.maintMoves hs)
  | vauxFall =>
    unfold Machine.exec execVauxFall at he
    exact keeps_whileRunning hs he (keeps_ite (h.enterHoldup hs) hs)
  | vauxRise =>
    unfold Machine.exec execVauxRise at he
    exact keeps_whileRunning hs he (keeps_ite (h.setSupply _ hs) hs)
  | vauxRestoreDip =>
    unfold Machine.exec execVauxRestoreDip at he
    exact keeps_whileRunning hs he (h.setSupply _ hs)
  | holdupLowBegin =>
    unfold Machine.exec execHoldupLowBegin at he
    exact keeps_whileRunning hs he (keeps_ite hs (h.holdupLowBegins hs))
  | holdupLowEnd =>
    unfold Machine.exec execHoldupLowEnd at he
    exact keeps_whileRunning hs he (keeps_ite (h.holdupLowEnds hs) hs)
  | _ => nomatch hc

/-- A condition that the operations of the part keep lasts through every command. -/
theorem exec (h : CommandOps P) {c : Instr} (hs : P s) (he : exec c s = .next t) : P t := by
  cases c with
  | moduleReport | stringReport | gridSample | pcsStatus | coolantStatus | detectorReport | fieldFrame =>
    rw [exec_of_reportRow rfl] at he
    exact keeps_whileRunning hs he (h.fieldReceive _ hs)
  | readStatus | readRecords | scanCells | readEnvelope | readTable | loadTable | loadEntry | setParameter | storeImage
  | clearFlags | clearCounters | restart | startRound | stopRound | isolateString | restoreString | resetString
  | releaseGate | connect | disconnect | resetLockout | resetFire =>
    rw [exec_of_requestRow rfl] at he
    exact keeps_whileRunning hs he (h.serve _ _ (h.stationHeard (h.setSlot _ _ hs)))
  | unknownRequest =>
    unfold Machine.exec execUnknownRequest at he
    exact keeps_whileRunning hs he (h.managementRequest _ (h.stationHeard (h.setSlot _ _ hs)))
  | stationFrame =>
    unfold Machine.exec execStationFrame at he
    exact keeps_whileRunning hs he (h.stationReceive _ hs)
  | dispatch =>
    unfold Machine.exec execDispatch at he
    exact keeps_whileRunning hs he (h.stationReceive _ hs)
  | lengthError =>
    unfold Machine.exec execLengthError at he
    exact keeps_whileRunning hs he (h.headerArrives _ _ hs)
  | truncatedFrame =>
    unfold Machine.exec execTruncatedFrame at he
    exact keeps_whileRunning hs he (h.bytesThenGap _ _ hs)
  | faultyFrameEnd =>
    unfold Machine.exec execFaultyFrameEnd at he
    exact keeps_whileRunning hs he (keeps_ite (h.countPort _ _ (h.setSlot _ _ hs)) (h.portReceive _ _ hs))
  | syncReceived =>
    unfold Machine.exec execSyncReceived at he
    exact keeps_whileRunning hs he (h.syncArrives _ hs)
  | fieldTransmitStart =>
    unfold Machine.exec execFieldTransmitStart at he
    exact keeps_whileRunning hs he (h.fieldStart hs)
  | stationTransmitStart =>
    unfold Machine.exec execStationTransmitStart at he
    exact keeps_whileRunning hs he (h.stationStart hs)
  | fieldFrameSent =>
    unfold Machine.exec execFieldFrameSent at he
    exact keeps_whileRunning hs he (h.fieldSent hs)
  | stationFrameSent =>
    unfold Machine.exec execStationFrameSent at he
    exact keeps_whileRunning hs he (h.stationSent hs)
  | noticeMove =>
    unfold Machine.exec execNoticeMove at he
    exact keeps_whileRunning hs he (h.moveNotice hs)
  | lineLevelChange => cases he; exact h.pinBecomes _ _ hs
  | brownOut => cases he; exact h.beginReset _ _ hs
  | resetnAssert => cases he; exact h.beginReset _ _ hs
  | restartReset =>
    unfold Machine.exec execRestartReset at he
    exact keeps_whileRunning hs he (keeps_ite (h.stationSent hs) hs)
  | resetComplete => cases he; exact h.completeReset _ hs
  | intervalExpiry | wakeSettleExpiry | quietSettleExpiry | roundDeadlineExpiry | contactorTimerExpiry
  | envelopeTimerExpiry | stationSilenceExpiry | overshootTimerExpiry | stageDelayExpiry | openTimeout | closeTimeout
  | reconnectTimerExpiry | historyTimerExpiry | tripPulseEnd | closePulseEnd | nodeSilenceExpiry | clearTimerExpiry
  | fireTimerExpiry | releaseCountdownEnd | auxRestoreExpiry | scrubTimerExpiry | storeRecordWritten =>
    exact h.expiry hs rfl he
  | breakerFeedbackChange | breakerAdoption | fireLineChange | releaseHoldChange | eStopActive | eStopInactive
  | unassignedLineChange | maintChange | vauxFall | vauxRise | vauxRestoreDip | holdupLowBegin | holdupLowEnd =>
    exact h.lineOrSupplyChange hs rfl he

/-- A condition that the operations, the queue of commands and a millisecond leave standing lasts through a step. -/
theorem step (h : CommandOps P) (pending : ∀ {s : State} x, P s → P (s.setPending x))
    (time : ∀ {s : State} x, P s → P (s.setTime x)) (hs : P s) (he : step s = .next t) : P t := by
  unfold Machine.step at he
  split at he
  · cases he
    exact keeps_ite (time _ hs) hs
  · exact h.exec (pending _ hs) he

end CommandOps

/-! ### Conditions that the primitive operations keep -/

/-- Every piece of the state. -/
def everyPart : List Part :=
  [.pending, .time, .sys, .rounds, .modules, .strings, .cellsHold, .limits, .envelope, .gate, .grid, .conn, .thermal,
   .fire, .nodes, .fieldPort, .stationPort, .engine, .notices, .flags, .config, .image, .lines, .supply, .counters,
   .choices]

theorem subset_everyPart {ps : List Part} : ps ⊆ everyPart := fun p _ => by cases p <;> decide

/-- A request's body keeps what the primitive operations keep, whatever its code (R165). -/
theorem Closed.requestBody {P : State → Prop} (h : Closed everyPart P) (code : Nat) (args : List Byte) {s : State}
    (hs : P s) : P ((Machine.requestOf code args).getD State.unknownCode s).1 := by
  cases hb : Machine.requestOf code args with
  | none => exact h.unknownCode subset_everyPart hs
  | some body => exact h.requestOf subset_everyPart hb hs

/-- What the primitive operations keep, and what the ports' queues and the resets keep, every operation keeps. -/
theorem Closed.commandOps {P : State → Prop} (h : Closed everyPart P)
    (setSlot : ∀ {s} p x, P s → P (s.setSlot p x))
    (forwardToField : ∀ {s} f, P s → P (s.forwardToField f))
    (serve : ∀ {s} code args, P s → P (s.serve code ((Machine.requestOf code args).getD State.unknownCode)))
    (fieldStart : ∀ {s : State}, P s → P (s.setFieldPort s.fieldPort.start))
    (fieldFreed : ∀ {s : State}, P s → P (s.setFieldPort { s.fieldPort with sending := none }))
    (stationStart : ∀ {s : State}, P s → P (s.setStationPort s.stationPort.start))
    (stationFreed : ∀ {s : State}, P s → P (s.setStationPort { s.stationPort with sending := none }))
    (moveNotice : ∀ {s}, P s → P s.moveNotice)
    (beginReset : ∀ {s} b r, P s → P (s.beginReset b r))
    (blocksAfterReset : ∀ {s} c found, P s → P (s.blocksAfterReset c found)) : CommandOps P where
  setSlot := setSlot
  count _ := h.count subset_everyPart
  usurped _ := h.raise subset_everyPart
  takeFieldFrame _ := h.takeFieldFrame subset_everyPart
  stationHeard := h.stationHeard subset_everyPart
  takeDispatch _ _ := h.takeDispatch subset_everyPart
  forwardToField := forwardToField
  serve := serve
  fieldStart := fieldStart
  fieldSent := fun {s} hs => by
    unfold State.fieldSent
    split
    · exact hs
    · exact h.roundFrameSent subset_everyPart (fieldFreed hs)
  stationStart := stationStart
  stationSent := fun {s} hs => by
    unfold State.stationSent
    split
    · exact hs
    · exact keeps_ite (beginReset _ _ (stationFreed hs)) (stationFreed hs)
  moveNotice := moveNotice
  beginReset := beginReset
  completeReset := fun {s} found hs => by
    unfold State.completeReset
    split
    · exact hs
    · exact h.start subset_everyPart (blocksAfterReset _ _ hs)
  intervalOver := h.intervalOver subset_everyPart
  wakeSettled := h.wakeSettled subset_everyPart
  sampleCall := h.sampleCall subset_everyPart
  deadlineOver := h.deadlineOver subset_everyPart
  contactorTimedOut _ := h.contactorTimedOut subset_everyPart
  envelopeTick := h.envelopeTick subset_everyPart
  stationSilent := h.stationSilent subset_everyPart
  overshot := h.overshot subset_everyPart
  stageDelayOver _ := h.stageDelayOver subset_everyPart
  openTimedOut _ := h.openTimedOut subset_everyPart
  closeTimedOut _ := h.closeTimedOut subset_everyPart
  beginClose _ := h.beginClose subset_everyPart
  historyTick := h.historyTick subset_everyPart
  tripPulseEnd := h.setConn subset_everyPart
  closePulseEnd := h.setConn subset_everyPart
  nodeSilenced _ _ := h.nodeSilenced subset_everyPart
  clearTimedOut _ := h.clearTimedOut subset_everyPart
  fireTick := h.fireTick subset_everyPart
  releaseZone _ _ := h.releaseZone subset_everyPart
  enterNormal := h.enterNormal subset_everyPart
  scrubTick := h.scrubTick subset_everyPart
  recordWritten _ := h.recordWritten subset_everyPart
  setLines _ := h.setLines subset_everyPart
  breakerLine _ := h.breakerLine subset_everyPart
  adoptBreaker _ := h.adoptBreaker subset_everyPart
  fireLineMoved _ := h.fireLineMoved subset_everyPart
  holdLine _ := h.holdLine subset_everyPart
  eStopLine := h.eStopLine subset_everyPart
  changeEval := h.changeEval subset_everyPart
  enterHoldup := h.enterHoldup subset_everyPart
  setSupply _ := h.setSupply subset_everyPart
  holdupLowBegins := h.holdupLowBegins subset_everyPart
  holdupLowEnds := h.holdupLowEnds subset_everyPart

end Sys2Proof.Machine
end

section
/-! PROOFS of O2 and O8: every command completes and leaves the queue of commands alone; and the Notice Queue, the Field
queues and the Station queue keep their form through every step (R160, R162, R163, R172). -/

namespace Sys2Proof.Machine

variable {s t : State}

/-! ### Conditions on one of the queues -/

/-- The queues: the pieces that, of the primitive operations, at most those that place a frame or raise a notice touch. -/
def queuePieces : List Part := [.pending, .notices, .fieldPort, .stationPort]

theorem notMem_of_queuePiece {p : Part} (hp : p ∈ queuePieces) {ps : List Part}
    (hps : ps.all (fun q => !queuePieces.contains q) = true) : p ∉ ps := by
  intro hm
  have outside := List.all_eq_true.mp hps p hm
  rw [Bool.not_eq_true', ← Bool.not_eq_true, List.contains_iff_mem] at outside
  exact outside hp

/-- A condition on one queue, kept by the operations that place a frame or raise a notice, is kept by every primitive
operation. -/
theorem closed_of_queuePiece {P : State → Prop} {p : Part} (hp : p ∈ queuePieces)
    (reads : ∀ {s t : State}, s.sameIn t p → P s → P t)
    (placeUrgent : ∀ {s : State} {x : Placed}, supersedable x.frame.kind = true → P s → P (s.placeUrgent x))
    (placeNormal : ∀ {s : State} {x : Placed}, P s → P (s.placeNormal x))
    (offerForwarded : ∀ {s : State} {x : Frame}, P s → P (s.offerForwarded x))
    (placeResult : ∀ {s : State} {x : DispatchResult}, P s → P (s.placeResult x))
    (raise : ∀ {s : State} {k : NoticeKind} {x : Option Nat}, P s → P (s.raise k x)) {L : List Part} : Closed L P where
  setRounds := fun _ _ _ => reads (setRounds_frame _ _ p (notMem_of_queuePiece hp rfl))
  setModules := fun _ _ _ => reads (setModules_frame _ _ p (notMem_of_queuePiece hp rfl))
  setStrings := fun _ _ _ => reads (setStrings_frame _ _ p (notMem_of_queuePiece hp rfl))
  setCellsHold := fun _ _ _ => reads (setCellsHold_frame _ _ p (notMem_of_queuePiece hp rfl))
  setLimits := fun _ _ _ => reads (setLimits_frame _ _ p (notMem_of_queuePiece hp rfl))
  setEnvelope := fun _ _ _ => reads (setEnvelope_frame _ _ p (notMem_of_queuePiece hp rfl))
  setGate := fun _ _ _ => reads (setGate_frame _ _ p (notMem_of_queuePiece hp rfl))
  setGrid := fun _ _ _ => reads (setGrid_frame _ _ p (notMem_of_queuePiece hp rfl))
  setConn := fun _ _ _ => reads (setConn_frame _ _ p (notMem_of_queuePiece hp rfl))
  setThermal := fun _ _ _ => reads (setThermal_frame _ _ p (notMem_of_queuePiece hp rfl))
  setFire := fun _ _ _ => reads (setFire_frame _ _ p (notMem_of_queuePiece hp rfl))
  setNodes := fun _ _ _ => reads (setNodes_frame _ _ p (notMem_of_queuePiece hp rfl))
  setEngine := fun _ _ _ => reads (setEngine_frame _ _ p (notMem_of_queuePiece hp rfl))
  setConfig := fun _ _ _ => reads (setConfig_frame _ _ p (notMem_of_queuePiece hp rfl))
  setImage := fun _ _ _ => reads (setImage_frame _ _ p (notMem_of_queuePiece hp rfl))
  setLines := fun _ _ _ => reads (setLines_frame _ _ p (notMem_of_queuePiece hp rfl))
  setSupply := fun _ _ _ => reads (setSupply_frame _ _ p (notMem_of_queuePiece hp rfl))
  setCounters := fun _ _ _ => reads (setCounters_frame _ _ p (notMem_of_queuePiece hp rfl))
  setChoices := fun _ _ _ => reads (setChoices_frame _ _ p (notMem_of_queuePiece hp rfl))
  latch := fun _ _ _ => reads (latch_frame _ _ p (notMem_of_queuePiece hp rfl))
  clearFlags := fun _ _ _ => reads (clearFlags_frame _ _ p (notMem_of_queuePiece hp rfl))
  placeUrgent := fun _ _ _ => placeUrgent
  placeNormal := fun _ _ _ => placeNormal
  offerForwarded := fun _ _ _ => offerForwarded
  placeResult := fun _ _ _ => placeResult
  raise := fun _ _ _ _ => raise

/-- The body of a request, whatever its code, changes only what some request changes: neither port's receive side, nor
the Station queue, part time, the reset record or the image (R165). -/
theorem requestBody_frame (s : State) (code : Nat) (args : List Byte) :
    s.changesOnly ((requestOf code args).getD State.unknownCode s).1 requestParts := by
  cases hb : requestOf code args with
  | none => exact State.changesOnly_refl s _
  | some body =>
    exact (closed_frame s requestParts).requestOf (List.Subset.refl _) hb (State.changesOnly_refl s _)

/-- A request discarded is counted, and one executed leaves what its body leaves, but for the Station queue (R163). -/
theorem keeps_serve {P : State → Prop} {code : Nat} {body : State → Answer} (hs : P s)
    (count : ∀ f, P (s.count f)) (reserve : ∀ {s : State} x, P s → P (s.setStationPort x))
    (hb : ∀ {s : State}, P s → P (body s).1) : P (s.serve code body) := by
  unfold State.serve State.answer
  exact keeps_ite (count _) (reserve _ (hb (reserve _ hs)))

/-! ### The queue of commands (O2) -/

/-- Every command answers a next state. -/
theorem exec_completes (c : Instr) (s : State) : ∃ t, exec c s = .next t := by
  have running : ∀ f : State → State, ∃ t, s.whileRunning f = .next t := fun f => by
    unfold State.whileRunning
    split <;> exact ⟨_, rfl⟩
  cases c with
  | lineLevelChange | brownOut | resetnAssert | resetComplete => exact ⟨_, rfl⟩
  | _ =>
    dsimp only [exec]
    exact running _

theorem closed_pending (q : List Instr) {L : List Part} : Closed L (fun t => t.pending = q) :=
  closed_of_queuePiece (p := .pending) (by decide) (fun same hs => same.trans hs)
    (fun _ hs => (placeUrgent_frame _ _ .pending (by decide)).trans hs)
    (fun hs => (placeNormal_frame _ _ .pending (by decide)).trans hs)
    (fun hs => (offerForwarded_frame _ _ .pending (by decide)).trans hs)
    (fun hs => (placeResult_frame _ _ .pending (by decide)).trans hs)
    (fun hs => (raise_frame _ _ _ .pending (by decide)).trans hs)

/-- A reset's beginning changes only these pieces (R179). -/
theorem beginReset_frame (s : State) (b r : Bool) :
    s.changesOnly (s.beginReset b r) [.sys, .conn, .fire, .engine, .image, .fieldPort, .stationPort, .flags] := by
  intro p hp
  have cut : s.changesOnly s.cutStore [.engine, .image] :=
    (closed_frame s _).cutStore (List.Subset.refl _) (State.changesOnly_refl s _)
  have cut := cut p fun h => hp (by revert h; cases p <;> decide)
  cases p <;> first | exact absurd (by decide) hp | simpa [State.sameIn, State.beginReset] using cut

theorem commandOps_pending (q : List Instr) : CommandOps (fun t => t.pending = q) :=
  (closed_pending q).commandOps
    (setSlot := fun p _ hs => by cases p <;> exact hs)
    (forwardToField := fun _ hs => keeps_ite (P := fun t => t.pending = q) hs hs)
    (serve := fun {s} code args hs => keeps_serve (P := fun t => t.pending = q) hs (fun _ => hs) (fun _ hs => hs)
      fun {s} hs => ((requestBody_frame s code args) .pending (by decide)).trans hs)
    (fieldStart := fun hs => hs)
    (fieldFreed := fun hs => hs)
    (stationStart := fun hs => hs)
    (stationFreed := fun hs => hs)
    (moveNotice := fun {s} hs => by
      unfold State.moveNotice
      split
      · exact hs
      · exact keeps_ite (P := fun t => t.pending = q) hs hs)
    (beginReset := fun {s} b r hs => (beginReset_frame s b r .pending (by decide)).trans hs)
    (blocksAfterReset := fun _ _ hs => hs)

/-- Settles O2, from the completion of each command and the frames of the operations. -/
theorem everyCommandCompletesAndKeepsTheQueue : Obligations.EveryCommandCompletesAndKeepsTheQueue := fun c s => by
  obtain ⟨t, ht⟩ := exec_completes c s
  exact ⟨t, ht, (commandOps_pending s.pending).exec (s := s) rfl ht⟩

/-! ### The Notice Queue (R172) -/

theorem closed_noticesOk {L : List Part} : Closed L (fun t => NoticesOk t.notices) :=
  closed_of_queuePiece (p := .notices) (by decide) (fun {s t} (same : t.notices = s.notices) hs => same ▸ hs)
    (fun _ hs => hs)
    (fun {s x} hs => (placeNormal_frame s x .notices (by decide) : _ = s.notices) ▸ hs)
    (fun {s x} hs => (offerForwarded_frame s x .notices (by decide) : _ = s.notices) ▸ hs)
    (fun {s x} hs => (placeResult_frame s x .notices (by decide) : _ = s.notices) ▸ hs)
    (fun {s k x} hs => by
      show NoticesOk (s.raise k x).notices
      rw [State.raise_notices]
      exact hs.enter _)

theorem noticesOk_nil : NoticesOk [] := ⟨by decide, List.Pairwise.nil⟩

theorem commandOps_noticesOk : CommandOps (fun t => NoticesOk t.notices) :=
  closed_noticesOk.commandOps
    (setSlot := fun p _ hs => by cases p <;> exact hs)
    (forwardToField := fun _ hs => keeps_ite (P := fun t => NoticesOk t.notices) hs hs)
    (serve := fun code args hs => keeps_serve (P := fun t => NoticesOk t.notices) hs (fun _ => hs) (fun _ hs => hs)
      (closed_noticesOk.requestBody code args))
    (fieldStart := fun hs => hs)
    (fieldFreed := fun hs => hs)
    (stationStart := fun hs => hs)
    (stationFreed := fun hs => hs)
    (moveNotice := fun {s} hs => by
      unfold State.moveNotice
      split
      · exact hs
      · exact keeps_ite (P := fun t => NoticesOk t.notices) (hs.sublist List.eraseP_sublist) hs)
    (beginReset := fun {s} b r hs => (beginReset_frame s b r .notices (by decide) : _ = s.notices) ▸ hs)
    (blocksAfterReset := fun _ _ _ => noticesOk_nil)

/-! ### The Field queues (R160) -/

/-- What no placing touches is irrelevant to the condition on the Field queues: the receive slot. -/
theorem FieldPortOk.slot {p : FieldPort} (h : FieldPortOk p) (x : Option (List Byte)) :
    FieldPortOk { p with slot := x } := h

/-- A frame joins the end of NORMAL while a place is free (R159, R160). -/
theorem FieldPortOk.join {p : FieldPort} (h : FieldPortOk p) (x : Placed) (hp : p.normalUsed < 32) :
    FieldPortOk { p with normal := p.normal ++ [x] } := by
  obtain ⟨_, kinds, distinct⟩ := h
  refine ⟨?_, kinds, distinct⟩
  simp only [FieldPort.normalUsed, List.length_append, List.length_singleton] at hp ⊢
  omega

/-- A frame that starts from NORMAL keeps its place, and one from URGENT leaves that queue (R161). -/
theorem FieldPortOk.start {p : FieldPort} (h : FieldPortOk p) : FieldPortOk p.start := by
  unfold FieldPort.start
  split
  · rename_i idle urgent
    obtain ⟨places, kinds, distinct⟩ := h
    rw [urgent] at kinds distinct
    refine ⟨?_, fun w hw => kinds w (List.mem_cons_of_mem _ hw), distinct.of_cons⟩
    simpa [FieldPort.normalUsed, idle] using places
  · rename_i idle urgent normal
    obtain ⟨places, kinds, distinct⟩ := h
    refine ⟨?_, kinds, distinct⟩
    simpa [FieldPort.normalUsed, idle, normal] using places
  · exact h

/-- A frame sent frees its place (R161). -/
theorem FieldPortOk.freed {p : FieldPort} (h : FieldPortOk p) : FieldPortOk { p with sending := none } := by
  obtain ⟨places, kinds, distinct⟩ := h
  refine ⟨?_, kinds, distinct⟩
  simp only [FieldPort.normalUsed] at places ⊢
  omega

theorem fieldPortOk_atReset : FieldPortOk .atReset := ⟨by decide, by decide, List.Pairwise.nil⟩

theorem closed_fieldPortOk {L : List Part} : Closed L (fun t => FieldPortOk t.fieldPort) :=
  closed_of_queuePiece (p := .fieldPort) (by decide) (fun {s t} (same : t.fieldPort = s.fieldPort) hs => same ▸ hs)
    (fun hk hs => hs.placeUrgent hk)
    (fun hs => hs.placeNormal _)
    (fun {s x} hs => (offerForwarded_frame s x .fieldPort (by decide) : _ = s.fieldPort) ▸ hs)
    (fun {s x} hs => (placeResult_frame s x .fieldPort (by decide) : _ = s.fieldPort) ▸ hs)
    (fun {s k x} hs => (raise_frame s k x .fieldPort (by decide) : _ = s.fieldPort) ▸ hs)

theorem commandOps_fieldPortOk : CommandOps (fun t => FieldPortOk t.fieldPort) :=
  closed_fieldPortOk.commandOps
    (setSlot := fun p _ hs => by cases p <;> exact hs)
    (forwardToField := fun {s} f hs => by
      unfold State.forwardToField
      split
      · exact hs.join ⟨f, none⟩ ‹_›
      · exact hs)
    (serve := fun code args hs => keeps_serve (P := fun t => FieldPortOk t.fieldPort) hs (fun _ => hs)
      (fun _ hs => hs) (closed_fieldPortOk.requestBody code args))
    (fieldStart := FieldPortOk.start)
    (fieldFreed := FieldPortOk.freed)
    (stationStart := fun hs => hs)
    (stationFreed := fun hs => hs)
    (moveNotice := fun {s} hs => by
      unfold State.moveNotice
      split
      · exact hs
      · exact keeps_ite (P := fun t => FieldPortOk t.fieldPort) hs hs)
    (beginReset := fun _ _ _ => fieldPortOk_atReset)
    (blocksAfterReset := fun _ _ _ => fieldPortOk_atReset)

/-! ### The Station queue (R162, R163) -/

/-- A frame that starts keeps its place (R162). -/
theorem StationPortOk.start {p : StationPort} (h : StationPortOk p) : StationPortOk p.start := by
  unfold StationPort.start
  split
  · rename_i idle queue
    simp only [StationPortOk, StationPort.used, idle, queue, List.length_cons, Option.isSome_none,
      Option.isSome_some, Bool.false_eq_true, if_true, if_false] at h ⊢
    omega
  · exact h

/-- A frame sent frees its place (R162). -/
theorem StationPortOk.freed {p : StationPort} (h : StationPortOk p) : StationPortOk { p with sending := none } := by
  simp only [StationPortOk, StationPort.used, Option.isSome_none, Bool.false_eq_true, if_false] at h ⊢
  omega

/-- A response takes the place that was reserved for it (R163). -/
theorem StationPort.used_respond (p : StationPort) (r : StationFrame) :
    ({ p with reserved := (p.reserved + 1) - 1, queue := p.queue ++ [r] } : StationPort).used = p.used + 1 :=
  StationPort.used_join p r

/-- A request is executed only while a place is free, and its response takes that place (R163). -/
theorem StationPortOk.serve (h : StationPortOk s.stationPort) (code : Nat) (args : List Byte) :
    StationPortOk (s.serve code ((requestOf code args).getD State.unknownCode)).stationPort := by
  unfold State.serve
  split
  · exact h
  · rename_i free
    simp only [Bool.or_eq_true, decide_eq_true_eq, not_or, Nat.not_le] at free
    have untouched := requestBody_frame (s.setStationPort { s.stationPort with reserved := s.stationPort.reserved + 1 })
      code args .stationPort (by decide)
    simp only [State.sameIn] at untouched
    simp only [State.answer, State.setStationPort_stationPort, untouched, StationPortOk, StationPort.used_respond]
    omega

theorem closed_stationPortOk {L : List Part} : Closed L (fun t => StationPortOk t.stationPort) :=
  closed_of_queuePiece (p := .stationPort) (by decide)
    (fun {s t} (same : t.stationPort = s.stationPort) hs => same ▸ hs)
    (fun _ hs => hs)
    (fun {s x} hs => (placeNormal_frame s x .stationPort (by decide) : _ = s.stationPort) ▸ hs)
    (fun hs => hs.offerForwarded _)
    (fun hs => hs.placeResult _)
    (fun {s k x} hs => (raise_frame s k x .stationPort (by decide) : _ = s.stationPort) ▸ hs)

theorem commandOps_stationPortOk : CommandOps (fun t => StationPortOk t.stationPort) :=
  closed_stationPortOk.commandOps
    (setSlot := fun p _ hs => by cases p <;> exact hs)
    (forwardToField := fun _ hs => keeps_ite (P := fun t => StationPortOk t.stationPort) hs hs)
    (serve := fun code args hs => hs.serve code args)
    (fieldStart := fun hs => hs)
    (fieldFreed := fun hs => hs)
    (stationStart := StationPortOk.start)
    (stationFreed := StationPortOk.freed)
    (moveNotice := fun {s} hs => by
      unfold State.moveNotice
      split
      · exact hs
      · split
        · rename_i free
          show StationPort.used _ ≤ 32
          rw [State.stationJoin, State.setStationPort_stationPort, StationPort.used_join]
          exact Nat.succ_le_of_lt (Nat.lt_succ_of_le (Nat.le_succ_of_le free))
        · exact hs)
    (beginReset := fun _ _ _ => (by decide : StationPort.used .atReset ≤ 32))
    (blocksAfterReset := fun _ _ _ => (by decide : StationPort.used .atReset ≤ 32))

/-- Settles O8, from the condition on each queue, which every operation keeps. -/
theorem queuesKeepTheirForm : Obligations.QueuesKeepTheirForm := fun _ _ h =>
  ⟨fun hs => commandOps_noticesOk.step (fun _ hs => hs) (fun _ hs => hs) hs h,
    fun hs => commandOps_fieldPortOk.step (fun _ hs => hs) (fun _ hs => hs) hs h,
    fun hs => commandOps_stationPortOk.step (fun _ hs => hs) (fun _ hs => hs) hs h⟩

end Sys2Proof.Machine
end

section
/-! What the guarding blocks can do, said once. `Steady` lists the changes of the connection record, the strings, the
envelope and the thermal command that the operations below the fire stages are made of: a condition that these changes
keep is kept by every such operation (R30, R77, R110 to R119, R125). -/

namespace Sys2Proof.Machine

/-! ### One change of the connection record (R108) -/

/-- A connection that is locked out holds a lockout. -/
def LockoutOk (c : ConnRec) : Prop := c.lockedOut → c.lockout ≠ .none

/-- What a change of the connection record keeps: a lockout once reached, the lockout of a full history, and pulses of
one output at a time. -/
structure ConnStep (s : State) (x : ConnRec) : Prop where
  locked : LockoutOk s.conn → s.conn.lockedOut → x.lockedOut
  history : s.tables.t9.tripLimit ≤ x.history.length →
    x.lockedOut ∨ s.tables.t9.tripLimit ≤ s.conn.history.length
  lockout : LockoutOk s.conn → LockoutOk x
  pulses : PulsesOk s.conn → PulsesOk x

theorem not_lockedOut {c : ConnRec} (h1 : c.state ≠ .openLocked) (h2 : c.state ≠ .opening) : ¬c.lockedOut := by
  rintro (h | ⟨h, -⟩)
  · exact h1 h
  · exact h2 h

/-- A connection that neither is open nor opens cannot be locked out. -/
theorem ConnRec.not_lockedOut_of {c : ConnRec} {x : ConnState} (h : c.state = x) (h1 : x ≠ .openLocked := by decide)
    (h2 : x ≠ .opening := by decide) : ¬c.lockedOut := by
  subst h
  exact not_lockedOut h1 h2

/-- A change that leaves the state, the target, the lockout and the history alone, and pulses no output. -/
theorem ConnStep.of_same {s : State} {x : ConnRec} (state : x.state = s.conn.state) (target : x.target = s.conn.target)
    (lockout : x.lockout = s.conn.lockout) (history : x.history = s.conn.history)
    (tripOut : x.tripOut = s.conn.tripOut ∨ x.tripOut = none) (closeOut : x.closeOut = s.conn.closeOut ∨ x.closeOut = none) :
    ConnStep s x where
  locked := fun _ h => by simpa only [ConnRec.lockedOut, state, target] using h
  history := fun h => .inr (history ▸ h)
  lockout := fun h => by simpa only [LockoutOk, ConnRec.lockedOut, state, target, lockout] using h
  pulses := by
    rintro (h | h)
    · exact .inl (tripOut.elim (·.trans h) id)
    · exact .inr (closeOut.elim (·.trans h) id)

/-- A change from a state that is not locked out to one that is not, with no entry to the history. -/
theorem ConnStep.of_open {s : State} {x : ConnRec} (before : LockoutOk s.conn → ¬s.conn.lockedOut)
    (after : ¬x.lockedOut) (history : x.history = s.conn.history) (pulses : PulsesOk s.conn → PulsesOk x) :
    ConnStep s x where
  locked := fun ok h => absurd h (before ok)
  history := fun h => .inr (history ▸ h)
  lockout := fun _ h => absurd h after
  pulses := pulses

/-- A change that locks the connection out. -/
theorem ConnStep.of_locked {s : State} {x : ConnRec} (after : x.lockedOut)
    (lockout : LockoutOk s.conn → x.lockout ≠ .none) (pulses : PulsesOk s.conn → PulsesOk x) : ConnStep s x where
  locked := fun _ _ => after
  history := fun _ => .inl after
  lockout := fun ok _ => lockout ok
  pulses := pulses

/-- A lockout taken leaves one held (R110). -/
theorem Lockout.combine_ne_none (held : Lockout) {new : Lockout} (h : new ≠ .none) : held.combine new ≠ .none := by
  cases held <;> cases new <;> simp_all [Lockout.combine]

theorem Lockout.breakerFailed_ne_none (held : Lockout) : held.breakerFailed ≠ .none := by
  cases held <;> decide

/-! ### One change of the strings (R28, R43) -/

/-- A string in service, or on its way back to it. -/
def StringRec.serving (r : StringRec) : Prop := r.state = .inService ∨ r.state = .restoring

/-- What a change of a string keeps: its charge within its capacity, and a string out of service. -/
structure StringStep (r u : StringRec) : Prop where
  charge : ChargeOk r.charge → ChargeOk u.charge
  serving : u.serving → r.serving

theorem StringStep.refl (r : StringRec) : StringStep r r := ⟨id, id⟩

/-- A change of the other fields of a string. -/
theorem StringStep.of_same {r u : StringRec} (charge : u.charge = r.charge) (state : u.state = r.state) :
    StringStep r u := ⟨fun h => charge ▸ h, fun h => by simpa only [StringRec.serving, state] using h⟩

/-- A change of state that does not put the string into service. -/
theorem StringStep.of_state {r u : StringRec} (charge : u.charge = r.charge) (h1 : u.state ≠ .inService)
    (h2 : u.state ≠ .restoring) : StringStep r u := ⟨fun h => charge ▸ h, fun h => h.elim (absurd · h1) (absurd · h2)⟩

theorem StringStep.trans {r u v : StringRec} (h : StringStep r u) (k : StringStep u v) : StringStep r v :=
  ⟨k.charge ∘ h.charge, h.serving ∘ k.serving⟩

/-- Two lists of one length whose entries are related, each with the one at its place. -/
inductive Itemwise {α β : Type} (R : α → β → Prop) : List α → List β → Prop where
  | nil : Itemwise R [] []
  | cons {a : α} {b : β} {l : List α} {m : List β} (head : R a b) (tail : Itemwise R l m) : Itemwise R (a :: l) (b :: m)

theorem Itemwise.refl {α : Type} {R : α → α → Prop} (refl : ∀ a, R a a) : ∀ l : List α, Itemwise R l l
  | [] => .nil
  | a :: l => .cons (refl a) (Itemwise.refl refl l)

theorem Itemwise.length_eq {α β : Type} {R : α → β → Prop} {l : List α} {m : List β} (h : Itemwise R l m) :
    l.length = m.length := by
  induction h with
  | nil => rfl
  | cons _ _ ih => exact congrArg (· + 1) ih

theorem Itemwise.getElem {α β : Type} {R : α → β → Prop} {l : List α} {m : List β} (h : Itemwise R l m) {i : Nat} {a : α} {b : β}
    (ha : l[i]? = some a) (hb : m[i]? = some b) : R a b := by
  induction h generalizing i with
  | nil => nomatch ha
  | cons head _ ih =>
    cases i with
    | zero =>
      cases ha
      cases hb
      exact head
    | succ i => exact ih ha hb

theorem Itemwise.imp {α β : Type} {R S : α → β → Prop} {l : List α} {m : List β} (h : Itemwise R l m)
    (step : ∀ a b, R a b → S a b) : Itemwise S l m := by
  induction h with
  | nil => exact .nil
  | cons head _ ih => exact .cons (step _ _ head) ih

/-- The strings after one of them has changed. -/
theorem itemwise_modify {α : Type} {R : α → α → Prop} (refl : ∀ a, R a a) {f : α → α} :
    ∀ {l : List α} {i : Nat}, (∀ a, l[i]? = some a → R a (f a)) → Itemwise R l (l.modify i f)
  | [], 0, _ => .nil
  | [], _ + 1, _ => .nil
  | a :: l, 0, h => .cons (h a rfl) (.refl refl l)
  | a :: _, i + 1, h => .cons (refl a) (itemwise_modify refl (i := i) h)

/-- The entries after each has changed at its index. -/
theorem itemwise_mapIdx {α : Type} {R : α → α → Prop} {l : List α} {f : Nat → α → α} (h : ∀ i a, R a (f i a)) :
    Itemwise R l (l.mapIdx f) := by
  induction l generalizing f with
  | nil => exact .nil
  | cons a l ih =>
    rw [List.mapIdx_cons]
    exact .cons (h 0 a) (ih fun i b => h (i + 1) b)

theorem itemwise_map {α : Type} {R : α → α → Prop} {l : List α} {f : α → α} (h : ∀ a, R a (f a)) :
    Itemwise R l (l.map f) := by
  induction l with
  | nil => exact .nil
  | cons a l ih => exact .cons (h a) ih

/-! ### The charge record (R47 to R56) -/

theorem ChargeRec.withQ_ok (r : ChargeRec) (q : Int) : ChargeOk (r.withQ q) := by
  refine ⟨?_, rfl⟩
  show (clampInt 0 r.qCap q).toNat ≤ r.qCap
  unfold clampInt
  split
  · omega
  · split <;> omega

theorem ChargeRec.sample_ok (r : ChargeRec) (current : Int) (interval : Nat) (trim : Int) :
    ChargeOk (r.sample current interval trim) := by
  have held : ∀ x : ChargeRec, ChargeOk (x.trimmed trim) := fun x => x.withQ_ok _
  unfold ChargeRec.sample
  dsimp only
  split
  · exact held _
  · exact r.withQ_ok _

theorem ChargeRec.calibrated_ok (r : ChargeRec) (full : Bool) (now : PartTime) : ChargeOk (r.calibrated full now) := by
  cases full
  · exact ⟨Nat.zero_le _, rfl⟩
  · exact ⟨Nat.le_refl _, rfl⟩

theorem ChargeRec.recapped_ok (r : ChargeRec) (capacityAh : Nat) : ChargeOk (r.recapped capacityAh) :=
  ⟨Nat.min_le_right _ _, rfl⟩

/-! ### The conditions of the operations below the fire stages -/

/-- The pieces that no guard reads. -/
def quietParts : List Part :=
  [.rounds, .modules, .cellsHold, .limits, .gate, .grid, .nodes, .fieldPort, .stationPort, .notices, .flags, .lines,
   .supply, .counters, .choices]

/-- `P` is kept by the changes that the operations below the fire stages are made of. -/
structure Steady (P : State → Prop) : Prop where
  quiet : Closed quietParts P
  evaluate : ∀ {s : State}, P s → P s.evaluate
  setConn : ∀ {s : State} {x : ConnRec}, ConnStep s x → P s → P (s.setConn x)
  setStrings : ∀ {s : State} {x : List StringRec}, Itemwise StringStep s.strings x → P s → P (s.setStrings x)
  setThermal : ∀ {s : State} {x : Thermal}, x.command = s.thermal.command → P s → P (s.setThermal x)
  recordCoolant : ∀ {s : State} {m : CoolantMaking} {o : CommandOutcome}, (s.anyConfirmed = true → m.fan = 0) → P s →
    P (s.recordCoolant m o)

namespace Steady

variable {P : State → Prop} {s : State}

theorem raise (h : Steady P) {k : NoticeKind} {x : Option Nat} (hs : P s) : P (s.raise k x) :=
  h.quiet.raise (by decide) hs

theorem latch (h : Steady P) {f : Flag} (hs : P s) : P (s.latch f) := h.quiet.latch (by decide) hs

theorem count (h : Steady P) {f : Counters → Counters} (hs : P s) : P (s.count f) := h.quiet.count (by decide) hs

/-! ### The Gate (R87 to R96) -/

theorem makeFrame (h : Steady P) {type : FrameType} (hs : P s) : P (s.makeFrame type) := by
  unfold State.makeFrame
  dsimp only
  split
  · exact h.count (h.evaluate hs)
  · exact h.quiet.placeDispatch (by decide) (h.evaluate hs)

theorem correct (h : Steady P) (hs : P s) : P s.correct := keeps_ite (h.raise (h.makeFrame hs)) (h.makeFrame hs)

theorem changeEval (h : Steady P) (hs : P s) : P s.changeEval :=
  keeps_ite (h.correct (h.evaluate hs)) (h.evaluate hs)

theorem holdForEStop (h : Steady P) (hs : P s) : P s.holdForEStop := by
  have held : P ((s.setGate { s.gate with state := .held, heldCause := some .eStop }).raise .gateHeld none) :=
    h.raise (h.quiet.setGate (by decide) hs)
  exact keeps_ite (h.quiet.setGate (by decide) hs) (keeps_ite (h.correct held) held)

theorem takeDispatch (h : Steady P) {dest : Nat} {o : DispatchOrder} (hs : P s) : P (s.takeDispatch dest o) :=
  keeps_ite (h.quiet.placeResult (by decide) (h.quiet.placeDispatch (by decide)
    (h.evaluate (h.quiet.setGate (by decide) hs)))) (h.count hs)

theorem stationSilent (h : Steady P) (hs : P s) : P s.stationSilent :=
  keeps_ite (h.makeFrame (h.raise (h.quiet.setGate (by decide) (h.quiet.setGate (by decide) hs))))
    (h.quiet.setGate (by decide) hs)

theorem gateSample (h : Steady P) (hs : P s) : P s.gateSample := keeps_ite (h.makeFrame hs) hs

/-! ### The Connection Controller (R109 to R117) -/

/-- One change of the connection record to a new state, and the evaluation that it causes (R77). -/
theorem connTo (h : Steady P) {x : ConnRec} {c : ConnState} (step : ConnStep s { x with state := c }) (hs : P s) :
    P ((s.setConn x).connTo c) :=
  h.changeEval (h.setConn (s := s) (x := { x with state := c }) step hs)

/-- A new connection state alone, and the evaluation that it causes (R77). -/
theorem stateTo (h : Steady P) {c : ConnState} (step : ConnStep s { s.conn with state := c }) (hs : P s) :
    P (s.connTo c) := h.changeEval (h.setConn step hs)

/-- One change of the connection record that latches flag LOCKOUT (R110). -/
theorem lockWith (h : Steady P) (s : State) (x : ConnRec) (step : ConnStep s x) (hs : P s) : P ((s.setConn x).latch .lockout) :=
  h.latch (h.setConn step hs)

end Steady

/-- The history with an entry more, after pruning (R113). -/
def State.historyWith (s : State) (c : TripCause) : List Trip := s.prunedHistory ++ [⟨s.time, c⟩]

/-- The connection record that a trip leaves: its cause and entry, the lockout and target of the rule, and the pulse on
TRIP_OUT (R110, R112). -/
def State.trippedConn (s : State) (c : TripCause) : ConnRec :=
  let history := s.historyWith c
  let locked := c.locks || decide (s.tables.t9.tripLimit ≤ history.length)
  { s.conn with
    state := .opening, tripCause := some c, target := some (if locked then .openLocked else .openWait)
    lockout := if locked then s.conn.lockout.combine (if c.locks then c.lockout else .history) else s.conn.lockout
    history, reconnectEnd := none, closeOut := none
    tripOut := some (s.after s.tables.t9.tripPulse), breakerEnd := some (s.after s.tables.t9.openTimeout) }

/-- A trip is one change of the connection record, counted, noticed and evaluated, with flag LOCKOUT where the record's
target is OPEN_LOCKED (R110). -/
theorem State.tripOpen_eq (s : State) (c : TripCause) :
    s.tripOpen c =
      (let t := (s.setConn (s.trippedConn c)).count fun k => { k with trips := inc16 k.trips }
       ((if c.locks || decide (s.tables.t9.tripLimit ≤ (s.trippedConn c).history.length) then t.latch .lockout
         else t).raise .connectionTripped c.subject).changeEval) := by
  have full : (s.recordTrip c).historyFull =
    decide (s.tables.t9.tripLimit ≤ (s.trippedConn c).history.length) := rfl
  have tripped : (s.trippedConn c).history = s.historyWith c := rfl
  unfold State.tripOpen
  simp only [full]
  by_cases hl : (c.locks || decide (s.tables.t9.tripLimit ≤ (s.trippedConn c).history.length)) = true
  · simp only [hl, if_true]
    rw [tripped] at hl
    simp only [State.trippedConn, hl, if_true]
    rfl
  · simp only [hl, if_false, Bool.false_eq_true]
    rw [tripped] at hl
    simp only [State.trippedConn, hl, if_false, Bool.false_eq_true]
    rfl

theorem TripCause.lockout_ne_none {c : TripCause} (h : c.locks = true) : c.lockout ≠ .none := by
  simpa [TripCause.locks] using h

/-- A trip from a connection that is not locked out locks it out exactly where the cause locks or fills the history. -/
theorem connStep_trippedConn {s : State} {c : TripCause} (before : LockoutOk s.conn → ¬s.conn.lockedOut) :
    ConnStep s (s.trippedConn c) := by
  have pulses : PulsesOk (s.trippedConn c) := .inr rfl
  by_cases hl : (c.locks || decide (s.tables.t9.tripLimit ≤ (s.historyWith c).length)) = true
  · refine .of_locked (.inr ⟨rfl, ?_⟩) (fun _ => ?_) fun _ => pulses
    · simp only [State.trippedConn, hl, if_true]
    · simp only [State.trippedConn, hl, if_true]
      apply Lockout.combine_ne_none
      split
      · exact TripCause.lockout_ne_none ‹_›
      · decide
  · refine ⟨fun ok h => absurd h (before ok), fun full => ?_, fun _ h => ?_, fun _ => pulses⟩
    · simp only [Bool.or_eq_true, decide_eq_true_eq, not_or] at hl
      exact absurd full hl.2
    · rcases h with h | ⟨-, h⟩
      · nomatch h
      · simp only [State.trippedConn, hl, if_false, Bool.false_eq_true] at h
        nomatch h

/-- The connection record that an opening without command leaves (R114). -/
def State.externalConn (s : State) : ConnRec :=
  let history := s.historyWith .external
  let full := decide (s.tables.t9.tripLimit ≤ history.length)
  { s.conn with
    state := if full then .openLocked else .openWait
    lockout := if full then s.conn.lockout.combine .history else s.conn.lockout
    history }

/-- An opening without command is one change of the connection record, counted, noticed and evaluated (R114). -/
theorem State.externalOpen_eq (s : State) :
    s.externalOpen =
      (let t := (s.setConn s.externalConn).count fun k => { k with trips := inc16 k.trips }
       ((if decide (s.tables.t9.tripLimit ≤ s.externalConn.history.length) then t.latch .lockout else t).raise
         .connectionTripped none).changeEval) := by
  have full : (s.recordTrip .external).historyFull =
    decide (s.tables.t9.tripLimit ≤ s.externalConn.history.length) := rfl
  have entry : s.externalConn.history = s.historyWith .external := rfl
  unfold State.externalOpen
  simp only [full, State.raise_eq]
  by_cases hl : decide (s.tables.t9.tripLimit ≤ s.externalConn.history.length) = true
  · simp only [hl, if_true]
    rw [entry] at hl
    simp only [State.externalConn, hl, if_true]
    rfl
  · simp only [hl, if_false, Bool.false_eq_true]
    rw [entry] at hl
    simp only [State.externalConn, hl, if_false, Bool.false_eq_true]
    rfl

theorem connStep_externalConn {s : State} (before : ¬s.conn.lockedOut) : ConnStep s s.externalConn := by
  have pulses : PulsesOk s.conn → PulsesOk s.externalConn := fun h => h
  by_cases hl : decide (s.tables.t9.tripLimit ≤ (s.historyWith .external).length) = true
  · refine .of_locked (.inl ?_) (fun _ => ?_) pulses
    · simp only [State.externalConn, hl, if_true]
    · simp only [State.externalConn, hl, if_true]
      exact Lockout.combine_ne_none _ (by decide)
  · have state : s.externalConn.state = .openWait := by
      simp only [State.externalConn, hl, if_false, Bool.false_eq_true]
    refine ⟨fun _ h => absurd h before, fun full => ?_, fun _ h => ?_, pulses⟩
    · exact absurd (decide_eq_true full) hl
    · exact absurd h (ConnRec.not_lockedOut_of state)

namespace Steady

variable {P : State → Prop} {s : State}

theorem tripOpen (h : Steady P) {c : TripCause} (before : LockoutOk s.conn → ¬s.conn.lockedOut) (hs : P s) :
    P (s.tripOpen c) := by
  rw [State.tripOpen_eq]
  have counted : P _ := h.count (f := fun k => { k with trips := inc16 k.trips })
    (h.setConn (connStep_trippedConn (c := c) before) hs)
  exact h.changeEval (h.raise (keeps_ite (h.latch counted) counted))

theorem stopReconnect (h : Steady P) (timing : s.conn.state = .reconnectTiming) (hs : P s) : P s.stopReconnect :=
  h.connTo (.of_open (fun _ => ConnRec.not_lockedOut_of timing)
    (ConnRec.not_lockedOut_of (x := .openWait) rfl) rfl id) hs

theorem trip (h : Steady P) {c : TripCause} (hs : P s) : P (s.trip c) := by
  have combined : ∀ l : Lockout, c.locks = true → l.combine c.lockout ≠ .none := fun l hc =>
    Lockout.combine_ne_none l (TripCause.lockout_ne_none hc)
  unfold State.trip
  split
  case h_1 state | h_2 state | h_3 state =>
    exact h.tripOpen (fun _ => ConnRec.not_lockedOut_of state) hs
  case h_4 state =>
    split
    · rename_i hc
      exact h.lockWith s { s.conn with target := some .openLocked, lockout := s.conn.lockout.combine c.lockout }
        (.of_locked (.inr ⟨state, rfl⟩) (fun _ => combined _ hc) id) hs
    · exact hs
  case h_5 =>
    split
    · rename_i hc
      exact h.changeEval (h.lockWith s
        { s.conn with state := .openLocked, lockout := s.conn.lockout.combine c.lockout }
        (.of_locked (.inl rfl) (fun _ => combined _ hc) id) hs)
    · exact hs
  case h_6 state =>
    split
    · rename_i hc
      exact h.changeEval (h.lockWith s
        { s.conn with state := .openLocked, reconnectEnd := none, lockout := s.conn.lockout.combine c.lockout }
        (.of_locked (.inl rfl) (fun _ => combined _ hc) id) hs)
    · exact h.stopReconnect state hs
  case h_7 state =>
    split
    · rename_i hc
      simp only [Bool.and_eq_true] at hc
      exact h.setConn (.of_locked (.inl state) (fun _ => TripCause.lockout_ne_none hc.1) id) hs
    · exact hs

theorem followStages (h : Steady P) (hs : P s) : P s.followStages := by
  unfold State.followStages
  split
  case h_1 state =>
    exact keeps_ite (h.changeEval (h.raise (h.count (h.setConn
      (.of_open (fun _ => ConnRec.not_lockedOut_of state) (ConnRec.not_lockedOut_of (x := .rideThrough) rfl) rfl id)
      hs)))) hs
  case h_2 state =>
    exact keeps_ite hs (h.stateTo
      (.of_open (fun _ => ConnRec.not_lockedOut_of state) (ConnRec.not_lockedOut_of (x := .connected) rfl) rfl id) hs)
  all_goals exact hs

theorem closedState_not_lockedOut (t : State) : ¬ConnRec.lockedOut { t.conn with state := t.closedState } := by
  unfold State.closedState
  split
  · exact ConnRec.not_lockedOut_of (x := .rideThrough) rfl
  · exact ConnRec.not_lockedOut_of (x := .connected) rfl

theorem takeClosed (h : Steady P) (before : LockoutOk s.conn → ¬s.conn.lockedOut) (hs : P s) : P s.takeClosed := by
  have taken : ∀ {t : State}, P t → t.conn = s.conn → P (t.connTo t.closedState) := fun ht same =>
    h.stateTo (.of_open (same ▸ before) (closedState_not_lockedOut _) rfl id) ht
  unfold State.takeClosed
  dsimp only
  split
  · exact taken (h.count hs) rfl
  · exact taken hs rfl

theorem reconnectSample (h : Steady P) (hs : P s) : P s.reconnectSample := by
  unfold State.reconnectSample
  dsimp only
  split
  case h_1 state =>
    exact keeps_ite (h.connTo (.of_open (fun _ => ConnRec.not_lockedOut_of state)
      (ConnRec.not_lockedOut_of (x := .reconnectTiming) rfl) rfl id) hs) hs
  case h_2 state => exact keeps_ite hs (h.stopReconnect state hs)
  all_goals exact hs

theorem watchReconnect (h : Steady P) (hs : P s) : P s.watchReconnect := by
  unfold State.watchReconnect
  split
  · rename_i timing
    simp only [Bool.and_eq_true, beq_iff_eq] at timing
    exact h.stopReconnect timing.1 hs
  · exact hs

theorem beginClose (h : Steady P) (timing : s.conn.state = .reconnectTiming) (hs : P s) : P s.beginClose :=
  h.connTo (.of_open (fun _ => ConnRec.not_lockedOut_of timing) (ConnRec.not_lockedOut_of (x := .closing) rfl) rfl
    fun _ => .inl rfl) hs

theorem pulseTrip (h : Steady P) (hs : P s) : P s.pulseTrip :=
  h.setConn ⟨fun _ h => h, .inr, fun h => h, fun _ => .inr rfl⟩ hs

theorem externalOpen (h : Steady P) (before : ¬s.conn.lockedOut) (hs : P s) : P s.externalOpen := by
  rw [State.externalOpen_eq]
  have counted : P _ := h.count (f := fun k => { k with trips := inc16 k.trips })
    (h.setConn (connStep_externalConn before) hs)
  exact h.changeEval (h.raise (keeps_ite (h.latch counted) counted))

theorem openedAsTold (h : Steady P) (opening : s.conn.state = .opening) (hs : P s) : P s.openedAsTold := by
  unfold State.openedAsTold
  dsimp only
  split
  · rename_i told
    have locked : s.conn.lockedOut := .inr ⟨opening, beq_iff_eq.mp told⟩
    exact h.connTo (.of_locked (.inl rfl) (fun ok => ok locked) id) hs
  · rename_i told
    have before : ¬s.conn.lockedOut := by
      rintro (state | ⟨-, target⟩)
      · exact absurd (opening.symm.trans state) (by decide)
      · exact told (beq_iff_eq.mpr target)
    exact h.connTo (.of_open (fun _ => before) (ConnRec.not_lockedOut_of (x := .openWait) rfl) rfl id) hs

@[simp] theorem raise_conn (s : State) (k : NoticeKind) (x : Option Nat) : (s.raise k x).conn = s.conn := by
  rw [State.raise_eq]
  rfl

theorem closedAsTold (h : Steady P) (closing : s.conn.state = .closing) (hs : P s) : P s.closedAsTold := by
  refine h.takeClosed (fun _ => ?_) (h.raise (h.setConn (.of_open (fun _ => ConnRec.not_lockedOut_of closing)
    (ConnRec.not_lockedOut_of closing) rfl id) hs))
  rw [raise_conn]
  exact ConnRec.not_lockedOut_of closing

theorem openTimedOut (h : Steady P) (hs : P s) : P s.openTimedOut := by
  have noticed : P _ := h.raise (k := .breakerFail) (x := none) (h.latch (f := .breakerFail) hs)
  exact h.changeEval (h.lockWith ((s.latch .breakerFail).raise .breakerFail none)
    { ((s.latch .breakerFail).raise .breakerFail none).conn with
      state := .openLocked, breakerEnd := none, tripCause := none, target := none
      lockout := ((s.latch .breakerFail).raise .breakerFail none).conn.lockout.breakerFailed }
    (.of_locked (.inl rfl) (fun _ => Lockout.breakerFailed_ne_none _) id) noticed)

theorem closeTimedOut (h : Steady P) (hs : P s) : P s.closeTimedOut := by
  have noticed : P _ := h.raise (k := .breakerFail) (x := none) (h.latch (f := .breakerFail) hs)
  exact h.changeEval (h.lockWith ((s.latch .breakerFail).raise .breakerFail none)
    { ((s.latch .breakerFail).raise .breakerFail none).conn with
      state := .openLocked, closeOut := none, breakerEnd := none, lockout := .breakerFail
      tripOut := some (((s.latch .breakerFail).raise .breakerFail none).after
        ((s.latch .breakerFail).raise .breakerFail none).tables.t9.tripPulse) }
    (.of_locked (.inl rfl) (fun _ => Lockout.noConfusion) fun _ => .inr rfl) noticed)

theorem disconnect (h : Steady P) (hs : P s) : P s.disconnect := by
  have asked : P (s.setConn { s.conn with request := .disconnect }) :=
    h.setConn (.of_same rfl rfl rfl rfl (.inl rfl) (.inl rfl)) hs
  unfold State.disconnect
  dsimp only
  split
  case h_1 | h_2 | h_3 => exact h.trip asked
  case h_4 state => exact h.stopReconnect state asked
  all_goals exact asked

theorem historyTick (h : Steady P) (hs : P s) : P s.historyTick :=
  h.setConn ⟨fun _ h => h, fun full => .inr (Nat.le_trans full (List.length_filter_le _ _)), fun h => h, id⟩ hs

theorem stageActs (h : Steady P) {i : Nat} (hs : P s) : P (s.stageActs i) := by
  unfold State.stageActs
  split
  · exact h.trip hs
  · exact h.raise hs

theorem forEach (_ : Steady P) {is : List Nat} {f : Nat → State → State} (hf : ∀ i s, P s → P (f i s)) (hs : P s) :
    P (s.forEach is f) := keeps_foldl (fun s i => hf i s) hs

theorem evaluateStages (h : Steady P) (hs : P s) : P s.evaluateStages := by
  have evaluated : P (s.forEach (List.range 8) State.evaluateStage) :=
    h.forEach (fun _ _ hs => h.quiet.evaluateStage (by decide) hs) hs
  unfold State.evaluateStages
  exact h.followStages (h.forEach (fun _ _ => h.stageActs) evaluated)

theorem handSample (h : Steady P) {b : Bool} (hs : P s) : P (s.handSample b) :=
  keeps_ite (h.reconnectSample (h.evaluateStages (h.gateSample hs)))
    (h.reconnectSample (h.gateSample (h.evaluateStages hs)))

theorem gridSampleWith (h : Steady P) {x : GridSample} {b : Bool} (hs : P s) : P (s.gridSampleWith x b) := by
  unfold State.gridSampleWith
  split
  · exact h.count hs
  · exact h.handSample (h.quiet.setGrid (by decide) (h.count hs))
  · exact h.handSample (h.quiet.setGrid (by decide) hs)

theorem takeGridSample (h : Steady P) {x : GridSample} (hs : P s) : P (s.takeGridSample x) :=
  h.gridSampleWith (h.quiet.setChoices (by decide) hs)

theorem stageDelayOver (h : Steady P) {i : Nat} (hs : P s) : P (s.stageDelayOver i) :=
  h.stageActs (h.quiet.modStage (by decide) hs)

theorem meterSilent (h : Steady P) (hs : P s) : P s.meterSilent := h.trip (h.quiet.setGrid (by decide) hs)

theorem clearStages (h : Steady P) {stages : List Nat} (hs : P s) : P (s.clearStages stages) :=
  h.followStages (h.forEach (fun _ _ hs => h.quiet.modStage (by decide) hs) hs)

theorem overshot (h : Steady P) (hs : P s) : P s.overshot :=
  h.trip (h.raise (h.latch (h.quiet.setGate (by decide) hs)))

/-! ### The strings (R28 to R35, R44 to R56) -/

theorem modString (h : Steady P) {i : Nat} {f : StringRec → StringRec}
    (hf : ∀ r, s.strings[i]? = some r → StringStep r (f r)) (hs : P s) : P (s.modString i f) :=
  h.setStrings (itemwise_modify StringStep.refl hf) hs

theorem modCharge (h : Steady P) {i : Nat} {f : ChargeRec → ChargeRec} (hf : ∀ r, ChargeOk r → ChargeOk (f r))
    (hs : P s) : P (s.modCharge i f) := h.modString (fun r _ => ⟨hf r.charge, id⟩) hs

theorem uncalibrate (h : Steady P) {i : Nat} (hs : P s) : P (s.uncalibrate i) :=
  keeps_ite hs (h.raise (h.modCharge (fun _ hr => hr) hs))

theorem countReport (h : Steady P) {i : Nat} {x : StringReport} (hs : P s) : P (s.countReport i x) := by
  unfold State.countReport
  dsimp only
  split
  · exact hs
  · exact h.modCharge (fun r _ => r.sample_ok _ _ _) hs
  · exact h.modCharge (fun _ _ => ChargeRec.sample_ok _ _ _ _) hs
  · exact h.uncalibrate (h.modCharge (fun r _ => r.sample_ok _ _ _) hs)

theorem calibrate (h : Steady P) {i : Nat} {x : QuietExtremes} (hs : P s) : P (s.calibrate i x) := by
  unfold State.calibrate
  dsimp only
  apply h.modCharge (f := fun r => r.rearmed s.params x) (fun _ hr => hr)
  split
  · exact h.raise hs
  · exact h.raise (h.modCharge (fun r _ => r.calibrated_ok _ _) hs)
  · exact h.raise (h.modCharge (fun r _ => r.calibrated_ok _ _) hs)
  · exact hs

theorem stringsLoaded (h : Steady P) {old : State} (hs : P s) : P (s.stringsLoaded old) := by
  refine h.forEach (fun i s hs => h.uncalibrate (h.modCharge (fun r _ => r.recapped_ok _) hs)) ?_
  have left : P _ := h.forEach
    (is := (List.range 48).filter fun m => old.moduleInUse m && !s.moduleInUse m)
    (f := fun m s => s.modModule m fun r => { r with history := [] })
    (fun _ _ hs => h.quiet.modModule (by decide) hs) hs
  exact keeps_ite left (h.quiet.clearMasks (by decide) left)

theorem stringMoved (h : Steady P) {i : Nat} {old : StringState} (hs : P s) : P (s.stringMoved i old) := by
  have masked : P (if clearsMasks old (s.stringAt i).state then s.clearStringMasks i else s) :=
    keeps_ite (h.quiet.clearStringMasks (by decide) hs) hs
  exact keeps_ite (h.trip (h.changeEval masked)) (h.changeEval masked)

theorem contactorCommand (h : Steady P) {i : Nat} {close : Bool} (hs : P s) : P (s.contactorCommand i close) :=
  h.quiet.contactorCommand (by decide) hs

theorem isolate (h : Steady P) {i : Nat} {cause : Option IsolationCause} {notice : Option NoticeKind} (hs : P s) :
    P (s.isolate i cause notice) := by
  have isolating : P ((s.contactorCommand i false).modString i fun r =>
      { r with state := .isolating, cause, pendingCause := none
               timer := some (s.contactorCommand i false).contactorEnd }) :=
    h.modString (fun _ _ => .of_state rfl StringState.noConfusion StringState.noConfusion) (h.contactorCommand hs)
  cases notice with
  | none => exact h.stringMoved isolating
  | some k => exact h.stringMoved (h.raise isolating)

theorem raiseCause (h : Steady P) {i : Nat} {c : IsolationCause} (hs : P s) : P (s.raiseCause i c) := by
  unfold State.raiseCause
  dsimp only
  split
  · exact keeps_ite (h.modString (fun _ _ => .of_same rfl rfl) hs) hs
  · exact h.isolate hs
  · exact h.isolate hs
  · exact keeps_ite (h.modString (fun _ _ => .of_same rfl rfl) hs) hs
  · exact keeps_ite (h.stringMoved (h.modString
      (fun _ _ => .of_state rfl StringState.noConfusion StringState.noConfusion) hs)) hs
  · exact hs
  · exact hs

theorem monitorSilent (h : Steady P) {i : Nat} (hs : P s) : P (s.monitorSilent i) := by
  unfold State.monitorSilent
  split
  all_goals first | exact h.raiseCause hs | exact h.raiseCause (h.contactorCommand hs)

theorem contactorOpened (h : Steady P) {i : Nat} (hs : P s) : P (s.contactorOpened i) := by
  refine h.stringMoved (h.raise (h.modString (fun r _ => ?_) hs))
  split
  · exact .of_state rfl StringState.noConfusion StringState.noConfusion
  · split <;> exact .of_state rfl StringState.noConfusion StringState.noConfusion

theorem contactorTimedOut (h : Steady P) {i : Nat} (hs : P s) : P (s.contactorTimedOut i) := by
  have stopped : P (s.modString i fun r => { r with timer := none }) := h.modString (fun _ _ => .of_same rfl rfl) hs
  unfold State.contactorTimedOut
  split
  · exact keeps_ite (h.stringMoved (h.raise (h.latch (h.modString
      (fun _ _ => .of_state rfl StringState.noConfusion StringState.noConfusion) hs)))) stopped
  · exact h.stringMoved (h.raise (h.modString
      (fun _ _ => .of_state rfl StringState.noConfusion StringState.noConfusion) hs))
  all_goals exact stopped

theorem resetString (h : Steady P) {i : Nat} (hs : P s) : P (s.resetString i) :=
  h.stringMoved (h.modString (fun _ _ => .of_state rfl StringState.noConfusion StringState.noConfusion)
    (h.quiet.zeroHardCounts (by decide) hs))

/-! ### The Thermal Controller (R121 to R131) -/

/-- While a zone is fire-confirmed a making has fan code 0 (R125). -/
theorem coolantMaking_fan {s : State} (h : s.anyConfirmed = true) : s.coolantMaking.fan = 0 := by
  simp [State.coolantMaking, h]

theorem makeCoolant (h : Steady P) {urgent : Bool} (hs : P s) : P (s.makeCoolant urgent) := by
  have fan : s.anyConfirmed = true → s.coolantMaking.fan = 0 := coolantMaking_fan
  have fanNormal : ∀ p, (s.placeNormal p).anyConfirmed = true → s.coolantMaking.fan = 0 := fun p hc => by
    have same : (s.placeNormal p).fire = s.fire := placeNormal_frame s p .fire (by decide)
    rw [State.anyConfirmed, same] at hc
    exact fan hc
  unfold State.makeCoolant
  dsimp only
  split
  · exact h.count (h.recordCoolant fan hs)
  · split
    · exact h.recordCoolant fan (h.quiet.placeUrgent (by decide) rfl hs)
    · split
      · exact h.recordCoolant (fanNormal _) (h.quiet.placeNormal (by decide) hs)
      · exact h.count (h.recordCoolant (fanNormal _) (h.quiet.placeNormal (by decide) hs))

theorem thermalClose (h : Steady P) (hs : P s) : P s.thermalClose := h.makeCoolant (h.setThermal rfl hs)

theorem coolantTo (h : Steady P) {c : CoolantState} (hs : P s) : P (s.coolantTo c) := by
  have changed : P (s.setThermal { s.thermal with coolant := c }) := h.setThermal rfl hs
  refine keeps_ite hs (h.makeCoolant (h.changeEval ?_))
  cases c with
  | ok => exact h.raise changed
  | degraded => exact h.raise changed
  | lost => exact h.raise (h.latch changed)

theorem takeCoolantStatus (h : Steady P) {x : CoolantStatus} (hs : P s) : P (s.takeCoolantStatus x) :=
  h.quiet.relatchCoolant (by decide) (h.coolantTo (h.setThermal rfl hs))

theorem handStage (h : Steady P) {urgent : Bool} (hs : P s) : P (s.handStage urgent) := h.makeCoolant (h.changeEval hs)

theorem handFall (h : Steady P) {z : Nat} (hs : P s) : P (s.handFall z) := h.handStage (h.raise hs)

/-! ### The supply and the emergency stop (R176, R177) -/

theorem enterHoldup (h : Steady P) (hs : P s) : P s.enterHoldup := by
  have noticed : P ((s.setSupply { s.supply with mode := .holdup, restoreEnd := none }).raise .supplyHoldup none) :=
    h.raise (h.quiet.setSupply (by decide) hs)
  have seen : P _ := h.quiet.roundSeesHoldup (by decide) noticed
  unfold State.enterHoldup
  exact h.makeCoolant (h.quiet.clearAllMasks (by decide) seen)

theorem enterNormal (h : Steady P) (hs : P s) : P s.enterNormal :=
  h.makeCoolant (h.raise (h.quiet.setSupply (by decide) hs))

theorem holdupLowBegins (h : Steady P) (hs : P s) : P s.holdupLowBegins :=
  h.makeCoolant (h.raise (h.latch (h.quiet.setSupply (by decide) hs)))

theorem holdupLowEnds (h : Steady P) (hs : P s) : P s.holdupLowEnds :=
  h.makeCoolant (h.raise (h.quiet.setSupply (by decide) hs))

theorem eStopBegins (h : Steady P) {gateIsFirst : Bool} (hs : P s) : P (s.eStopBegins gateIsFirst) := by
  have held : P (if gateIsFirst then s.holdForEStop.changeEval else s.changeEval.holdForEStop) :=
    keeps_ite (h.changeEval (h.holdForEStop hs)) (h.holdForEStop (h.changeEval hs))
  unfold State.eStopBegins
  exact h.trip (h.forEach (fun _ _ => h.raiseCause) held)

theorem eStopLine (h : Steady P) (hs : P s) : P s.eStopLine := by
  unfold State.eStopLine State.chooseGate
  exact h.eStopBegins (h.quiet.setChoices (by decide) hs)

/-! ### The close, as far as the fire stages (R24) -/

theorem judgeStrings (h : Steady P) (hs : P s) : P s.judgeStrings := by
  refine h.quiet.setCellsHold (by decide) (h.setStrings (itemwise_mapIdx fun i r => ?_) hs)
  split
  · exact .of_same rfl rfl
  · exact .refl r

theorem raiseCloseCauses (h : Steady P) {c : CloseRecord} {i : Nat} (hs : P s) : P (s.raiseCloseCauses c i) := by
  have hard : P (if s.hardCells i then ((s.raise .cellHard (some i)).latch .cellHard).raiseCause i .cellHard else s) :=
    keeps_ite (h.raiseCause (h.latch (h.raise hs))) hs
  have hot : P _ := h.forEach (is := s.hotModules c i)
    (f := fun m s => ((s.raise .tempHard (some m)).latch .tempHard).raiseCause i .tempHard)
    (fun _ _ hs => h.raiseCause (h.latch (h.raise hs))) hard
  exact keeps_ite (h.raiseCause hot) hot

theorem evaluateClose (h : Steady P) {c : CloseRecord} (hs : P s) : P (s.evaluateClose c) :=
  h.quiet.bleedClose (by decide) (h.forEach (fun _ _ => h.raiseCloseCauses)
    (h.judgeStrings (h.quiet.judgeModules (by decide) hs)))

theorem calibrateAll (h : Steady P) {c : CloseRecord} (hs : P s) : P (s.calibrateAll c) := by
  refine keeps_ite (h.forEach (fun i s hs => ?_) hs) hs
  split
  · exact h.calibrate hs
  · exact hs

end Steady

end Sys2Proof.Machine
end

section
/-! The guarding blocks with the fire stages, the loads and the requests. `Guard` adds to `Steady` the changes that these
are made of; a condition that all of them keep is kept by every command. -/

namespace Sys2Proof.Machine

/-! ### One change of the fire zones (R143) -/

/-- What a change of a zone keeps: its timers in the stages that they belong to, and a stage that is not
fire-confirmed. -/
structure ZoneStep (z u : FireZone) : Prop where
  ok : FireZoneOk z → FireZoneOk u
  confirmed : FireZoneOk z → u.stage.confirmed = true → z.stage.confirmed = true

/-- Whether RELEASE_OUT follows the RELEASED zones (R148). -/
def FireUnit.releaseFollows (f : FireUnit) : Prop := f.releaseOut = f.zones.any (·.stage == .released)

/-- What a change of the Fire Supervisor's record keeps. -/
structure FireStep (f x : FireUnit) : Prop where
  zones : Itemwise ZoneStep f.zones x.zones
  release : (∀ z ∈ f.zones, FireZoneOk z) → f.releaseFollows → x.releaseFollows

theorem ZoneStep.refl (z : FireZone) : ZoneStep z z := ⟨id, fun _ => id⟩

/-- A change of what is neither the stage nor a timer of a zone. -/
theorem ZoneStep.of_same {z u : FireZone} (stage : u.stage = z.stage) (clearTimer : u.clearTimer = z.clearTimer)
    (countdown : u.countdown = none ∨ u.countdown ≠ none ∧ z.countdown ≠ none) : ZoneStep z u where
  ok := fun ⟨clear, count⟩ => by
    refine ⟨by simpa only [stage, clearTimer] using clear, fun h => stage ▸ ?_⟩
    rcases countdown with gone | ⟨-, was⟩
    · exact absurd gone h
    · exact count was
  confirmed := fun _ h => stage ▸ h

/-- A change that leaves each zone RELEASED or not as it was, and RELEASE_OUT alone. -/
theorem FireStep.of_zones {f x : FireUnit} (out : x.releaseOut = f.releaseOut)
    (zones : Itemwise (fun z u => ZoneStep z u ∧ (FireZoneOk z → (u.stage = .released ↔ z.stage = .released)))
      f.zones x.zones) : FireStep f x where
  zones := zones.imp fun _ _ h => h.1
  release := fun ok follows => by
    rw [FireUnit.releaseFollows, out, follows]
    clear follows out
    obtain ⟨_, zs, _, _⟩ := f
    obtain ⟨_, us, _, _⟩ := x
    dsimp only at ok zones ⊢
    revert ok
    induction zones with
    | nil => exact fun _ => rfl
    | cons hd _ ih =>
      intro ok
      have head : ∀ a b : FireStage, (b = .released ↔ a = .released) → (a == .released) = (b == .released) := by
        intro a b
        cases a <;> cases b <;> decide
      simp only [List.any_cons, head _ _ (hd.2 (ok _ List.mem_cons_self)),
        ih fun z hz => ok z (List.mem_cons_of_mem _ hz)]

/-- A change of one zone that leaves it RELEASED or not as it was. -/
theorem FireStep.of_modify {f : FireUnit} {i : Nat} {g : FireZone → FireZone}
    (h : ∀ z, f.zones[i]? = some z → ZoneStep z (g z) ∧ (FireZoneOk z → ((g z).stage = .released ↔ z.stage = .released))) :
    FireStep f { f with zones := f.zones.modify i g } :=
  .of_zones rfl (itemwise_modify (fun z => ⟨.refl z, fun _ => Iff.rfl⟩) h)

/-- The detectors and the fire timer are no part of the guard. -/
theorem FireStep.of_same {f x : FireUnit} (zones : x.zones = f.zones) (out : x.releaseOut = f.releaseOut) : FireStep f x :=
  .of_zones out (zones ▸ .refl (fun z => ⟨.refl z, fun _ => Iff.rfl⟩) _)

/-- A zone that has just taken stage NORMAL, and RELEASE_OUT, which follows (R148, R149). -/
def State.fallen (s : State) (z : Nat) : State :=
  let t := s.modFireZone z fun r => { r with stage := .normal, clearTimer := none, countdown := none, fireTime := none }
  (if decide (0 < (s.fireZone z).stage.rank) then t.handFall z else t).followRelease

theorem State.resetFireZone_eq (s : State) (z : Nat) : s.resetFireZone z = (s.fallen z).evaluateZone z := rfl

/-! ### The conditions of every operation -/

/-- `P` is kept by `Steady`'s changes and by those of the zones that leave no new zone fire-confirmed. -/
structure Zoned (P : State → Prop) : Prop extends Steady P where
  setFire : ∀ {s : State} {x : FireUnit}, FireStep s.fire x → P s → P (s.setFire x)

/-- `P` is kept by the changes that the guarding blocks, the loads, the stores and the resets are made of. -/
structure Guard (P : State → Prop) : Prop extends Zoned P where
  setFieldPort : ∀ {s : State} x, P s → P (s.setFieldPort x)
  setStationPort : ∀ {s : State} x, P s → P (s.setStationPort x)
  setNotices : ∀ {s : State} x, P s → P (s.setNotices x)
  envelopeTimer : ∀ {s : State} x, P s → P (s.setEnvelope { s.envelope with timerEnd := x })
  enforceOpen : ∀ {s : State} {x : ConnRec}, (s.conn.lockout ≠ .none ∨ s.anyConfirmed = true) → x.lockedOut →
    x.lockout = s.conn.lockout → x.history = s.conn.history → x.closeOut = none → P s → P (s.setConn x)
  unlock : ∀ {s : State} {x : ConnRec}, s.anyConfirmed = false → ¬x.lockedOut → x.history = [] →
    (PulsesOk s.conn → PulsesOk x) → P s → P (s.setConn x)
  startServing : ∀ {s : State} {x : List StringRec}, s.anyConfirmed = false →
    Itemwise (fun r u => ChargeOk r.charge → ChargeOk u.charge) s.strings x → P s → P (s.setStrings x)
  reachFire : ∀ {s : State} {z : Nat}, z < 8 → (s.fireZone z).stage.confirmed = false → P s → P (s.reachFire z)
  fallen : ∀ {s : State} {z : Nat}, P s → P (s.fallen z)
  setConfig : ∀ {s : State} {x : ConfigStore}, x.tables.t9 = s.config.tables.t9 → P s → P (s.setConfig x)
  loadConnection : ∀ {s : State} {t : ConnectionSettings}, 1 ≤ t.tripLimit → P s →
    P (s.putTable (.t9 t)).truncateHistory
  setEngine : ∀ {s : State} {x : Engine}, x.store = s.engine.store → P s → P (s.setEngine x)
  beginStore : ∀ {s : State} {x : Engine} {w : StoreWrite}, x.store = some w → w.tables = s.tables →
    w.soc = s.strings.map (·.charge.soc) → P s → P (s.setEngine x)
  recordWritten : ∀ {s : State} {c : Bool}, P s → P (s.recordWritten c)
  beginReset : ∀ {s : State} b r, P s → P (s.beginReset b r)
  blocksAfterReset : ∀ {s : State} c found, P s → P (s.blocksAfterReset c found)

/-- The record of a zone read by its index is the entry at that index, if there is one. -/
theorem fireZone_of_getElem? {s : State} {z : Nat} {r : FireZone} (h : s.fire.zones[z]? = some r) :
    s.fireZone z = r := by
  simp [State.fireZone, h]

/-- A zone whose countdown runs out is RELEASED, and RELEASE_OUT with it (R147, R148). -/
theorem fireStep_released {f : FireUnit} {z : Nat} {r : FireZone} (hr : f.zones[z]? = some r)
    (counting : r.countdown ≠ none) :
    FireStep f { f with
      releaseOut := true
      zones := f.zones.modify z fun r => { r with stage := .released, countdown := none } } where
  zones := itemwise_modify ZoneStep.refl fun u hu => by
    obtain rfl := Option.some.inj (hr.symm.trans hu)
    refine ⟨fun ok => ⟨fun t ht => ?_, fun hc => absurd rfl hc⟩, fun ok _ => ok.2 counting⟩
    exact absurd (ok.2 counting) (by simp [(ok.1 t ht).1])
  release := fun _ _ => by
    refine (List.any_eq_true.mpr ⟨{ r with stage := .released, countdown := none }, ?_, rfl⟩).symm
    exact List.mem_of_getElem? (i := z) (by simp [hr])

theorem exists_of_countdown {s : State} {z : Nat} (h : (s.fireZone z).countdown ≠ none) :
    ∃ r, s.fire.zones[z]? = some r ∧ r.countdown ≠ none := by
  cases hr : s.fire.zones[z]? with
  | none => simp [State.fireZone, hr, FireZone.atReset] at h
  | some r => exact ⟨r, rfl, fireZone_of_getElem? hr ▸ h⟩

namespace Zoned

variable {P : State → Prop} {s : State}

theorem modFireZone (h : Zoned P) {z : Nat} {g : FireZone → FireZone}
    (hg : ∀ r, s.fire.zones[z]? = some r →
      ZoneStep r (g r) ∧ (FireZoneOk r → ((g r).stage = .released ↔ r.stage = .released))) (hs : P s) :
    P (s.modFireZone z g) := h.setFire (.of_modify hg) hs

theorem releaseZone (h : Zoned P) {z : Nat} (counting : (s.fireZone z).countdown ≠ none) (hs : P s) :
    P (s.releaseZone z) := by
  obtain ⟨r, hr, hc⟩ := exists_of_countdown counting
  have released : P _ := h.setFire (fireStep_released hr hc) hs
  exact h.handStage (h.latch (h.raise released))

/-- The pieces that what follows a stage change leaves alone, the fire zones among them. -/
theorem handStage_fire (s : State) (urgent : Bool) : (s.handStage urgent).fire = s.fire :=
  (closed_frame s [.envelope, .gate, .thermal, .fieldPort, .notices, .counters]).handStage (List.Subset.refl _)
    (State.changesOnly_refl s _) .fire (by decide)

@[simp] theorem raise_fire (s : State) (k : NoticeKind) (x : Option Nat) : (s.raise k x).fire = s.fire :=
  raise_frame s k x .fire (by decide)

/-- A zone in FIRE passes on toward its release (R147). -/
theorem startRelease (h : Zoned P) {z : Nat} (reached : (s.fireZone z).stage = .fire) (hs : P s) :
    P (s.startRelease z) := by
  have pending : ∀ c : Countdown, P (s.modFireZone z fun r => { r with stage := .releaseDelay, countdown := some c }) :=
    fun c => h.modFireZone (fun r hr => by
      rw [fireZone_of_getElem? hr] at reached
      refine ⟨⟨fun ok => ⟨fun t ht => ?_, fun _ => rfl⟩, fun _ _ => by simp [reached, FireStage.confirmed]⟩,
        fun _ => by simp [reached]⟩
      exact absurd (ok.1 t ht).1 (by simp [reached, FireStage.confirmed])) hs
  have counting : ∀ c : Countdown,
      ((((s.modFireZone z fun r => { r with stage := .releaseDelay, countdown := some c }).raise .fireReleasePending
        (some z)).handStage false).fireZone z).countdown ≠ none := fun c => by
    have inRange : z < s.fire.zones.length := by
      refine Nat.lt_of_not_le fun out => ?_
      simp [State.fireZone, List.getElem?_eq_none out, FireZone.atReset] at reached
    simp [State.fireZone, handStage_fire, State.modFireZone, inRange]
  unfold State.startRelease
  dsimp only
  split
  · have handed := fun c => h.handStage (urgent := false) (h.raise (k := .fireReleasePending) (x := some z) (pending c))
    exact keeps_ite (h.releaseZone (counting _) (handed _)) (handed _)
  · exact hs

end Zoned

namespace Guard

variable {P : State → Prop} {s : State}

theorem raise (h : Guard P) {k : NoticeKind} {x : Option Nat} (hs : P s) : P (s.raise k x) := h.toSteady.raise hs

theorem latch (h : Guard P) {f : Flag} (hs : P s) : P (s.latch f) := h.toSteady.latch hs

theorem count (h : Guard P) {f : Counters → Counters} (hs : P s) : P (s.count f) := h.toSteady.count hs

theorem forEach (_ : Guard P) {is : List Nat} {f : Nat → State → State} (hf : ∀ i ∈ is, ∀ s, P s → P (f i s))
    (hs : P s) : P (s.forEach is f) := by
  induction is generalizing s with
  | nil => exact hs
  | cons i is ih => exact ih (fun j hj => hf j (List.mem_cons_of_mem _ hj)) (hf i List.mem_cons_self s hs)

/-! ### The breaker (R114, R117, R119) -/

theorem found (h : Guard P) {byHand : Bool} (hs : P s) : P (s.foundClosed byHand) := by
  have stopped : P (s.setConn { s.conn with reconnectEnd := none }) :=
    h.setConn (.of_same rfl rfl rfl rfl (.inl rfl) (.inl rfl)) hs
  unfold State.foundClosed
  dsimp only
  split
  · rename_i against
    simp only [Bool.or_eq_true, bne_iff_ne] at against
    unfold State.enforceOpen
    exact h.changeEval (h.enforceOpen (s := s)
      (x := { s.conn with
        reconnectEnd := none, closeOut := none, tripOut := some (s.after s.tables.t9.tripPulse)
        breakerEnd := some (s.after s.tables.t9.openTimeout), target := some .openLocked, state := .opening
        tripCause := some (if s.anyConfirmed then .fire else .enforces s.conn.lockout) })
      against (.inr ⟨rfl, rfl⟩) rfl rfl rfl hs)
  · rename_i free
    simp only [Bool.or_eq_true, bne_iff_ne, not_or, Decidable.not_not] at free
    have before : LockoutOk (s.setConn { s.conn with reconnectEnd := none }).conn →
        ¬(s.setConn { s.conn with reconnectEnd := none }).conn.lockedOut := fun ok locked => ok locked free.1
    split
    · exact h.tripOpen before stopped
    · cases byHand with
      | true => exact h.takeClosed (by simpa using before) (h.raise stopped)
      | false => exact h.takeClosed before stopped

theorem breakerMoved (h : Guard P) {closed : Bool} (hs : P s) : P (s.breakerMoved closed) := by
  have moved : P (s.setConn { s.conn with feedback := if closed then .closed else .isOpen }) :=
    h.setConn (.of_same rfl rfl rfl rfl (.inl rfl) (.inl rfl)) hs
  unfold State.breakerMoved
  dsimp only
  split
  case h_1 state | h_2 state => exact keeps_ite moved (h.externalOpen (ConnRec.not_lockedOut_of state) moved)
  case h_3 state => exact keeps_ite (h.pulseTrip moved) (h.openedAsTold state moved)
  case h_4 state => exact keeps_ite (h.closedAsTold state moved) moved
  case h_5 | h_6 | h_7 => exact keeps_ite (h.found moved) moved

theorem breakerLine (h : Guard P) {closed : Bool} (hs : P s) : P (s.breakerLine closed) :=
  keeps_ite hs (h.breakerMoved hs)

theorem adoptBreaker (h : Guard P) {closed : Bool} (hs : P s) : P (s.adoptBreaker closed) := by
  have adopted : P (s.setConn { s.conn with feedback := if closed then .closed else .isOpen, startAdopted := true }) :=
    h.setConn (.of_same rfl rfl rfl rfl (.inl rfl) (.inl rfl)) hs
  exact keeps_ite (h.found adopted) adopted

theorem breakerReleased (h : Guard P) (hs : P s) : P s.breakerReleased := by
  rw [State.breakerReleased_eq]
  exact keeps_ite (h.breakerLine hs)
    (keeps_ite (h.setConn (.of_same rfl rfl rfl rfl (.inl rfl) (.inl rfl)) hs) (h.adoptBreaker hs))

theorem resetLockout (h : Guard P) (calm : s.anyConfirmed = false) (hs : P s) : P s.resetLockout := by
  unfold State.resetLockout
  dsimp only
  split
  case h_1 =>
    exact h.changeEval (h.unlock (s := s) (x := { s.conn with history := [], lockout := .none, state := .openWait }) calm
      (ConnRec.not_lockedOut_of (x := .openWait) rfl) rfl id hs)
  case h_2 state =>
    have target : ¬ConnRec.lockedOut { s.conn with history := [], lockout := .none, target := some .openWait } := by
      rintro (locked | ⟨-, target⟩)
      · exact absurd (state.symm.trans locked) (by decide)
      · nomatch target
    exact h.unlock (s := s) (x := { s.conn with history := [], lockout := .none, target := some .openWait }) calm target rfl id hs
  case h_3 state | h_4 state | h_5 state | h_6 state | h_7 state =>
    exact h.unlock (s := s) calm (ConnRec.not_lockedOut_of state) rfl id hs

/-! ### Strings that return to service (R31, R33) -/

/-- A string starts to serve while no zone is fire-confirmed. -/
theorem serve (h : Guard P) {i : Nat} {f : StringRec → StringRec} (calm : s.anyConfirmed = false)
    (charge : ∀ r, (f r).charge = r.charge) (hs : P s) : P (s.modString i f) :=
  h.startServing calm (itemwise_modify (fun _ => id) fun r _ ok => (charge r).symm ▸ ok) hs

theorem contactorCommand_anyConfirmed (s : State) (i : Nat) (close : Bool) :
    (s.contactorCommand i close).anyConfirmed = s.anyConfirmed := by
  have same : (s.contactorCommand i close).fire = s.fire :=
    (closed_frame s [.fieldPort, .counters]).contactorCommand (List.Subset.refl _) (State.changesOnly_refl s _) .fire
      (by decide)
  rw [State.anyConfirmed, State.anyConfirmed, same]

theorem restore (h : Guard P) {i : Nat} (calm : s.anyConfirmed = false) (hs : P s) : P (s.restore i) :=
  h.stringMoved (h.serve ((contactorCommand_anyConfirmed ..).trans calm) (fun _ => rfl) (h.contactorCommand hs))

theorem leaveAwaiting (h : Guard P) {i : Nat} {closed : Bool} (hs : P s) : P (s.leaveAwaiting i closed) := by
  have latched : P (s.latchRetained (s.stringAt i).retained) := h.quiet.latchRetained (by decide) hs
  have parked : ∀ {f : StringRec → StringRec}, (∀ r, StringStep r (f r)) →
      P (((s.latchRetained (s.stringAt i).retained).modString i f).stringMoved i .awaiting) := fun hf =>
    h.stringMoved (h.modString (fun r _ => hf r) latched)
  unfold State.leaveAwaiting
  dsimp only
  split
  · split
    · exact h.isolate latched
    · split
      · exact h.isolate latched
      · rename_i none
        have calm : (s.latchRetained (s.stringAt i).retained).anyConfirmed = false := by
          refine Bool.eq_false_iff.mpr fun confirmed => ?_
          cases hc : (s.stringAt i).retained.cause <;> simp [hc, confirmed] at none
        exact h.stringMoved (h.serve calm (fun _ => rfl) latched)
  · split
    · exact parked fun _ => .of_state rfl StringState.noConfusion StringState.noConfusion
    · split <;> exact parked fun _ => .of_state rfl StringState.noConfusion StringState.noConfusion

/-- The record of a string read by its index is the entry at that index, if there is one. -/
theorem stringAt_of_getElem? {i : Nat} {r : StringRec} (h : s.strings[i]? = some r) : s.stringAt i = r := by
  simp [State.stringAt, h]

theorem actOnFeedback (h : Guard P) {i : Nat} {closed : Bool} (hs : P s) : P (s.actOnFeedback i closed) := by
  unfold State.actOnFeedback
  dsimp only
  split
  case h_1 => exact h.leaveAwaiting hs
  case h_2 =>
    split
    · split
      · exact h.modString (fun _ _ => .of_same rfl rfl) (h.contactorCommand hs)
      · exact hs
    · exact h.contactorOpened hs
  case h_3 state =>
    refine keeps_ite (h.stringMoved (h.raise (h.modString (fun r hr => ⟨id, fun _ => .inr ?_⟩) hs))) hs
    rw [← stringAt_of_getElem? hr]
    exact state
  case h_4 =>
    exact keeps_ite hs (h.stringMoved (h.raise (h.modString
      (fun _ _ => .of_state rfl StringState.noConfusion StringState.noConfusion) hs)))
  case h_5 => exact keeps_ite (h.isolate hs) hs
  case h_6 => exact keeps_ite (h.isolate hs) hs
  case h_7 => exact hs

theorem takeStringReport (h : Guard P) {i : Nat} {x : StringReport} (hs : P s) : P (s.takeStringReport i x) := by
  have measured : P (s.modString i fun r =>
      { r with
        current := some x.current, voltage := some (capNat 15000 x.voltage)
        feedback := if x.closed then .closed else .isOpen }) := h.modString (fun _ _ => .of_same rfl rfl) hs
  unfold State.takeStringReport
  dsimp only
  have cleared := keeps_ite (P := P) (c := decide (s.params.balanceCurrentLimit < x.current.natAbs) = true)
    (h.quiet.clearStringMasks (by decide) (i := i) measured) measured
  exact keeps_ite (h.actOnFeedback (h.countReport cleared)) (h.countReport cleared)

/-! ### Fire zones (R143 to R149) -/

theorem modDetector (h : Guard P) {i : Nat} {f : DetectorRec → DetectorRec} (hs : P s) : P (s.modDetector i f) :=
  h.setFire (.of_same rfl rfl) hs

theorem setUnwatched (h : Guard P) {z : Nat} (hs : P s) : P (s.setUnwatched z) := by
  refine keeps_ite hs (h.changeEval (h.raise (h.toZoned.modFireZone (fun r _ => ⟨.of_same rfl rfl ?_, fun _ => Iff.rfl⟩) hs)))
  by_cases hc : r.countdown = none
  · exact .inl hc
  · exact .inr ⟨hc, hc⟩

/-- A change between stages that are not fire-confirmed. -/
theorem zoneStep_below {r u : FireZone} (below : FireZoneOk r → r.stage.confirmed = false ∧ u.stage.confirmed = false)
    (clear : FireZoneOk r → ∀ t, u.clearTimer = some t → t.ceiling.confirmed = false)
    (countdown : u.countdown = r.countdown) :
    ZoneStep r u ∧ (FireZoneOk r → (u.stage = .released ↔ r.stage = .released)) := by
  refine ⟨⟨fun ok => ⟨fun t ht => ⟨(below ok).2, clear ok t ht⟩, fun hc => ?_⟩, fun ok hu => ?_⟩, fun ok => ?_⟩
  · exact absurd (ok.2 (countdown ▸ hc)) (by simp [(below ok).1])
  · exact absurd hu (by simp [(below ok).2])
  · obtain ⟨h1, h2⟩ := below ok
    constructor <;> intro h <;> simp [h, FireStage.confirmed] at h1 h2

theorem riseTo (h : Guard P) {z : Nat} {target : FireStage} (hz : z < 8)
    (low : (s.fireZone z).stage.confirmed = false) (hs : P s) : P (s.riseTo z target) := by
  have rising : ∀ {x : FireStage}, x.confirmed = false →
      P (s.modFireZone z fun r => { r with stage := x, clearTimer := none }) := fun hx =>
    h.toZoned.modFireZone (fun r hr => zoneStep_below (fun _ => ⟨fireZone_of_getElem? hr ▸ low, hx⟩)
      (fun _ _ ht => nomatch ht) rfl) hs
  cases target with
  | watch => exact h.handStage (h.raise (rising rfl))
  | preAlarm =>
    unfold State.riseTo
    exact h.handStage (h.watchReconnect (h.quiet.clearAllMasks (by decide) (h.raise (rising rfl))))
  | fire => exact h.reachFire hz low hs
  | normal | releaseDelay | released => exact hs

/-- The greater of two stages is one of them. -/
theorem max_confirmed {a b : FireStage} (ha : a.confirmed = false) (hb : b.confirmed = false) :
    (a.max b).confirmed = false := by
  unfold FireStage.max
  split <;> assumption

/-- A stage not above one that is not fire-confirmed is not fire-confirmed. -/
theorem confirmed_of_rank_le {a b : FireStage} (h : a.rank ≤ b.rank) (hb : b.confirmed = false) :
    a.confirmed = false := by
  revert h hb
  cases a <;> cases b <;> decide

theorem moveStage (h : Guard P) {z : Nat} (hz : z < 8) (hs : P s) : P (s.moveStage z) := by
  unfold State.moveStage
  dsimp only
  split
  · exact h.quiet.latchStage (by decide) hs
  · rename_i low
    rw [Bool.not_eq_true] at low
    split
    · exact h.riseTo hz low hs
    · rename_i notAbove
      have target : (s.fireZone z).target.confirmed = false := confirmed_of_rank_le (Nat.le_of_not_lt notAbove) low
      split
      · exact h.toZoned.modFireZone (fun r hr => zoneStep_below
          (fun _ => ⟨fireZone_of_getElem? hr ▸ low, fireZone_of_getElem? hr ▸ low⟩) (fun _ _ ht => nomatch ht) rfl) hs
      · refine h.toZoned.modFireZone (fun r hr => zoneStep_below
          (fun _ => ⟨fireZone_of_getElem? hr ▸ low, fireZone_of_getElem? hr ▸ low⟩) (fun ok t ht => ?_) rfl) hs
        obtain rfl := Option.some.inj ht
        split
        · exact target
        · rename_i t running
          rw [fireZone_of_getElem? hr] at running
          exact max_confirmed (ok.1 t running).2 target

theorem evaluateZone (h : Guard P) {z : Nat} (hz : z < 8) (hs : P s) : P (s.evaluateZone z) := by
  refine h.moveStage hz (h.toZoned.modFireZone (fun r _ => ⟨.of_same rfl rfl ?_, fun _ => Iff.rfl⟩) (h.setUnwatched hs))
  by_cases hc : r.countdown = none
  · exact .inl hc
  · exact .inr ⟨hc, hc⟩

theorem evaluateZones (h : Guard P) {zones : List Nat} (hz : ∀ z ∈ zones, z < 8) (hs : P s) :
    P (s.evaluateZones zones) := h.forEach (fun z hm _ => h.evaluateZone (hz z hm)) hs

theorem lt_of_mem_allZones {z : Nat} (h : z ∈ allZones) : z < 8 := List.mem_range.mp h

theorem lt_of_mem_filter {z : Nat} {p : Nat → Bool} (h : z ∈ allZones.filter p) : z < 8 :=
  lt_of_mem_allZones (List.mem_filter.mp h).1

theorem takeDetectorPair (h : Guard P) {first node : Nat} {pair : Nat × Nat} (hs : P s) :
    P (s.takeDetectorPair first node pair) := by
  unfold State.takeDetectorPair
  split
  · exact h.count hs
  · dsimp only
    have taken := fun {i} {f : DetectorRec → DetectorRec} => h.modDetector (i := i) (f := f) hs
    split
    · exact taken
    · exact keeps_ite taken (h.raise taken)
    · exact keeps_ite taken (h.latch taken)
    · exact keeps_ite taken (h.raise (h.latch taken))

theorem takeDetectorReport (h : Guard P) {first node : Nat} {pairs : List (Nat × Nat)} (hs : P s) :
    P (s.takeDetectorReport first node pairs) :=
  h.evaluateZones (fun _ => lt_of_mem_filter) (keeps_foldl (fun _ _ => h.takeDetectorPair) hs)

theorem panelSilent (h : Guard P) {first : Nat} (hs : P s) : P (s.panelSilent first) :=
  h.evaluateZones (fun _ => lt_of_mem_filter) (h.forEach (fun _ _ _ => h.modDetector) hs)

theorem fireClose (h : Guard P) (hs : P s) : P s.fireClose := by
  refine h.evaluateZones (fun _ => lt_of_mem_allZones)
    (h.setFire (.of_zones rfl (itemwise_mapIdx fun z r => ⟨.of_same rfl rfl ?_, fun _ => Iff.rfl⟩)) hs)
  by_cases hc : r.countdown = none
  · exact .inl hc
  · exact .inr ⟨hc, hc⟩

theorem fireLineMoved (h : Guard P) {e : LineEntry} (hs : P s) : P (s.fireLineMoved e) := by
  refine h.evaluateZones (fun _ => lt_of_mem_filter) (h.forEach (fun z _ s hs => ?_) hs)
  refine h.toZoned.modFireZone (fun r _ => ⟨.of_same rfl rfl ?_, fun _ => Iff.rfl⟩) hs
  by_cases hc : r.countdown = none
  · exact .inl hc
  · exact .inr ⟨hc, hc⟩

theorem clearTimedOut (h : Guard P) {z : Nat} (hs : P s) : P (s.clearTimedOut z) := by
  unfold State.clearTimedOut
  split
  · exact hs
  · rename_i t running
    refine h.handFall (h.toZoned.modFireZone (fun r hr => ?_) hs)
    rw [fireZone_of_getElem? hr] at running
    refine zoneStep_below (fun ok => ok.1 t running) (fun ok again hagain => ?_) rfl
    rw [fireZone_of_getElem? hr] at hagain
    dsimp only at hagain
    split at hagain
    · obtain rfl := Option.some.inj hagain
      exact confirmed_of_rank_le (Nat.le_of_lt ‹_›) (ok.1 t running).2
    · nomatch hagain

theorem pauseCountdowns (h : Guard P) (hs : P s) : P s.pauseCountdowns := by
  refine h.setFire (.of_zones rfl (itemwise_map fun r => ⟨.of_same rfl rfl ?_, fun _ => Iff.rfl⟩)) hs
  cases r.countdown with
  | none => exact .inl rfl
  | some c => exact .inr ⟨by simp, by simp⟩

theorem resumeCountdown (h : Guard P) {z : Nat} (hs : P s) : P (s.resumeCountdown z) := by
  unfold State.resumeCountdown
  split
  · rename_i ms paused
    refine keeps_ite (h.toZoned.releaseZone (by simp [paused]) hs)
      (h.toZoned.modFireZone (fun r hr => ⟨.of_same rfl rfl (.inr ⟨by simp, ?_⟩), fun _ => Iff.rfl⟩) hs)
    simp [← fireZone_of_getElem? hr, paused]
  · exact hs
  · exact hs

theorem resumeCountdowns (h : Guard P) (hs : P s) : P s.resumeCountdowns := h.forEach (fun _ _ _ => h.resumeCountdown) hs

theorem holdLine (h : Guard P) {x : LineState} (hs : P s) : P (s.holdLine x) := by
  cases x with
  | active => exact h.pauseCountdowns hs
  | inactive | unknown => exact h.resumeCountdowns hs

theorem resetFireZone (h : Guard P) {z : Nat} (hz : z < 8) (hs : P s) : P (s.resetFireZone z) :=
  h.evaluateZone hz (h.fallen hs)

theorem detectorsLoaded (h : Guard P) {before : List DetectorEntry} (hs : P s) : P (s.detectorsLoaded before) :=
  h.evaluateZones (fun _ => lt_of_mem_allZones) (h.forEach (fun _ _ _ => h.modDetector) hs)

theorem fireTick (h : Guard P) (hs : P s) : P s.fireTick :=
  h.evaluateZones (fun _ => lt_of_mem_allZones) (h.setFire (.of_same rfl rfl) hs)

/-! ### Rounds (R5 to R16) -/

theorem close (h : Guard P) {c : CloseRecord} (hs : P s) : P (s.close c) := by
  have handed : P ((s.evaluateClose c).setChoices ((s.evaluateClose c).choices + 1)).thermalClose.fireClose :=
    h.fireClose (h.thermalClose (h.quiet.setChoices (by decide) (h.evaluateClose hs)))
  unfold State.close State.handClose
  exact keeps_ite (h.changeEval (h.calibrateAll handed)) (h.calibrateAll (h.changeEval handed))

theorem closeRound (h : Guard P) {o : OpenRound} {completed : Bool} (hs : P s) : P (s.closeRound o completed) :=
  h.close (h.quiet.countMisses (by decide) (h.quiet.leaveRound (by decide) hs))

theorem abortRound (h : Guard P) (hs : P s) : P s.abortRound := by
  unfold State.abortRound
  split
  · exact h.closeRound (h.count hs)
  · exact hs

theorem sampleCall (h : Guard P) (hs : P s) : P s.sampleCall := by
  unfold State.sampleCall
  split
  · exact hs
  · have tagged : P (s.setRounds { s.rounds with tag := (s.rounds.tag + 1) % 256 }) :=
      h.quiet.setRounds (by decide) hs
    exact keeps_ite (h.quiet.setRounds (by decide) (h.quiet.placeRoundFrame (by decide) tagged))
      (h.abortRound (h.quiet.placeRoundFrame (by decide) tagged))

theorem continueRound (h : Guard P) (hs : P s) : P s.continueRound := by
  unfold State.continueRound State.holdBleeding
  split
  · exact hs
  · refine keeps_ite ?_ (h.sampleCall hs)
    split
    · exact hs
    · exact keeps_ite (h.quiet.setRounds (by decide) (h.quiet.placeRoundFrame (by decide) hs))
        (h.abortRound (h.quiet.placeRoundFrame (by decide) hs))

theorem beginRound (h : Guard P) {scope : Scope} {quiet : Bool} (hs : P s) : P (s.beginRound scope quiet) :=
  keeps_ite (h.quiet.wakeMonitors (by decide) (h.quiet.setRounds (by decide) hs))
    (h.continueRound (h.quiet.setRounds (by decide) hs))

theorem intervalOver (h : Guard P) (hs : P s) : P s.intervalOver := by
  have restarted : P (s.setRounds { s.rounds with intervalEnd := s.after s.effectiveInterval }) :=
    h.quiet.setRounds (by decide) hs
  refine keeps_ite ?_ (h.count restarted)
  unfold State.intervalRound
  split
  · exact h.beginRound restarted
  · exact h.beginRound (h.quiet.setRounds (by decide) restarted)

theorem takeModuleReport (h : Guard P) {m : Nat} {x : ModuleReport} (hs : P s) : P (s.takeModuleReport m x) := by
  have applied := fun o => h.quiet.applyReport (m := m) (x := x) (by decide)
    (h.quiet.setRounds (x := { s.rounds with openRound := some o }) (by decide) hs)
  unfold State.takeModuleReport
  split
  · exact keeps_ite (keeps_ite (h.closeRound (applied _)) (applied _)) (h.count hs)
  · exact h.count hs

theorem wakeSettled (h : Guard P) (hs : P s) : P s.wakeSettled := h.continueRound (h.quiet.setRounds (by decide) hs)

theorem deadlineOver (h : Guard P) (hs : P s) : P s.deadlineOver := by
  unfold State.deadlineOver
  split
  · exact h.closeRound hs
  · exact hs

theorem stopRound (h : Guard P) (hs : P s) : P s.stopRound := by
  unfold State.stopRound
  split
  case h_1 | h_2 => exact h.abortRound hs
  case h_3 => exact h.quiet.abandonWaking (by decide) hs
  all_goals exact hs

/-! ### Nodes and frames (R155 to R158) -/

theorem silenceEffects (h : Guard P) {r : Role} {record : Nat} (hs : P s) : P (s.silenceEffects r record) := by
  cases r with
  | moduleMonitor | other => exact hs
  | stringMonitor => exact h.monitorSilent hs
  | pcs => exact h.quiet.pcsSilent (by decide) hs
  | chiller => exact h.coolantTo hs
  | firePanel => exact h.panelSilent hs
  | meter => exact h.meterSilent hs

theorem nodeSilenced (h : Guard P) {i : Nat} {e : NodeEntry} (hs : P s) : P (s.nodeSilenced i e) :=
  h.silenceEffects (h.raise (h.latch (h.quiet.modNode (by decide) hs)))

theorem hand (_ : Guard P) {α : Type} {r : Reader α} {payload : List Byte} {f : State → α → State}
    (hf : ∀ a, P (f s a)) (hs : P s) : P (s.hand r payload f) := by
  unfold State.hand
  split
  · exact hf _
  · exact hs

theorem consume (h : Guard P) {e : NodeEntry} {payload : List Byte} (hs : P s) : P (s.consume e payload) := by
  unfold State.consume
  split
  · exact h.hand (fun _ => h.takeModuleReport hs) hs
  · exact h.hand (fun _ => h.takeStringReport hs) hs
  · exact h.hand (fun _ => h.takeGridSample hs) hs
  · exact h.hand (fun _ => h.quiet.takePcsStatus (by decide) hs) hs
  · exact h.hand (fun _ => h.takeCoolantStatus hs) hs
  · split
    · exact h.takeDetectorReport hs
    · exact hs
  · exact hs

theorem consumeFrame (h : Guard P) {e : NodeEntry} {f : Frame} (hs : P s) : P (s.consumeFrame e f) := by
  unfold State.consumeFrame
  split
  · exact hs
  · exact keeps_ite (keeps_ite hs (h.consume hs)) (h.count hs)

theorem takeFieldFrame (h : Guard P) {f : Frame} (hs : P s) : P (s.takeFieldFrame f) := by
  unfold State.takeFieldFrame
  refine keeps_ite (h.count hs) ?_
  split
  · exact h.quiet.unknownSource (by decide) hs
  · split
    · exact hs
    · exact h.quiet.forwardFrame (by decide) (h.consumeFrame (h.quiet.nodeHeard (by decide) hs))

/-! ### Loads (R169, R174) -/

theorem lineReleased (h : Guard P) {old : LineEntry} {was : LineState} (hs : P s) : P (s.lineReleased old was) := by
  unfold State.lineReleased
  split
  · exact hs
  · exact h.breakerReleased hs
  · exact keeps_ite (h.fireLineMoved hs) hs
  · exact keeps_ite (h.fireLineMoved hs) hs
  · exact keeps_ite (h.resumeCountdowns hs) hs
  · exact keeps_ite (h.changeEval hs) hs

theorem linesLoaded (h : Guard P) {before : List LineEntry} (hs : P s) : P (s.linesLoaded before) :=
  h.forEach (fun _ _ _ => h.lineReleased) (h.forEach (fun _ _ _ hs => h.quiet.modLine (by decide) hs) hs)

theorem nodesLoaded (h : Guard P) {before : List (Option NodeEntry)} (hs : P s) : P (s.nodesLoaded before) :=
  keeps_foldl (fun _ _ => h.silenceEffects) (h.quiet.setNodes (by decide) hs)

/-- A table other than T9 takes its place without a change of the guard's settings. -/
theorem putTable (h : Guard P) {c : TableContents} (other : ∀ t, c ≠ .t9 t) (hs : P s) : P (s.putTable c) := by
  refine h.setEngine rfl (h.setConfig ?_ hs)
  cases c with
  | t9 t => exact absurd rfl (other t)
  | _ => rfl

theorem takeTable (h : Guard P) {c : TableContents} {entry : Option Nat} (limits : ∀ t, c = .t9 t → 1 ≤ t.tripLimit)
    (hs : P s) : P (s.takeTable c entry) := by
  suffices loaded : P ((s.putTable c).tableLoaded s c entry) from keeps_ite (h.changeEval loaded) loaded
  cases c with
  | t9 t => exact h.watchReconnect (h.loadConnection (limits t rfl) hs)
  | t8 t => exact h.clearStages (h.putTable (fun _ => TableContents.noConfusion) hs)
  | t10 t => exact h.stringsLoaded (h.putTable (fun _ => TableContents.noConfusion) hs)
  | t12 t => exact h.detectorsLoaded (h.putTable (fun _ => TableContents.noConfusion) hs)
  | t13 t => exact h.evaluateZones (fun _ => lt_of_mem_allZones) (h.putTable (fun _ => TableContents.noConfusion) hs)
  | t14 t => exact h.nodesLoaded (h.putTable (fun _ => TableContents.noConfusion) hs)
  | t15 t => exact h.linesLoaded (h.putTable (fun _ => TableContents.noConfusion) hs)
  | t16 t => exact h.quiet.zonesLoaded (by decide) (h.putTable (fun _ => TableContents.noConfusion) hs)
  | t1 t | t2 t | t3 t | t4 t | t5 t | t6 t | t7 t | t11 t =>
    exact h.putTable (fun _ => TableContents.noConfusion) hs

theorem storeParameter (h : Guard P) {id : Nat} {v : Int} (hs : P s) : P (s.storeParameter id v) := by
  have stored : P ((s.setConfig { s.config with params := s.config.params.set id v }).setEngine
      { s.engine with dirty := true }) := h.setEngine rfl (h.setConfig rfl hs)
  exact keeps_ite (h.quiet.reduceMasks (by decide) stored) stored

theorem scrubTable (h : Guard P) {n : Nat} (hs : P s) : P (s.scrubTable n) :=
  keeps_ite hs (h.raise (h.latch (h.setConfig rfl hs)))

theorem scrubTick (h : Guard P) (hs : P s) : P s.scrubTick := by
  have pass : P _ := h.forEach (is := (List.range 16).map (· + 1)) (f := State.scrubTable)
    (fun _ _ _ => h.scrubTable) (h.setConfig (x := { s.config with scrubEnd := s.after (s.params.scrubPeriod * 1000) }) rfl hs)
  exact keeps_ite (h.changeEval pass) pass

/-! ### Requests (R165) -/

theorem refuseMalformed (h : Guard P) (hs : P s) : P s.refuseMalformed.1 := by
  unfold State.refuseMalformed State.refuse
  dsimp only
  exact h.quiet.countPort (by decide) hs

/-- The checks before a request's own count a malformed one, and no more (R165). -/
theorem checked (h : Guard P) {maint fits : Bool} {body : State → Answer} (hs : P s) (hb : P (body s).1) :
    P (s.checked maint fits body).1 := by
  unfold State.checked
  split
  · exact hs
  · split
    · exact h.refuseMalformed hs
    · exact hb

theorem byString (h : Guard P) {maint : Bool} {args : List Byte} {body : Nat → State → Answer} (hs : P s)
    (hb : ∀ i, P (body i s).1) : P (s.byString maint args body).1 := by
  refine h.checked hs ?_
  dsimp only
  split
  · exact hs
  · exact hb _

theorem loadContents (h : Guard P) {n : Nat} {bytes : List Byte} (hs : P s) : P (s.loadContents n bytes).1 := by
  unfold State.loadContents
  split
  · exact hs
  · rename_i c _
    split
    · exact hs
    · rename_i valid
      have taken : P (s.takeTable c none) := h.takeTable (fun t ht => by
        subst ht
        simp only [TableContents.valid, ConnectionSettings.valid, Bool.not_eq_true', Bool.not_eq_false,
          Bool.and_eq_true, decide_eq_true_eq] at valid
        omega) hs
      split
      · split
        · exact hs
        · exact taken
      · exact taken

theorem loadTable (h : Guard P) {args : List Byte} (hs : P s) : P (s.loadTable args).1 := by
  unfold State.loadTable
  split
  · exact h.refuseMalformed hs
  · dsimp only
    split
    · exact h.checked hs (h.loadContents hs)
    · exact hs

/-- An entry load names T8, T12 or T14 (R169). -/
theorem entryResult_ne_t9 {n i : Nat} {bytes : List Byte} {c : TableContents} (hc : s.entryResult n i bytes = some c)
    (t : ConnectionSettings) : c ≠ .t9 t := by
  rintro rfl
  unfold State.entryResult at hc
  split at hc
  case h_1 | h_2 =>
    obtain ⟨e, -, hc⟩ := Option.bind_eq_some_iff.mp hc
    split at hc <;> nomatch hc
  case h_3 =>
    obtain ⟨e, -, hc⟩ := Option.bind_eq_some_iff.mp hc
    dsimp only at hc
    split at hc <;> nomatch hc
  case h_4 => nomatch hc

theorem loadEntry (h : Guard P) {args : List Byte} (hs : P s) : P (s.loadEntry args).1 := by
  unfold State.loadEntry
  split
  · exact h.refuseMalformed hs
  · split
    · exact h.checked hs (h.refuseMalformed hs)
    · exact hs
  · dsimp only
    split
    · refine h.checked hs ?_
      split
      · rename_i hc
        exact h.takeTable (fun t ht => absurd ht (entryResult_ne_t9 hc t)) hs
      · exact hs
    · exact hs

theorem setParameter (h : Guard P) {args : List Byte} (hs : P s) : P (s.setParameter args).1 := by
  refine h.checked hs ?_
  dsimp only
  split
  · exact hs
  · exact h.storeParameter hs

theorem storeImage (h : Guard P) {args : List Byte} (hs : P s) : P (s.storeImage args).1 := by
  refine h.checked hs ?_
  split
  · exact hs
  · exact h.beginStore rfl rfl rfl hs

theorem zeroCounters (h : Guard P) (hs : P s) : P s.zeroCounters :=
  h.setFire (.of_same rfl rfl) (h.setStrings (itemwise_map fun _ => ⟨id, id⟩) (h.quiet.setCounters (by decide) hs))

theorem startRound (h : Guard P) {args : List Byte} (hs : P s) : P (s.startRound args).1 := by
  refine h.checked hs ?_
  dsimp only
  split
  · exact hs
  · split
    · exact hs
    · split
      · exact hs
      · exact h.beginRound hs

theorem restoreString (h : Guard P) {args : List Byte} (hs : P s) : P (s.restoreString args).1 := by
  refine h.byString hs fun i => ?_
  split
  · exact hs
  · rename_i granted
    have calm : s.anyConfirmed = false := by
      refine Bool.eq_false_iff.mpr fun confirmed => ?_
      simp only [State.anyConfirmed, List.any_eq_true] at confirmed
      obtain ⟨z, hz, hc⟩ := confirmed
      have pre : s.anyPreAlarm = true := List.any_eq_true.mpr ⟨z, hz, by simp [hc]⟩
      unfold State.restoreRefusal at granted
      dsimp only at granted
      split at granted
      · nomatch granted
      · simp [pre] at granted
    exact h.restore calm hs

theorem resetStringRequest (h : Guard P) {args : List Byte} (hs : P s) : P (s.resetStringRequest args).1 := by
  refine h.byString hs fun i => ?_
  split
  · exact h.resetString hs
  · exact hs

theorem connect (h : Guard P) {args : List Byte} (hs : P s) : P (s.connect args).1 := by
  refine h.checked hs ?_
  split
  · exact hs
  · exact h.setConn (.of_same rfl rfl rfl rfl (.inl rfl) (.inl rfl)) hs

theorem resetLockoutRequest (h : Guard P) {args : List Byte} (hs : P s) : P (s.resetLockoutRequest args).1 := by
  refine h.checked hs ?_
  split
  · exact hs
  · rename_i granted
    simp only [Bool.or_eq_true, not_or, Bool.not_eq_true] at granted
    exact h.resetLockout granted.1 hs

theorem resetFireRequest (h : Guard P) {args : List Byte} (hs : P s) : P (s.resetFireRequest args).1 := by
  refine h.checked hs ?_
  dsimp only
  split
  · exact hs
  · split
    · exact hs
    · exact h.resetFireZone (Nat.lt_succ_of_le (Nat.le_of_not_lt ‹_›)) hs

theorem readEnvelope (h : Guard P) {args : List Byte} (hs : P s) : P (s.readEnvelope args).1 := by
  refine h.checked hs ?_
  exact h.evaluate hs

theorem clearCounters (h : Guard P) {args : List Byte} (hs : P s) : P (s.clearCountersRequest args).1 := by
  refine h.checked hs ?_
  exact h.zeroCounters hs

theorem restart (h : Guard P) {args : List Byte} (hs : P s) : P (s.restartRequest args).1 := by
  refine h.checked hs ?_
  exact h.setEngine rfl hs

theorem stopRoundRequest (h : Guard P) {args : List Byte} (hs : P s) : P (s.stopRoundRequest args).1 := by
  refine h.checked hs ?_
  exact h.stopRound hs

theorem isolateString (h : Guard P) {args : List Byte} (hs : P s) : P (s.isolateString args).1 := by
  refine h.byString hs fun i => ?_
  exact h.raiseCause hs

theorem disconnectRequest (h : Guard P) {args : List Byte} (hs : P s) : P (s.disconnectRequest args).1 := by
  refine h.checked hs ?_
  exact h.disconnect hs

/-- The body of a request keeps the condition, whatever its code (R165). -/
theorem requestBody (h : Guard P) (code : Nat) (args : List Byte) (hs : P s) :
    P ((requestOf code args).getD State.unknownCode s).1 := by
  unfold requestOf
  split
  · exact h.quiet.readStatus (by decide) hs
  · exact h.quiet.readRecords (by decide) hs
  · exact h.quiet.scanCells (by decide) hs
  · exact h.readEnvelope hs
  · exact h.quiet.readTable (by decide) hs
  · exact h.loadTable hs
  · exact h.loadEntry hs
  · exact h.setParameter hs
  · exact h.storeImage hs
  · exact h.quiet.clearFlagsRequest (by decide) hs
  · exact h.clearCounters hs
  · exact h.restart hs
  · exact h.startRound hs
  · exact h.stopRoundRequest hs
  · exact h.isolateString hs
  · exact h.restoreString hs
  · exact h.resetStringRequest hs
  · exact h.quiet.releaseGate (by decide) hs
  · exact h.connect hs
  · exact h.disconnectRequest hs
  · exact h.resetLockoutRequest hs
  · exact h.resetFireRequest hs
  · exact hs

/-! ### Start-up and every command -/

/-- What a reset ends with, on the blocks' reset states (R179). -/
theorem start (h : Guard P) {old : State} (hs : P s) : P (s.start old) := by
  have noted : P ((s.noteFailures.noteUncalibrated old).relatchLockout.forEach allZones State.relatchZone) :=
    h.forEach (fun _ _ _ hs => h.quiet.relatchZone (by decide) hs) (h.quiet.relatchLockout (by decide)
      (h.quiet.noteUncalibrated (by decide) (h.quiet.noteFailures (by decide) hs)))
  unfold State.start
  dsimp only
  refine h.raise (h.makeCoolant (h.makeFrame (h.forEach (fun _ _ _ => h.setUnwatched) ?_)))
  exact keeps_ite (h.latch noted) noted

theorem setSlot (h : Guard P) (p : Port) (x : Option (List Byte)) (hs : P s) : P (s.setSlot p x) := by
  cases p with
  | station => exact h.setStationPort _ hs
  | field => exact h.setFieldPort _ hs

theorem stationSent (h : Guard P) (hs : P s) : P s.stationSent := by
  unfold State.stationSent
  split
  · exact hs
  · exact keeps_ite (h.beginReset _ _ (h.setStationPort _ hs)) (h.setStationPort _ hs)

theorem fieldSent (h : Guard P) (hs : P s) : P s.fieldSent := by
  unfold State.fieldSent
  split
  · exact hs
  · exact h.quiet.roundFrameSent (by decide) (h.setFieldPort _ hs)

theorem moveNotice (h : Guard P) (hs : P s) : P s.moveNotice := by
  unfold State.moveNotice
  split
  · exact hs
  · exact keeps_ite (h.setStationPort _ (h.setNotices _ hs)) hs

theorem completeReset (h : Guard P) (found : ResetEnd) (hs : P s) : P (s.completeReset found) := by
  unfold State.completeReset
  split
  · exact hs
  · exact h.start (h.blocksAfterReset _ _ hs)

/-- What these changes keep, every operation keeps. -/
theorem commandOps (h : Guard P) : CommandOps P where
  setSlot := h.setSlot
  count _ := h.count
  usurped _ := h.raise
  takeFieldFrame _ := h.takeFieldFrame
  stationHeard := h.quiet.stationHeard (by decide)
  takeDispatch _ _ := h.takeDispatch
  forwardToField _ hs := keeps_ite (h.setFieldPort _ hs) (h.count hs)
  serve _ _ hs := keeps_serve hs (fun _ => h.count hs) h.setStationPort (h.requestBody _ _)
  fieldStart := h.setFieldPort _
  fieldSent := h.fieldSent
  stationStart := h.setStationPort _
  stationSent := h.stationSent
  moveNotice := h.moveNotice
  beginReset := h.beginReset
  completeReset := h.completeReset
  intervalOver := h.intervalOver
  wakeSettled := h.wakeSettled
  sampleCall := h.sampleCall
  deadlineOver := h.deadlineOver
  contactorTimedOut _ := h.contactorTimedOut
  envelopeTick hs := h.changeEval (h.envelopeTimer _ hs)
  stationSilent := h.stationSilent
  overshot := h.overshot
  stageDelayOver _ := h.stageDelayOver
  openTimedOut _ := h.openTimedOut
  closeTimedOut _ := h.closeTimedOut
  beginClose := h.beginClose
  historyTick := h.historyTick
  tripPulseEnd := h.setConn (.of_same rfl rfl rfl rfl (.inr rfl) (.inl rfl))
  closePulseEnd := h.setConn (.of_same rfl rfl rfl rfl (.inl rfl) (.inr rfl))
  nodeSilenced _ _ := h.nodeSilenced
  clearTimedOut _ := h.clearTimedOut
  fireTick := h.fireTick
  releaseZone _ := h.toZoned.releaseZone
  enterNormal := h.enterNormal
  scrubTick := h.scrubTick
  recordWritten _ := h.recordWritten
  setLines _ := h.quiet.setLines (by decide)
  breakerLine _ := h.breakerLine
  adoptBreaker _ := h.adoptBreaker
  fireLineMoved _ := h.fireLineMoved
  holdLine _ := h.holdLine
  eStopLine := h.eStopLine
  changeEval := h.changeEval
  enterHoldup := h.enterHoldup
  setSupply _ := h.quiet.setSupply (by decide)
  holdupLowBegins := h.holdupLowBegins
  holdupLowEnds := h.holdupLowEnds

end Guard

end Sys2Proof.Machine
end

section
/-! PROOFS of O10 and O12: TRIP_OUT and CLOSE_OUT never pulse at once (R112), and every charge stays within its capacity
(R47 to R49, R56 to R58). Each is a condition that the guarding blocks' changes keep. -/

namespace Sys2Proof.Machine

variable {s t : State}

/-- A condition that reads no piece of `L` is kept by every primitive operation on these. -/
theorem closed_of_changesOnly {P : State → Prop} {L : List Part}
    (reads : ∀ {s t : State}, s.changesOnly t L → P s → P t) : Closed L P where
  setRounds := fun hL s _ => reads ((closed_frame s L).setRounds hL (State.changesOnly_refl s L))
  setModules := fun hL s _ => reads ((closed_frame s L).setModules hL (State.changesOnly_refl s L))
  setStrings := fun hL s _ => reads ((closed_frame s L).setStrings hL (State.changesOnly_refl s L))
  setCellsHold := fun hL s _ => reads ((closed_frame s L).setCellsHold hL (State.changesOnly_refl s L))
  setLimits := fun hL s _ => reads ((closed_frame s L).setLimits hL (State.changesOnly_refl s L))
  setEnvelope := fun hL s _ => reads ((closed_frame s L).setEnvelope hL (State.changesOnly_refl s L))
  setGate := fun hL s _ => reads ((closed_frame s L).setGate hL (State.changesOnly_refl s L))
  setGrid := fun hL s _ => reads ((closed_frame s L).setGrid hL (State.changesOnly_refl s L))
  setConn := fun hL s _ => reads ((closed_frame s L).setConn hL (State.changesOnly_refl s L))
  setThermal := fun hL s _ => reads ((closed_frame s L).setThermal hL (State.changesOnly_refl s L))
  setFire := fun hL s _ => reads ((closed_frame s L).setFire hL (State.changesOnly_refl s L))
  setNodes := fun hL s _ => reads ((closed_frame s L).setNodes hL (State.changesOnly_refl s L))
  setEngine := fun hL s _ => reads ((closed_frame s L).setEngine hL (State.changesOnly_refl s L))
  setConfig := fun hL s _ => reads ((closed_frame s L).setConfig hL (State.changesOnly_refl s L))
  setImage := fun hL s _ => reads ((closed_frame s L).setImage hL (State.changesOnly_refl s L))
  setLines := fun hL s _ => reads ((closed_frame s L).setLines hL (State.changesOnly_refl s L))
  setSupply := fun hL s _ => reads ((closed_frame s L).setSupply hL (State.changesOnly_refl s L))
  setCounters := fun hL s _ => reads ((closed_frame s L).setCounters hL (State.changesOnly_refl s L))
  setChoices := fun hL s _ => reads ((closed_frame s L).setChoices hL (State.changesOnly_refl s L))
  latch := fun hL s _ => reads ((closed_frame s L).latch hL (State.changesOnly_refl s L))
  clearFlags := fun hL s _ => reads ((closed_frame s L).clearFlags hL (State.changesOnly_refl s L))
  placeUrgent := fun hL s _ hk => reads ((closed_frame s L).placeUrgent hL hk (State.changesOnly_refl s L))
  placeNormal := fun hL s _ => reads ((closed_frame s L).placeNormal hL (State.changesOnly_refl s L))
  offerForwarded := fun hL s _ => reads ((closed_frame s L).offerForwarded hL (State.changesOnly_refl s L))
  placeResult := fun hL s _ => reads ((closed_frame s L).placeResult hL (State.changesOnly_refl s L))
  raise := fun hL s _ _ => reads ((closed_frame s L).raise hL (State.changesOnly_refl s L))

namespace Steady

variable {P : State → Prop}

/-- A condition that reads no fire zone is kept by a zone's rise to FIRE (R146). -/
theorem reachFire (h : Steady P) (setFire : ∀ {s : State} x, P s → P (s.setFire x)) {z : Nat} (hs : P s) :
    P (s.reachFire z) := by
  have released : ∀ {s : State}, P s → P (s.releaseZone z) := fun hs =>
    h.handStage (h.latch (h.raise (setFire _ (setFire _ hs))))
  have burning : P (((((s.modFireZone z fun r =>
      { r with stage := .fire, clearTimer := none, fireTime := some s.time }).raise .fire (some z)).latch
        .fire).changeEval.trip .fire).forEach (List.range 4) fun i s => s.raiseCause i .fire) :=
    h.forEach (fun _ _ => h.raiseCause) (h.trip (h.changeEval (h.latch (h.raise (setFire _ hs)))))
  unfold State.reachFire State.startRelease
  dsimp only
  have cooled := h.makeCoolant (urgent := true) (h.quiet.clearAllMasks (by decide) burning)
  refine keeps_ite ?_ cooled
  have pending := fun {x} => h.handStage (urgent := false)
    (h.raise (k := .fireReleasePending) (x := some z) (setFire x cooled))
  exact keeps_ite (released pending) pending

/-- A condition that reads no fire zone is kept by a zone's fall to NORMAL (R149). -/
theorem fallen (h : Steady P) (setFire : ∀ {s : State} x, P s → P (s.setFire x)) {z : Nat} (hs : P s) :
    P (s.fallen z) := setFire _ (keeps_ite (h.handFall (setFire _ hs)) (setFire _ hs))

end Steady

/-! ### TRIP_OUT and CLOSE_OUT (R112) -/

/-- TRIP_OUT and CLOSE_OUT of a state do not both pulse. -/
def State.PulsesApart (s : State) : Prop := PulsesOk s.conn

theorem State.PulsesApart.congr (h : t.conn = s.conn) (hs : s.PulsesApart) : t.PulsesApart := by
  rwa [State.PulsesApart, h]

theorem steady_pulsesApart : Steady State.PulsesApart where
  quiet := closed_of_changesOnly fun h => .congr (h .conn (by decide))
  evaluate hs := hs
  setConn step hs := step.pulses hs
  setStrings _ hs := hs
  setThermal _ hs := hs
  recordCoolant _ hs := hs

/-- Only the changes of the connection record touch its outputs, and none begins one pulse beside the other. -/
theorem guard_pulsesApart : Guard State.PulsesApart where
  toSteady := steady_pulsesApart
  setFire _ hs := hs
  setFieldPort _ hs := hs
  setStationPort _ hs := hs
  setNotices _ hs := hs
  envelopeTimer _ hs := hs
  enforceOpen _ _ _ _ closeOut _ := .inr closeOut
  unlock _ _ _ pulses hs := pulses hs
  startServing _ _ hs := hs
  reachFire _ _ := steady_pulsesApart.reachFire fun _ hs => hs
  fallen := steady_pulsesApart.fallen fun _ hs => hs
  setConfig _ hs := hs
  loadConnection _ hs := keeps_ite (P := State.PulsesApart) hs hs
  setEngine _ hs := hs
  beginStore _ _ _ hs := hs
  recordWritten {s c} hs := hs.congr ((closed_frame s [.engine, .notices, .image, .counters]).recordWritten
    (List.Subset.refl _) (State.changesOnly_refl s _) .conn (by decide))
  beginReset _ _ _ := .inl rfl
  blocksAfterReset _ _ _ := .inl rfl

/-- Settles O10, from the changes of the connection record. -/
theorem outputsNeverPulseTogether : Obligations.OutputsNeverPulseTogether := fun _ _ hs h =>
  guard_pulsesApart.commandOps.step (fun _ hs => hs) (fun _ hs => hs) hs h

/-! ### Charges (R47 to R49, R56 to R58) -/

/-- The condition on the charges reads the strings, the image and the store. -/
theorem State.ChargesOk.congr (hs : s.ChargesOk) (strings : t.strings = s.strings) (image : t.image = s.image)
    (engine : t.engine = s.engine) : t.ChargesOk where
  records := strings ▸ hs.records
  image := image ▸ hs.image
  store := engine ▸ hs.store

/-- A relation of lists along which `p` passes to `q` takes `p` of all entries to `q` of all. -/
theorem forall_mem_of_itemwise {α β : Type} {R : α → β → Prop} {p : α → Prop} {q : β → Prop} {l : List α} {m : List β}
    (h : Itemwise R l m) (step : ∀ {a b}, R a b → p a → q b) (hp : ∀ a ∈ l, p a) : ∀ b ∈ m, q b := by
  induction h with
  | nil => simp
  | cons r _ ih =>
    rw [List.forall_mem_cons] at hp ⊢
    exact ⟨step r hp.1, ih hp.2⟩

/-- A change of strings that keeps each charge within its capacity. -/
theorem State.ChargesOk.setStrings (hs : s.ChargesOk) {x : List StringRec}
    (h : Itemwise (fun r u => ChargeOk r.charge → ChargeOk u.charge) s.strings x) : (s.setStrings x).ChargesOk where
  records := forall_mem_of_itemwise (p := fun r : StringRec => ChargeOk r.charge) h (fun step => step) hs.records
  image := hs.image
  store := hs.store

/-- The SOC of a charge within its capacity is at most 1024 (R49). -/
theorem socOf_le {q cap : Nat} (h : q ≤ cap) : socOf q cap ≤ 1024 := by
  rcases Nat.eq_zero_or_pos cap with rfl | hc
  · simp [socOf]
  · calc socOf q cap ≤ cap * 1024 / cap := Nat.div_le_div_right (Nat.mul_le_mul_right _ h)
      _ = 1024 := Nat.mul_div_cancel_left _ hc

theorem steady_chargesOk : Steady State.ChargesOk where
  quiet := closed_of_changesOnly fun h hs =>
    hs.congr (h .strings (by decide)) (h .image (by decide)) (h .engine (by decide))
  evaluate hs := hs.congr rfl rfl rfl
  setConn _ hs := hs.congr rfl rfl rfl
  setStrings step hs := hs.setStrings (step.imp fun _ _ h => h.charge)
  setThermal _ hs := hs.congr rfl rfl rfl
  recordCoolant _ hs := hs.congr rfl rfl rfl

/-- A charge formed from a stored SOC of at most 1024 lies within its capacity (R58). -/
theorem ChargeRec.atPowerOn_ok {soc : Nat} (h : soc ≤ 1024) (capacityAh : Nat) :
    ChargeOk (.atPowerOn soc capacityAh) := by
  refine ⟨?_, rfl⟩
  show soc * chargeCap capacityAh / 1024 ≤ chargeCap capacityAh
  exact Nat.div_le_of_le_mul (Nat.mul_le_mul_right _ h)

theorem ChargeRec.retained_ok (r : ChargeRec) (capacityAh : Nat) : ChargeOk (r.retained capacityAh) :=
  ⟨Nat.min_le_right _ _, rfl⟩

/-- The SOCs that a reset loads are those stored, or 512 (R58). -/
theorem Image.loadedSoc_le {m : Image} (h : ∀ x ∈ m.soc, x ≤ 1024) (i : Nat) : m.loadedSoc.getD i 512 ≤ 1024 := by
  have loaded : ∀ x ∈ m.loadedSoc, x ≤ 1024 := by
    unfold Image.loadedSoc
    split
    · exact h
    · decide
  rw [List.getD_eq_getElem?_getD]
  cases hi : m.loadedSoc[i]? with
  | none => decide
  | some x => exact loaded x (List.mem_of_getElem? hi)

theorem stringAfterReset_chargeOk (cause : ResetCause) (r : StringRec) {soc : Nat} (h : soc ≤ 1024) (capacityAh : Nat) :
    ChargeOk (stringAfterReset cause r soc capacityAh).charge := by
  cases cause with
  | powerOn => exact ChargeRec.atPowerOn_ok h capacityAh
  | resetLine | restart => exact ChargeRec.retained_ok _ _

/-- A record written takes the SOCs of the snapshot, or leaves those of the image (R170). -/
theorem State.ChargesOk.recordWritten (hs : s.ChargesOk) {c : Bool} : (s.recordWritten c).ChargesOk := by
  have written : ∀ w, s.engine.store = some w → ∀ x ∈ (s.image.written w c).soc, x ≤ 1024 := fun w hw => by
    show ∀ x ∈ (if w.record == 18 then w.soc else s.image.soc), x ≤ 1024
    split
    · exact hs.store w hw
    · exact hs.image
  unfold State.recordWritten
  split
  · exact hs
  · rename_i w hw
    have ended : ∀ {e : Engine}, e.store = none → ((s.setImage (s.image.written w c)).setEngine e).ChargesOk :=
      fun he => ⟨hs.records, written w hw, fun _ h => nomatch he.symm.trans h⟩
    dsimp only
    split
    · refine ⟨hs.records, written w hw, fun v hv => ?_⟩
      obtain rfl := Option.some.inj hv
      exact hs.store w hw
    · split
      · exact steady_chargesOk.raise (ended rfl)
      · exact steady_chargesOk.raise (ended rfl)

theorem State.ChargesOk.beginReset (hs : s.ChargesOk) (b r : Bool) : (s.beginReset b r).ChargesOk := by
  have cut : s.cutStore.ChargesOk := by
    unfold State.cutStore
    split
    · exact hs
    · exact ⟨hs.records, hs.image, fun _ h => nomatch h⟩
  exact ⟨cut.records, cut.image, cut.store⟩

theorem guard_chargesOk : Guard State.ChargesOk where
  toSteady := steady_chargesOk
  setFire _ hs := hs.congr rfl rfl rfl
  setFieldPort _ hs := hs.congr rfl rfl rfl
  setStationPort _ hs := hs.congr rfl rfl rfl
  setNotices _ hs := hs.congr rfl rfl rfl
  envelopeTimer _ hs := hs.congr rfl rfl rfl
  enforceOpen _ _ _ _ _ hs := hs.congr rfl rfl rfl
  unlock _ _ _ _ hs := hs.congr rfl rfl rfl
  startServing _ step hs := hs.setStrings step
  reachFire _ _ := steady_chargesOk.reachFire fun _ hs => hs.congr rfl rfl rfl
  fallen := steady_chargesOk.fallen fun _ hs => hs.congr rfl rfl rfl
  setConfig _ hs := hs.congr rfl rfl rfl
  loadConnection {s t} _ hs := by
    have put : (s.putTable (.t9 t)).ChargesOk := ⟨hs.records, hs.image, hs.store⟩
    exact keeps_ite (put.congr rfl rfl rfl) put
  setEngine store hs := ⟨hs.records, hs.image, fun w hw => hs.store w (store ▸ hw)⟩
  beginStore {s x w} store _ soc hs := by
    refine ⟨hs.records, hs.image, fun v hv y hy => ?_⟩
    obtain rfl : w = v := Option.some.inj (store.symm.trans hv)
    rw [soc] at hy
    obtain ⟨r, hr, rfl⟩ := List.mem_map.mp hy
    obtain ⟨bound, isSoc⟩ := hs.records r hr
    exact isSoc ▸ socOf_le bound
  recordWritten hs := hs.recordWritten
  beginReset b r hs := hs.beginReset b r
  blocksAfterReset cause found hs := by
    refine ⟨fun u hu => ?_, hs.image, fun _ h => nomatch h⟩
    obtain ⟨i, hi, rfl⟩ := List.mem_mapIdx.mp hu
    exact stringAfterReset_chargeOk cause _ (Image.loadedSoc_le hs.image i) _

/-- Settles O12, from the changes of the charge records. -/
theorem chargeStaysWithinCapacity : Obligations.ChargeStaysWithinCapacity := fun _ _ hs h =>
  guard_chargesOk.commandOps.step (fun _ hs => hs.congr rfl rfl rfl) (fun _ hs => hs.congr rfl rfl rfl) hs h

end Sys2Proof.Machine
end

section
/-! PROOF of O11: the guard of the container outlasts every step (R108, R111, R113, R147, R148). The guard is taken apart
into conditions that are each kept by the operations below the fire stages; a zone's rise to FIRE suspends some of them,
and each operation that it runs restores one. -/

namespace Sys2Proof.Machine

variable {s t : State}

/-! ### The conditions of the guard -/

/-- What the guard says in every state, fire-confirmed or not. -/
structure State.Core (s : State) : Prop where
  history : s.HistoryHolds
  lockout : LockoutOk s.conn
  zones : ∀ z ∈ s.fire.zones, FireZoneOk z
  eightZones : s.fire.zones.length = 8
  fourStrings : s.strings.length = 4
  limits : s.tables.limitsTrips
  imageLimits : s.image.tables.limitsTrips
  storeLimits : ∀ w, s.engine.store = some w → w.tables.limitsTrips

def State.LimitsHeld (s : State) : Prop :=
  s.anyConfirmed = true → s.envelope.record.pChgLim = 0 ∧ s.envelope.record.pDisLim = 0

def State.FanHeld (s : State) : Prop := s.anyConfirmed = true → s.thermal.command.fanDuty = 0

def State.ConnHeld (s : State) : Prop := LockoutOk s.conn ∧ (s.anyConfirmed = true → s.conn.lockedOut)

def State.StringsHeld (s : State) : Prop := s.anyConfirmed = true → ∀ r ∈ s.strings, ¬r.serving

def State.ReleaseHeld (s : State) : Prop := s.runs → s.fire.releaseFollows

/-- The guard, condition by condition. -/
structure State.Held (s : State) : Prop where
  core : s.Core
  limits : s.LimitsHeld
  fan : s.FanHeld
  conn : s.ConnHeld
  strings : s.StringsHeld
  release : s.ReleaseHeld

theorem stringAt_mem {i : Nat} (h : i < s.strings.length) : s.stringAt i ∈ s.strings := by
  simp [State.stringAt, h]

theorem serving_iff_not (r : StringRec) : ¬r.serving ↔ r.state ≠ .inService ∧ r.state ≠ .restoring := not_or

theorem guarded_iff_held : s.Guarded ↔ s.Held where
  mp hs := by
    obtain ⟨fire, history, release, lockout, zones, eight, four, limits, imageLimits, storeLimits⟩ := hs
    refine ⟨⟨history, lockout, zones, eight, four, limits, imageLimits, storeLimits⟩, fun hc => ?_, fun hc => ?_,
      ⟨lockout, fun hc => ?_⟩, fun hc r hr => ?_, release⟩
    all_goals obtain ⟨chg, dis, fan, locked, strings⟩ := fire hc
    · exact ⟨chg, dis⟩
    · exact fan
    · exact locked
    · obtain ⟨i, hi, rfl⟩ := List.mem_iff_getElem.mp hr
      have out := strings i (four ▸ hi)
      rw [State.stringAt, List.getD_eq_getElem?_getD, List.getElem?_eq_getElem hi, Option.getD_some] at out
      exact (serving_iff_not _).mpr out
  mpr hs := by
    refine ⟨fun hc => ?_, hs.core.history, hs.release, hs.core.lockout, hs.core.zones, hs.core.eightZones,
      hs.core.fourStrings, hs.core.limits, hs.core.imageLimits, hs.core.storeLimits⟩
    obtain ⟨chg, dis⟩ := hs.limits hc
    exact ⟨chg, dis, hs.fan hc, hs.conn.2 hc, fun i hi =>
      (serving_iff_not _).mp (hs.strings hc _ (stringAt_mem (by rw [hs.core.fourStrings]; exact hi)))⟩

/-! ### Below the fire stages each condition is kept -/

/-- An evaluation with a fire-confirmed zone gives limits of zero (R70, R75). -/
theorem fireFactor_of_confirmed (h : s.anyConfirmed = true) : s.fireFactor = 0 := by
  have fold : ∀ (zones : List FireZone) (f : Nat),
      (zones.any (·.stage.confirmed) = true ∨ f = 0) →
      zones.foldl (fun f z => min f (zoneFactor s.tables.t13 z)) f = 0 := by
    intro zones
    induction zones with
    | nil => simp
    | cons z zones ih =>
      rintro f (h | rfl)
      · rw [List.any_cons, Bool.or_eq_true] at h
        rcases h with h | h
        · refine ih _ (.inr ?_)
          have zero : zoneFactor s.tables.t13 z = 0 := by
            unfold zoneFactor
            cases hz : z.stage <;> simp [hz, FireStage.confirmed] at h ⊢
          simp only [zero, Nat.min_zero]
        · exact ih _ (.inl h)
      · exact ih _ (.inr (Nat.zero_min _))
  exact fold _ _ (.inl h)

theorem limitsHeld_evaluate (s : State) : s.evaluate.LimitsHeld := fun hc => by
  have zero : s.fireFactor = 0 := fireFactor_of_confirmed hc
  show s.evaluation.pChgLim = 0 ∧ s.evaluation.pDisLim = 0
  simp [State.evaluation, zero]

theorem steady_limitsHeld : Steady State.LimitsHeld where
  quiet := closed_of_changesOnly fun {s t} h hs => by
    have fire : t.fire = s.fire := h .fire (by decide)
    have envelope : t.envelope = s.envelope := h .envelope (by decide)
    simpa only [State.LimitsHeld, State.anyConfirmed, fire, envelope] using hs
  evaluate _ := limitsHeld_evaluate _
  setConn _ hs := hs
  setStrings _ hs := hs
  setThermal _ hs := hs
  recordCoolant _ hs := hs

theorem fanHeld_recordCoolant {m : CoolantMaking} {o : CommandOutcome} (fan : s.anyConfirmed = true → m.fan = 0) :
    (s.recordCoolant m o).FanHeld := fun hc => by
  show dutyOf m.fan = 0
  rw [fan hc]
  rfl

theorem steady_fanHeld : Steady State.FanHeld where
  quiet := closed_of_changesOnly fun {s t} h hs => by
    have fire : t.fire = s.fire := h .fire (by decide)
    have thermal : t.thermal = s.thermal := h .thermal (by decide)
    simpa only [State.FanHeld, State.anyConfirmed, fire, thermal] using hs
  evaluate hs := hs
  setConn _ hs := hs
  setStrings _ hs := hs
  setThermal same hs := fun hc => by
    have zero := hs hc
    rw [← same] at zero
    exact zero
  recordCoolant fan _ := fanHeld_recordCoolant fan

theorem steady_connHeld : Steady State.ConnHeld where
  quiet := closed_of_changesOnly fun {s t} h hs => by
    have fire : t.fire = s.fire := h .fire (by decide)
    have conn : t.conn = s.conn := h .conn (by decide)
    simpa only [State.ConnHeld, State.anyConfirmed, fire, conn] using hs
  evaluate hs := hs
  setConn step hs := ⟨step.lockout hs.1, fun hc => step.locked hs.1 (hs.2 hc)⟩
  setStrings _ hs := hs
  setThermal _ hs := hs
  recordCoolant _ hs := hs

theorem steady_stringsHeld : Steady State.StringsHeld where
  quiet := closed_of_changesOnly fun {s t} h hs => by
    have fire : t.fire = s.fire := h .fire (by decide)
    have strings : t.strings = s.strings := h .strings (by decide)
    simpa only [State.StringsHeld, State.anyConfirmed, fire, strings] using hs
  evaluate hs := hs
  setConn _ hs := hs
  setStrings step hs := fun hc =>
    forall_mem_of_itemwise (p := fun r : StringRec => ¬r.serving) step (fun step out h => out (step.serving h)) (hs hc)
  setThermal _ hs := hs
  recordCoolant _ hs := hs

theorem steady_releaseHeld : Steady State.ReleaseHeld where
  quiet := closed_of_changesOnly fun {s t} h hs => by
    have fire : t.fire = s.fire := h .fire (by decide)
    have sys : t.sys = s.sys := h .sys (by decide)
    simpa only [State.ReleaseHeld, State.runs, fire, sys] using hs
  evaluate hs := hs
  setConn _ hs := hs
  setStrings _ hs := hs
  setThermal _ hs := hs
  recordCoolant _ hs := hs

theorem steady_core : Steady State.Core where
  quiet := closed_of_changesOnly fun {s t} h hs => by
    have conn : t.conn = s.conn := h .conn (by decide)
    have fire : t.fire = s.fire := h .fire (by decide)
    have strings : t.strings = s.strings := h .strings (by decide)
    have config : t.config = s.config := h .config (by decide)
    have image : t.image = s.image := h .image (by decide)
    have engine : t.engine = s.engine := h .engine (by decide)
    obtain ⟨history, lockout, zones, eight, four, limits, imageLimits, storeLimits⟩ := hs
    constructor <;> simpa only [State.HistoryHolds, State.tables, conn, fire, strings, config, image, engine]
  evaluate hs := ⟨hs.1, hs.2, hs.3, hs.4, hs.5, hs.6, hs.7, hs.8⟩
  setConn step hs := { hs with
    history := fun full => (step.history full).elim id fun full => step.locked hs.lockout (hs.history full)
    lockout := step.lockout hs.lockout }
  setStrings step hs := { hs with fourStrings := step.length_eq.symm.trans hs.fourStrings }
  setThermal _ hs := ⟨hs.1, hs.2, hs.3, hs.4, hs.5, hs.6, hs.7, hs.8⟩
  recordCoolant _ hs := ⟨hs.1, hs.2, hs.3, hs.4, hs.5, hs.6, hs.7, hs.8⟩

/-- An operation that every steady condition outlasts is outlasted by the guard. -/
theorem State.Held.of_steady (hs : s.Held) (keep : ∀ {P : State → Prop}, Steady P → P s → P t) : t.Held :=
  ⟨keep steady_core hs.core, keep steady_limitsHeld hs.limits, keep steady_fanHeld hs.fan, keep steady_connHeld hs.conn,
    keep steady_stringsHeld hs.strings, keep steady_releaseHeld hs.release⟩

/-- The guard reads nine pieces. -/
theorem State.Held.of_same (hs : s.Held) (sys : t.sys = s.sys := by rfl) (strings : t.strings = s.strings := by rfl)
    (record : t.envelope.record = s.envelope.record := by rfl) (conn : t.conn = s.conn := by rfl)
    (thermal : t.thermal = s.thermal := by rfl) (fire : t.fire = s.fire := by rfl)
    (store : t.engine.store = s.engine.store := by rfl) (t9 : t.tables.t9 = s.tables.t9 := by rfl)
    (image : t.image = s.image := by rfl) : t.Held := by
  obtain ⟨⟨history, lockout, zones, eight, four, limits, imageLimits, storeLimits⟩, lim, fan, held, out, release⟩ := hs
  refine ⟨⟨?_, ?_, ?_, ?_, ?_, ?_, ?_, ?_⟩, ?_, ?_, ?_, ?_, ?_⟩ <;>
    simpa only [State.HistoryHolds, State.LimitsHeld, State.FanHeld, State.ConnHeld, State.StringsHeld,
      State.ReleaseHeld, State.runs, State.anyConfirmed, Tables.limitsTrips, sys, strings, record, conn, thermal, fire,
      store, t9, image]

/-- What changes none of the nine pieces keeps the guard. -/
theorem State.Held.congr {L : List Part} (h : s.changesOnly t L)
    (hL : ∀ p ∈ L, p ∉ [Part.sys, .strings, .envelope, .conn, .thermal, .fire, .engine, .config, .image] := by decide)
    (hs : s.Held) : t.Held := by
  have same : ∀ p ∈ [Part.sys, .strings, .envelope, .conn, .thermal, .fire, .engine, .config, .image], s.sameIn t p :=
    fun p hp => h p fun hl => hL p hl hp
  simp only [List.forall_mem_cons, State.sameIn] at same
  obtain ⟨sys, strings, envelope, conn, thermal, fire, engine, config, image, -⟩ := same
  exact hs.of_same sys strings (congrArg _ envelope) conn thermal fire (congrArg _ engine)
    (congrArg (·.tables.t9) config) image

theorem steady_held : Steady State.Held where
  quiet := closed_of_changesOnly fun h => .congr h
  evaluate hs := hs.of_steady fun h => h.evaluate
  setConn step hs := hs.of_steady fun h => h.setConn step
  setStrings step hs := hs.of_steady fun h => h.setStrings step
  setThermal same hs := hs.of_steady fun h => h.setThermal same
  recordCoolant fan hs := hs.of_steady fun h => h.recordCoolant fan

/-! ### The fire zones -/

theorem FireStep.anyConfirmed {f x : FireUnit} (step : FireStep f x) (ok : ∀ z ∈ f.zones, FireZoneOk z)
    (h : x.zones.any (·.stage.confirmed) = true) : f.zones.any (·.stage.confirmed) = true := by
  have zones := step.zones
  obtain ⟨_, zs, _, _⟩ := f
  obtain ⟨_, us, _, _⟩ := x
  dsimp only at ok h zones ⊢
  clear step
  induction zones with
  | nil => exact h
  | cons hd _ ih =>
    rw [List.any_cons, Bool.or_eq_true] at h ⊢
    rw [List.forall_mem_cons] at ok
    exact h.imp (hd.confirmed ok.1) (ih ok.2)

theorem State.Held.setFire (hs : s.Held) {x : FireUnit} (step : FireStep s.fire x) : (s.setFire x).Held := by
  have calm : (s.setFire x).anyConfirmed = true → s.anyConfirmed = true := step.anyConfirmed hs.core.zones
  refine ⟨⟨hs.core.history, hs.core.lockout, ?_, ?_, hs.core.fourStrings, hs.core.limits, hs.core.imageLimits,
    hs.core.storeLimits⟩, hs.limits ∘ calm, hs.fan ∘ calm, ⟨hs.conn.1, hs.conn.2 ∘ calm⟩, hs.strings ∘ calm,
    fun run => step.release hs.core.zones (hs.release run)⟩
  · exact forall_mem_of_itemwise (p := FireZoneOk) step.zones (fun step => step.ok) hs.core.zones
  · exact step.zones.length_eq.symm.trans hs.core.eightZones

theorem zoned_held : Zoned State.Held where
  toSteady := steady_held
  setFire step hs := hs.setFire step

/-! ### A zone's rise to FIRE restores what it suspends (R146) -/

/-- A locking cause leaves the connection locked out, or opening toward that (R110, R111). -/
theorem lockedOut_trip {c : TripCause} (ok : LockoutOk s.conn) (locks : c.locks = true) :
    LockoutOk (s.trip c).conn ∧ (s.trip c).conn.lockedOut := by
  have steady : Steady fun s : State => LockoutOk s.conn ∧ s.conn.lockedOut :=
    { quiet := closed_of_changesOnly fun {s t} h hs => by
        have conn : t.conn = s.conn := h .conn (by decide)
        rwa [conn]
      evaluate := id
      setConn := fun step hs => ⟨step.lockout hs.1, step.locked hs.1 hs.2⟩
      setStrings := fun _ => id
      setThermal := fun _ => id
      recordCoolant := fun _ => id }
  have locked : ∀ {x : ConnRec}, x.lockedOut → x.lockout ≠ .none → LockoutOk x ∧ x.lockedOut :=
    fun h l => ⟨fun _ => l, h⟩
  have combined : ∀ l : Lockout, l.combine c.lockout ≠ .none := fun l =>
    Lockout.combine_ne_none l (TripCause.lockout_ne_none locks)
  have opened : LockoutOk (s.tripOpen c).conn ∧ (s.tripOpen c).conn.lockedOut := by
    rw [State.tripOpen_eq]
    simp only [locks, Bool.true_or, if_true]
    refine steady.changeEval (steady.raise (steady.latch (steady.count (s := s.setConn (s.trippedConn c))
      (locked (.inr ⟨rfl, ?_⟩) ?_))))
    · simp [State.trippedConn, locks]
    · simpa [State.trippedConn, locks] using combined _
  unfold State.trip
  split
  case h_1 | h_2 | h_3 => exact opened
  case h_4 state =>
    rw [if_pos locks]
    exact locked (.inr ⟨state, rfl⟩) (combined _)
  case h_5 =>
    rw [if_pos locks]
    exact steady.changeEval (locked (.inl rfl) (combined _))
  case h_6 =>
    rw [if_pos locks]
    exact steady.changeEval (locked (.inl rfl) (combined _))
  case h_7 state =>
    split
    · exact locked (.inl state) (TripCause.lockout_ne_none locks)
    · exact ⟨ok, .inl state⟩

/-- String `i` is not in service, nor on its way back. -/
def State.outOfService (s : State) (i : Nat) : Prop := ¬(s.stringAt i).serving

theorem outOfService_of_itemwise {x : List StringRec} {i : Nat} (step : Itemwise StringStep s.strings x)
    (hs : s.outOfService i) : (s.setStrings x).outOfService i := by
  intro serving
  apply hs
  have length := step.length_eq
  rcases Nat.lt_or_ge i x.length with hi | hi
  · have moved := step.getElem (List.getElem?_eq_getElem (length ▸ hi)) (List.getElem?_eq_getElem hi)
    simp only [State.stringAt, State.setStrings, List.getD_eq_getElem?_getD, List.getElem?_eq_getElem hi,
      List.getElem?_eq_getElem (length ▸ hi), Option.getD_some] at serving ⊢
    exact moved.serving serving
  · simp only [State.stringAt, State.setStrings, List.getD_eq_getElem?_getD, List.getElem?_eq_none hi,
      List.getElem?_eq_none (length ▸ hi), Option.getD_none] at serving ⊢
    exact serving

theorem steady_outOfService (i : Nat) : Steady fun s => s.outOfService i where
  quiet := closed_of_changesOnly fun {s t} h hs => by
    have strings : t.strings = s.strings := h .strings (by decide)
    simpa only [State.outOfService, State.stringAt, strings] using hs
  evaluate hs := hs
  setConn _ hs := hs
  setStrings step hs := outOfService_of_itemwise step hs
  setThermal _ hs := hs
  recordCoolant _ hs := hs

theorem outOfService_modString {i : Nat} {f : StringRec → StringRec} (h : ∀ r, ¬(f r).serving) :
    (s.modString i f).outOfService i := by
  show ¬((s.strings.modify i f).getD i _).serving
  rcases Nat.lt_or_ge i s.strings.length with hi | hi
  · simpa [hi] using h _
  · simp [hi, StringRec.serving, StringRec.atReset]

/-- A cause leaves its string out of service (R30). -/
theorem outOfService_raiseCause (s : State) (i : Nat) (c : IsolationCause) : (s.raiseCause i c).outOfService i := by
  by_cases serving : (s.stringAt i).serving
  · have isolated : (s.isolate i (some c) none).outOfService i :=
      (steady_outOfService i).stringMoved (outOfService_modString fun _ => by simp [StringRec.serving])
    rcases serving with state | state
    · simpa only [State.raiseCause, state] using isolated
    · simpa only [State.raiseCause, state] using isolated
  · exact (steady_outOfService i).raiseCause serving

/-- A cause raised for every string leaves none in service. -/
theorem stringsHeld_raiseCauses (four : s.strings.length = 4) (c : IsolationCause) :
    (s.forEach (List.range 4) fun i s => s.raiseCause i c).StringsHeld := by
  have all : ∀ (is : List Nat) (s : State) (i : Nat), i ∈ is ∨ s.outOfService i →
      (s.forEach is fun i s => s.raiseCause i c).outOfService i := by
    intro is
    induction is with
    | nil => exact fun s i h => h.elim (fun h => nomatch h) id
    | cons j is ih =>
      rintro s i (h | h)
      · rcases List.mem_cons.mp h with rfl | h
        · exact ih _ _ (.inr (outOfService_raiseCause s i c))
        · exact ih _ _ (.inl h)
      · exact ih _ _ (.inr ((steady_outOfService i).raiseCause h))
  have four' : (s.forEach (List.range 4) fun i s => s.raiseCause i c).strings.length = 4 := by
    have steady : Steady fun s : State => s.strings.length = 4 :=
      { quiet := closed_of_changesOnly fun {s t} h hs => by
          have strings : t.strings = s.strings := h .strings (by decide)
          rwa [strings]
        evaluate := id
        setConn := fun _ => id
        setStrings := fun step hs => step.length_eq.symm.trans hs
        setThermal := fun _ => id
        recordCoolant := fun _ => id }
    exact steady.forEach (fun _ _ => steady.raiseCause) four
  intro _ r hr
  obtain ⟨i, hi, rfl⟩ := List.mem_iff_getElem.mp hr
  have out := all (List.range 4) s i (.inl (List.mem_range.mpr (four' ▸ hi)))
  rwa [State.outOfService, State.stringAt, List.getD_eq_getElem?_getD, List.getElem?_eq_getElem hi, Option.getD_some] at out

/-- A making leaves the fan at rest while a zone is fire-confirmed (R125). -/
theorem fanHeld_makeCoolant (s : State) (urgent : Bool) : (s.makeCoolant urgent).FanHeld := by
  have fan : s.anyConfirmed = true → s.coolantMaking.fan = 0 := Steady.coolantMaking_fan
  have fanNormal : ∀ p, (s.placeNormal p).anyConfirmed = true → s.coolantMaking.fan = 0 := fun p hc => by
    have same : (s.placeNormal p).fire = s.fire := placeNormal_frame s p .fire (by decide)
    rw [State.anyConfirmed, same] at hc
    exact fan hc
  unfold State.makeCoolant
  dsimp only
  split
  · exact steady_fanHeld.count (fanHeld_recordCoolant fan)
  · split
    · exact fanHeld_recordCoolant fan
    · split
      · exact fanHeld_recordCoolant (fanNormal _)
      · exact steady_fanHeld.count (fanHeld_recordCoolant (fanNormal _))

/-- The zone has reached FIRE, and nothing has been handed on yet. -/
def State.ignited (s : State) (z : Nat) : State :=
  s.modFireZone z fun r => { r with stage := .fire, clearTimer := none, fireTime := some s.time }

/-- What a zone newly in FIRE hands on before its release (R146). -/
def State.burnt (s : State) (z : Nat) : State :=
  (((((s.ignited z).raise .fire (some z)).latch .fire).changeEval.trip .fire).forEach (List.range 4)
    fun i s => s.raiseCause i .fire).clearAllMasks.makeCoolant true

theorem State.reachFire_eq (s : State) (z : Nat) : s.reachFire z = (s.burnt z).startRelease z := rfl

theorem ignited_zones (s : State) (z : Nat) : (s.ignited z).fire.zones =
    s.fire.zones.modify z fun r => { r with stage := .fire, clearTimer := none, fireTime := some s.time } := rfl

/-- Of the guard, the rise of a zone to FIRE leaves what does not read whether one is confirmed. -/
theorem core_ignited (hs : s.Core) (z : Nat) : (s.ignited z).Core :=
  { hs with
    zones := forall_mem_of_itemwise (p := FireZoneOk) (R := fun z u => FireZoneOk z → FireZoneOk u)
      (itemwise_modify (fun _ => id) fun _ _ _ => ⟨fun _ h => (nomatch h), fun _ => rfl⟩) (fun step => step) hs.zones
    eightZones := (List.length_modify ..).trans hs.eightZones }

theorem any_eq_of_itemwise {α : Type} {p : α → Bool} {l m : List α} (h : Itemwise (fun a b => p b = p a) l m) :
    m.any p = l.any p := by
  induction h with
  | nil => rfl
  | cons hd _ ih => rw [List.any_cons, List.any_cons, hd, ih]

theorem releaseHeld_ignited (hs : s.ReleaseHeld) {z : Nat} (low : (s.fireZone z).stage.confirmed = false) :
    (s.ignited z).ReleaseHeld := fun run => by
  have step : Itemwise (fun z u : FireZone => (u.stage == .released) = (z.stage == .released)) s.fire.zones
      (s.ignited z).fire.zones := by
    rw [ignited_zones]
    refine itemwise_modify (R := fun z u : FireZone => (u.stage == .released) = (z.stage == .released)) (fun _ => rfl)
      fun r hr => ?_
    rw [fireZone_of_getElem? hr] at low
    cases h : r.stage <;> first | exact rfl | (rw [h] at low; exact nomatch low)
  exact (hs run).trans (any_eq_of_itemwise step).symm

theorem burnt_fire (s : State) (z : Nat) : (s.burnt z).fire = (s.ignited z).fire := by
  have steady : Steady fun t : State => t.fire = (s.ignited z).fire :=
    { quiet := closed_of_changesOnly fun {s t} h hs => (h .fire (by decide)).trans hs
      evaluate := id
      setConn := fun _ => id
      setStrings := fun _ => id
      setThermal := fun _ => id
      recordCoolant := fun _ => id }
  unfold State.burnt
  exact steady.makeCoolant (steady.quiet.clearAllMasks (by decide) (steady.forEach (fun _ _ => steady.raiseCause)
    (steady.trip (steady.changeEval (steady.latch (steady.raise rfl))))))

/-- A zone newly in FIRE leaves the container held off (R146). -/
theorem held_burnt (hs : s.Held) {z : Nat} (low : (s.fireZone z).stage.confirmed = false) : (s.burnt z).Held := by
  have rest : ∀ {P : State → Prop}, Steady P → ∀ {t : State}, P t → P (t.clearAllMasks.makeCoolant true) :=
    fun h _ ht => h.makeCoolant (h.quiet.clearAllMasks (by decide) ht)
  have causes : ∀ {P : State → Prop}, Steady P → ∀ {t : State}, P t →
      P (t.forEach (List.range 4) fun i s => s.raiseCause i .fire) := fun h _ => h.forEach fun _ _ => h.raiseCause
  have evaluated : ∀ {P : State → Prop}, Steady P → P (s.ignited z) →
      P (((s.ignited z).raise .fire (some z)).latch .fire).changeEval := fun h ht =>
    h.changeEval (h.latch (h.raise ht))
  have all : ∀ {P : State → Prop}, Steady P → P (s.ignited z) → P (s.burnt z) := fun h ht =>
    rest h (causes h (h.trip (evaluated h ht)))
  have core := core_ignited hs.core z
  refine ⟨all steady_core core, ?_, fanHeld_makeCoolant _ _, ?_, ?_, all steady_releaseHeld (releaseHeld_ignited hs.release low)⟩
  · have held : ∀ t : State, t.changeEval.LimitsHeld := fun t =>
      keeps_ite (steady_limitsHeld.correct (limitsHeld_evaluate t)) (limitsHeld_evaluate t)
    exact rest steady_limitsHeld (causes steady_limitsHeld (steady_limitsHeld.trip (held _)))
  · have locked := lockedOut_trip (c := .fire) (evaluated steady_core core).lockout rfl
    exact rest steady_connHeld (causes steady_connHeld ⟨locked.1, fun _ => locked.2⟩)
  · exact rest steady_stringsHeld (stringsHeld_raiseCauses (steady_core.trip (evaluated steady_core core)).fourStrings _)

theorem held_reachFire (hs : s.Held) {z : Nat} (inRange : z < 8) (low : (s.fireZone z).stage.confirmed = false) :
    (s.reachFire z).Held := by
  rw [State.reachFire_eq]
  refine zoned_held.startRelease ?_ (held_burnt hs low)
  have zone : z < s.fire.zones.length := hs.core.eightZones.symm ▸ inRange
  rw [State.fireZone, burnt_fire]
  simp [State.ignited, State.modFireZone, zone]

/-! ### A fall to NORMAL (R149) -/

/-- RELEASE_OUT is asserted where a zone is RELEASED, whatever else asserts it. -/
def State.ReleaseCovers (s : State) : Prop :=
  s.runs → s.fire.zones.any (·.stage == .released) = true → s.fire.releaseOut = true

theorem steady_releaseCovers : Steady State.ReleaseCovers where
  quiet := closed_of_changesOnly fun {s t} h hs => by
    have fire : t.fire = s.fire := h .fire (by decide)
    have sys : t.sys = s.sys := h .sys (by decide)
    simpa only [State.ReleaseCovers, State.runs, fire, sys] using hs
  evaluate hs := hs
  setConn _ hs := hs
  setStrings _ hs := hs
  setThermal _ hs := hs
  recordCoolant _ hs := hs

/-- A zone in NORMAL has no timer of a higher stage, and takes no zone to a confirmed stage. -/
theorem zoneStep_normal (r : FireZone) :
    ZoneStep r { r with stage := .normal, clearTimer := none, countdown := none, fireTime := none } :=
  ⟨fun _ => ⟨fun _ h => (nomatch h), fun h => absurd rfl h⟩, fun _ h => (nomatch h)⟩

theorem any_of_zoneStep {zs us : List FireZone} (step : Itemwise ZoneStep zs us) (ok : ∀ z ∈ zs, FireZoneOk z)
    (h : us.any (·.stage.confirmed) = true) : zs.any (·.stage.confirmed) = true := by
  induction step with
  | nil => exact h
  | cons hd _ ih =>
    rw [List.any_cons, Bool.or_eq_true] at h ⊢
    rw [List.forall_mem_cons] at ok
    exact h.imp (hd.confirmed ok.1) (ih ok.2)

theorem held_fallen (hs : s.Held) (z : Nat) : (s.fallen z).Held := by
  let cleared := s.modFireZone z fun r =>
    { r with stage := .normal, clearTimer := none, countdown := none, fireTime := none }
  have steps : Itemwise ZoneStep s.fire.zones cleared.fire.zones :=
    itemwise_modify ZoneStep.refl fun r _ => zoneStep_normal r
  have calm : cleared.anyConfirmed = true → s.anyConfirmed = true := any_of_zoneStep steps hs.core.zones
  have fall : ∀ {P : State → Prop}, Steady P → P cleared →
      P (if decide (0 < (s.fireZone z).stage.rank) then cleared.handFall z else cleared) := fun h ht =>
    keeps_ite (h.handFall ht) ht
  have core : cleared.Core := { hs.core with
    zones := forall_mem_of_itemwise (p := FireZoneOk) steps (fun step => step.ok) hs.core.zones
    eightZones := steps.length_eq.symm.trans hs.core.eightZones }
  have covers : cleared.ReleaseCovers := fun run any => by
    refine (hs.release run).trans (List.any_eq_true.mpr ?_)
    obtain ⟨u, hu, released⟩ := List.any_eq_true.mp any
    obtain ⟨i, hi⟩ := List.mem_iff_getElem?.mp hu
    change (s.fire.zones.modify z _)[i]? = some u at hi
    rw [List.getElem?_modify] at hi
    obtain ⟨r, hr, rfl⟩ := Option.map_eq_some_iff.mp hi
    refine ⟨r, List.mem_of_getElem? hr, ?_⟩
    split at released
    · nomatch released
    · exact released
  have limits := fall steady_limitsHeld (hs.limits ∘ calm)
  have fan := fall steady_fanHeld (hs.fan ∘ calm)
  have conn := fall steady_connHeld ⟨hs.conn.1, hs.conn.2 ∘ calm⟩
  have strings := fall steady_stringsHeld (hs.strings ∘ calm)
  have covered := fall steady_releaseCovers covers
  have fallenCore := fall steady_core core
  exact ⟨{ fallenCore with }, limits, fan, conn, strings, fun run => Bool.and_eq_right_iff_imp.mpr (covered run)⟩

/-! ### Loads, stores and resets (R119, R151, R169, R170, R179) -/

/-- A table copied from another set has its trip_limit of one of the two. -/
theorem Tables.limitsTrips_copy {t u : Tables} (ht : t.limitsTrips) (hu : u.limitsTrips) (n : Nat) :
    (t.copy u n).limitsTrips := by
  unfold Tables.copy
  split
  · rename_i c hc
    cases c with
    | t9 x =>
      have same : x = u.t9 := by
        unfold Tables.get at hc
        split at hc <;> simp_all
      exact same ▸ hu
    | _ => exact ht
  · exact ht

theorem Image.limitsTrips_loadedTables {m : Image} (h : m.tables.limitsTrips) : m.loadedTables.limitsTrips :=
  List.foldlRecOn _ _ (motive := Tables.limitsTrips) (show 1 ≤ Tables.builtIn.t9.tripLimit by decide) fun t ht n _ => by
    split
    · exact Tables.limitsTrips_copy ht h n
    · exact ht

theorem held_recordWritten (hs : s.Held) (c : Bool) : (s.recordWritten c).Held := by
  have written : ∀ w, s.engine.store = some w → ∀ {e : Engine}, (∀ v, e.store = some v → v.tables = w.tables) →
      ((s.setImage (s.image.written w c)).setEngine e).Held := fun w hw e same =>
    ⟨{ hs.core with
        imageLimits := Tables.limitsTrips_copy hs.core.imageLimits (hs.core.storeLimits w hw) _
        storeLimits := fun v hv => same v hv ▸ hs.core.storeLimits w hw },
      hs.limits, hs.fan, hs.conn, hs.strings, hs.release⟩
  unfold State.recordWritten
  split
  · exact hs
  · rename_i w hw
    dsimp only
    split
    · exact written w hw fun v hv => (Option.some.inj hv) ▸ rfl
    · split
      · exact steady_held.raise (written w hw fun v hv => nomatch hv)
      · exact steady_held.raise (written w hw fun v hv => nomatch hv)

theorem held_beginReset (hs : s.Held) (b r : Bool) : (s.beginReset b r).Held := by
  have cut : s.cutStore.Core := by
    unfold State.cutStore
    split
    · exact hs.core
    · exact { hs.core with storeLimits := fun _ h => nomatch h }
  have fire : s.cutStore.fire = s.fire := by unfold State.cutStore; split <;> rfl
  have conn : s.cutStore.conn = s.conn := by unfold State.cutStore; split <;> rfl
  have strings : s.cutStore.strings = s.strings := by unfold State.cutStore; split <;> rfl
  have envelope : s.cutStore.envelope = s.envelope := by unfold State.cutStore; split <;> rfl
  have thermal : s.cutStore.thermal = s.thermal := by unfold State.cutStore; split <;> rfl
  have calm : (s.beginReset b r).anyConfirmed = true → s.anyConfirmed = true := by
    show s.cutStore.fire.zones.any _ = true → _
    rw [fire]
    exact id
  refine ⟨⟨cut.history, cut.lockout, cut.zones, cut.eightZones, cut.fourStrings, cut.limits, cut.imageLimits,
    cut.storeLimits⟩, fun hc => ?_, fun hc => ?_, ⟨cut.lockout, fun hc => ?_⟩, fun hc => ?_, fun run => nomatch run⟩
  · have held := hs.limits (calm hc)
    rwa [← envelope] at held
  · have held := hs.fan (calm hc)
    rwa [← thermal] at held
  · have held := hs.conn.2 (calm hc)
    rwa [← conn] at held
  · have held := hs.strings (calm hc)
    rwa [← strings] at held

theorem fireZoneAfterReset_ok {cause : ResetCause} {u : Tables} (z : FireZone) :
    FireZoneOk (s.fireZoneAfterReset cause u z) := by
  unfold State.fireZoneAfterReset
  split
  · rename_i kept
    simp only [Bool.and_eq_true] at kept
    exact ⟨fun _ h => (nomatch h), fun _ => kept.2⟩
  · exact ⟨fun _ h => (nomatch h), fun h => absurd rfl h⟩

/-- A kept fire-confirmed zone was one before a reset that retains (R151). -/
theorem confirmed_of_afterReset {cause : ResetCause} {u : Tables} {z : FireZone}
    (h : (s.fireZoneAfterReset cause u z).stage.confirmed = true) :
    (cause != .powerOn) = true ∧ z.stage.confirmed = true := by
  unfold State.fireZoneAfterReset at h
  split at h
  · rename_i kept
    exact Bool.and_eq_true_iff.mp kept
  · nomatch h

/-- A retained lockout, or a full history, leaves a reset OPEN_LOCKED (R119). -/
theorem lockedOut_connAfterReset {cause : ResetCause} {u : Tables}
    (h : (s.connAfterReset cause u).lockout ≠ .none) : (s.connAfterReset cause u).lockedOut := by
  left
  show (if (s.connAfterReset cause u).lockout == .none then ConnState.openWait else ConnState.openLocked) = .openLocked
  rw [if_neg (by simpa using h)]

theorem lockout_of_lockedOut_connAfterReset {cause : ResetCause} {u : Tables}
    (h : (s.connAfterReset cause u).lockedOut) : (s.connAfterReset cause u).lockout ≠ .none := by
  have state : (s.connAfterReset cause u).state =
    if (s.connAfterReset cause u).lockout == .none then ConnState.openWait else ConnState.openLocked := rfl
  intro none
  rw [none] at state
  exact absurd h (ConnRec.not_lockedOut_of (x := .openWait) state)

theorem lockout_connAfterReset_of_full {cause : ResetCause} {u : Tables}
    (h : u.t9.tripLimit ≤ (s.connAfterReset cause u).history.length) : (s.connAfterReset cause u).lockout ≠ .none := by
  let history := if cause != .powerOn then s.keptHistory else []
  let kept := if cause != .powerOn then s.conn.lockout else .none
  have full : u.t9.tripLimit ≤ history.length := by
    refine Nat.le_of_not_lt fun few => ?_
    have whole : (s.connAfterReset cause u).history = history := if_neg fun full => Nat.not_le.mpr few (of_decide_eq_true full)
    exact Nat.not_le.mpr few (whole ▸ h)
  have held : (s.connAfterReset cause u).lockout =
      if decide (u.t9.tripLimit ≤ history.length) && kept == .none then .history else kept := rfl
  rw [held, decide_eq_true full, Bool.true_and]
  split
  · decide
  · rename_i other
    exact fun none => other (beq_iff_eq.mpr none)

theorem held_blocksAfterReset (hs : s.Held) (cause : ResetCause) (found : ResetEnd) :
    (s.blocksAfterReset cause found).Held := by
  have confirmed : (s.blocksAfterReset cause found).anyConfirmed = true →
      (cause != .powerOn) = true ∧ s.anyConfirmed = true := fun hc => by
    obtain ⟨u, hu, hc⟩ := List.any_eq_true.mp hc
    obtain ⟨z, hz, rfl⟩ := List.mem_map.mp hu
    obtain ⟨retains, hc⟩ := confirmed_of_afterReset hc
    exact ⟨retains, List.any_eq_true.mpr ⟨z, hz, hc⟩⟩
  refine ⟨⟨fun full => ?_, fun h => lockout_of_lockedOut_connAfterReset h, fun u hu => ?_, ?_, ?_,
    Image.limitsTrips_loadedTables hs.core.imageLimits, hs.core.imageLimits, fun _ h => nomatch h⟩, fun _ => ⟨rfl, rfl⟩,
    fun _ => rfl, ⟨fun h => lockout_of_lockedOut_connAfterReset h, fun hc => ?_⟩, fun _ u hu => ?_, fun _ => rfl⟩
  · exact lockedOut_connAfterReset (lockout_connAfterReset_of_full full)
  · obtain ⟨z, -, rfl⟩ := List.mem_map.mp hu
    exact fireZoneAfterReset_ok z
  · exact (List.length_map ..).trans hs.core.eightZones
  · exact List.length_mapIdx.trans hs.core.fourStrings
  · refine lockedOut_connAfterReset ?_
    obtain ⟨retains, hc⟩ := confirmed hc
    have kept : s.conn.lockout ≠ .none := hs.conn.1 (hs.conn.2 hc)
    simp [State.connAfterReset, retains, kept]
  · obtain ⟨i, hi, rfl⟩ := List.mem_mapIdx.mp hu
    simp [StringRec.serving, stringAfterReset, StringRec.atReset]

/-! ### Every command -/

/-- A change of the connection record that is locked out where the guard has it so. -/
theorem State.Held.setConn (hs : s.Held) {x : ConnRec} (ok : LockoutOk x)
    (history : s.tables.t9.tripLimit ≤ x.history.length → x.lockedOut) (held : s.anyConfirmed = true → x.lockedOut) :
    (s.setConn x).Held where
  core := { hs.core with history, lockout := ok }
  limits := hs.limits
  fan := hs.fan
  conn := ⟨ok, held⟩
  strings := hs.strings
  release := hs.release

/-- A table T9 taken leaves fewer trips in the history than its trip_limit (R113). -/
theorem held_loadConnection (hs : s.Held) {u : ConnectionSettings} (limit : 1 ≤ u.tripLimit) :
    (s.putTable (.t9 u)).truncateHistory.Held := by
  have put : ∀ {v : State}, v.conn.state = s.conn.state → v.conn.target = s.conn.target →
      v.conn.lockout = s.conn.lockout → ¬u.tripLimit ≤ v.conn.history.length →
      v = (s.putTable (.t9 u)).setConn v.conn → v.Held := fun {v} state target lockout few whole => by
    have locked : v.conn.lockedOut = s.conn.lockedOut := by simp only [ConnRec.lockedOut, state, target]
    have ok : LockoutOk v.conn := by simpa only [LockoutOk, locked, lockout] using hs.core.lockout
    rw [whole]
    exact ⟨{ hs.core with history := fun full => absurd full few, lockout := ok, limits := limit }, hs.limits, hs.fan,
      ⟨ok, fun hc => locked ▸ hs.conn.2 hc⟩, hs.strings, hs.release⟩
  unfold State.truncateHistory
  split
  · refine put rfl rfl rfl ?_ rfl
    show ¬u.tripLimit ≤ (s.conn.history.drop (s.conn.history.length - (u.tripLimit - 1))).length
    rw [List.length_drop]
    omega
  · rename_i free
    exact put rfl rfl rfl (fun full => free (decide_eq_true full)) rfl

theorem guard_held : Guard State.Held where
  toZoned := zoned_held
  setFieldPort _ hs := hs.of_same
  setStationPort _ hs := hs.of_same
  setNotices _ hs := hs.of_same
  envelopeTimer _ hs := hs.of_same
  enforceOpen {s x} against locked lockout history _ hs := by
    refine hs.setConn (fun _ => ?_) (fun _ => locked) fun _ => locked
    rw [lockout]
    exact against.elim id fun hc => hs.conn.1 (hs.conn.2 hc)
  unlock calm free empty _ hs := by
    refine hs.setConn (fun locked => absurd locked free) (fun full => ?_) fun hc => nomatch calm.symm.trans hc
    rw [empty] at full
    exact absurd (Nat.le_trans hs.core.limits full) (by decide)
  startServing calm step hs := ⟨{ hs.core with fourStrings := step.length_eq.symm.trans hs.core.fourStrings },
    hs.limits, hs.fan, hs.conn, fun hc => (nomatch calm.symm.trans hc), hs.release⟩
  reachFire := fun z low hs => held_reachFire hs z low
  fallen hs := held_fallen hs _
  setConfig same hs := hs.of_same (t9 := same)
  loadConnection limit hs := held_loadConnection hs limit
  setEngine same hs := hs.of_same (store := same)
  beginStore store tables _ hs := { hs with core := { hs.core with
    storeLimits := fun v hv => by
      obtain rfl := Option.some.inj (store.symm.trans hv)
      rw [tables]
      exact hs.core.limits } }
  recordWritten hs := held_recordWritten hs _
  beginReset b r hs := held_beginReset hs b r
  blocksAfterReset c found hs := held_blocksAfterReset hs c found

/-- Settles O11, from the changes that the guarding blocks are made of. -/
theorem guardOutlastsEveryStep : Obligations.GuardOutlastsEveryStep := fun _ _ hs h =>
  guarded_iff_held.mpr (guard_held.commandOps.step (fun _ hs => hs.of_same) (fun _ hs => hs.of_same)
    (guarded_iff_held.mp hs) h)

end Sys2Proof.Machine
end

section
/-! PROOFS of O1, O3, O4 and O7: a step takes the front command; an idle part and one held in reset only wait; BROWN OUT
and RESETN ASSERT hold the part; and the state after reset is what a POWER_ON reset leaves (R178, R179). -/

namespace Sys2Proof.Machine

variable {s t : State}

/-- Settles O1: what `step` says of a queue that is not empty. -/
theorem stepExecutesTheFrontCommand : Obligations.StepExecutesTheFrontCommand := fun s c rest h => by
  rw [step, h]

/-! ### Waiting (R179) -/

/-- What waits for the end of a reset changes nothing while one holds the part. -/
theorem State.whileRunning_of_held (h : ¬s.runs) (f : State → State) : s.whileRunning f = .next s := by
  unfold State.whileRunning
  rw [if_neg (by simpa [State.runs] using h)]

theorem State.whileRunning_of_runs (h : s.runs) (f : State → State) : s.whileRunning f = .next (f s) := by
  unfold State.whileRunning
  rw [if_pos (by simpa [State.runs] using h)]

theorem tick_of_runs (h : s.runs) : s.tick = s.setTime (s.time + 1) := if_pos (by simpa [State.runs] using h)

theorem tick_of_held (h : ¬s.runs) : s.tick = s := if_neg (by simpa [State.runs] using h)

/-- While a reset holds the part, the commands that do not act in it change nothing (R179). -/
theorem exec_of_held {c : Instr} (held : ¬s.runs) (h : actsInReset c = false) : exec c s = .next s := by
  cases c with
  | lineLevelChange | brownOut | resetnAssert | resetComplete => nomatch h
  | _ =>
    dsimp only [exec]
    exact State.whileRunning_of_held held _

/-- Settles O3, from what waits for the end of a reset. -/
theorem idleAndHeldPartsOnlyWait : Obligations.IdleAndHeldPartsOnlyWait := by
  refine ⟨fun s idle => ?_, fun c s held waits => ?_⟩
  · rw [step, idle]
    exact ⟨fun runs => congrArg _ (tick_of_runs runs), fun held => congrArg _ (tick_of_held held)⟩
  · exact exec_of_held held waits

/-! ### The beginning of a reset (R170, R179) -/

theorem cutStore_engine (s : State) : s.cutStore.engine = { s.engine with store := none } := by
  unfold State.cutStore
  split
  · rename_i idle
    rw [← idle]
  · rfl

theorem cutStore_image_of_idle (h : s.engine.store = none) : s.cutStore.image = s.image := by
  simp only [State.cutStore, h]

theorem cutStore_image_of_writing {w : StoreWrite} (h : s.engine.store = some w) :
    s.cutStore.image = { s.image with ok := s.image.ok.set (w.record - 1) false } := by
  simp only [State.cutStore, h, State.setEngine_image, State.setImage_image]

theorem cutStore_frame (s : State) : s.changesOnly s.cutStore [.engine, .image] := by
  unfold State.cutStore
  split
  · exact State.changesOnly_refl s _
  · exact (closed_frame s _).setEngine (by decide) ((closed_frame s _).setImage (by decide) (State.changesOnly_refl s _))

theorem Option.getD_field {α : Type} (o : Option α) (d : α) (f : α → Bool) (hd : f d = false) :
    f (o.getD d) = true ↔ ∃ k, o = some k ∧ f k = true := by
  cases o <;> simp [hd]

/-- Settles O4, from what a reset that begins does to each piece. -/
theorem resetEventsHoldThePart : Obligations.ResetEventsHoldThePart := fun s brownOut => by
  let held := s.sys.hold.getD ⟨false, false⟩
  have cut := cutStore_frame s
  have sys : s.cutStore.sys = s.sys := cut .sys (by decide)
  have conn : s.cutStore.conn = s.conn := cut .conn (by decide)
  have fire : s.cutStore.fire = s.fire := cut .fire (by decide)
  refine ⟨s.beginReset brownOut !brownOut, ⟨held.brownOut || brownOut, held.resetn || !brownOut⟩, ?_, ?_, ?_, ?_, rfl, rfl,
    rfl, ?_, ?_, ?_, ?_, ?_, ?_⟩
  · cases brownOut <;> rfl
  · exact congrArg (fun y : Sys => { y with hold := some ⟨held.brownOut || brownOut, held.resetn || !brownOut⟩ }) sys
  · rw [Bool.or_eq_true, or_comm, Option.getD_field _ _ ResetHold.brownOut rfl]
  · rw [Bool.or_eq_true, or_comm, Option.getD_field _ _ ResetHold.resetn rfl, Bool.not_eq_true']
  · exact congrArg (fun y : ConnRec => { y with tripOut := none, closeOut := none }) conn
  · exact congrArg (fun y : FireUnit => { y with releaseOut := y.releaseOut && !brownOut }) fire
  · exact congrArg (fun y : Engine => { y with restartPending := false }) (cutStore_engine s)
  · exact cutStore_image_of_idle
  · exact fun w => cutStore_image_of_writing
  · exact beginReset_frame s _ _

/-! ### The state after reset (R179) -/

theorem exec_resetComplete (found : ResetEnd) (s : State) :
    exec (.resetComplete found) s = .next (s.completeReset found) := rfl

theorem completeReset_of_held {h : ResetHold} (held : s.sys.hold = some h) (found : ResetEnd) :
    s.completeReset found = (s.blocksAfterReset h.cause found).start s := by
  simp only [State.completeReset, held]

/-- Two states that agree in every piece are one. -/
theorem State.eq_of_sameIn (h : ∀ p, s.sameIn t p) : t = s := by
  obtain ⟨⟩ := s
  obtain ⟨⟩ := t
  rw [State.mk.injEq]
  exact ⟨h .pending, h .time, h .sys, h .rounds, h .modules, h .strings, h .cellsHold, h .limits, h .envelope, h .gate,
    h .grid, h .conn, h .thermal, h .fire, h .nodes, h .fieldPort, h .stationPort, h .engine, h .notices, h .flags,
    h .config, h .image, h .lines, h .supply, h .counters, h .choices⟩

/-- The Configuration Store that the initial image gives (R179; log 2). -/
theorem initial_loaded : Image.initial.loaded = State.reset.config := by
  have tables : Image.initial.loadedTables = .builtIn := by decide +kernel
  unfold Image.loaded
  rw [tables]
  rfl

/-- What the part starts with leaves the configuration alone. -/
theorem start_config (s old : State) : (s.start old).config = s.config :=
  (closed_frame s [.envelope, .gate, .thermal, .fire, .fieldPort, .notices, .flags, .counters]).start
    (List.Subset.refl _) (State.changesOnly_refl s _) .config (by decide)

/-- A POWER_ON reset on the initial image leaves the state after reset (log 2). -/
theorem completeReset_initial : (State.atReset.setSys ⟨some ⟨true, false⟩, .powerOn, 120⟩).completeReset ⟨0, true, false⟩ =
    State.reset := by
  refine State.eq_of_sameIn fun p => ?_
  cases p
  case config =>
    rw [completeReset_of_held rfl]
    exact (start_config _ _).trans initial_loaded
  all_goals
    unfold State.sameIn
    dsimp only
    decide +kernel

theorem reset_ok : State.reset.Ok := by
  refine ⟨?_, ?_, ?_, ?_⟩
  · unfold NoticesOk
    decide +kernel
  · exact ⟨rfl, rfl⟩
  · exact ⟨by decide, fun _ h => (nomatch h), List.Pairwise.nil⟩
  · exact (by decide : State.reset.stationPort.used ≤ 32)

theorem reset_guarded : State.reset.Guarded := by
  have calm : State.reset.anyConfirmed = false := by decide
  exact
    { fire := fun hc => nomatch calm.symm.trans hc
      history := fun full => absurd full (by decide)
      release := fun _ => by decide
      lockout := fun h => absurd h (ConnRec.not_lockedOut_of (x := .openWait) rfl)
      zones := fun z hz => by
        obtain rfl : z = .atReset := List.eq_of_mem_replicate hz
        exact ⟨fun _ h => (nomatch h), fun h => absurd rfl h⟩
      eightZones := rfl
      fourStrings := rfl
      limits := (by decide : 1 ≤ State.reset.tables.t9.tripLimit)
      imageLimits := (by decide : 1 ≤ State.reset.image.tables.t9.tripLimit)
      storeLimits := fun _ h => nomatch h }

theorem reset_chargesOk : State.reset.ChargesOk where
  records := fun r hr => by
    obtain rfl := List.eq_of_mem_replicate hr
    exact ChargeRec.atPowerOn_ok (by decide) _
  image := by decide
  store := fun _ h => nomatch h

/-- Settles O7, by evaluation of the reset and of the conditions on its end. -/
theorem resetStateFollowsFromPowerOn : Obligations.ResetStateFollowsFromPowerOn := by
  refine ⟨?_, reset_ok, .inl rfl, reset_guarded, reset_chargesOk⟩
  rintro _ rfl
  rw [exec_resetComplete, completeReset_initial]

end Sys2Proof.Machine
end

section
/-! PROOFS of O13, O14 and O15: what becomes of a frame received on the Field Port (R153, R155, R157, R158). -/

namespace Sys2Proof.Machine

variable {s : State}

/-! ### The node record (R155) -/

theorem nodeAt_modNode_same {i : Nat} (f : NodeRec → NodeRec) (h : i < s.nodes.length) :
    (s.modNode i f).nodeAt i = f (s.nodeAt i) := by
  simp [State.nodeAt, State.modNode, h]

theorem nodeAt_modNode_other {i j : Nat} (f : NodeRec → NodeRec) (h : j ≠ i) :
    (s.modNode i f).nodeAt j = s.nodeAt j := by
  simp [State.nodeAt, State.modNode, List.getElem?_modify, Ne.symm h]

@[simp] theorem nodeAt_raise (s : State) (k : NoticeKind) (x : Option Nat) (i : Nat) :
    (s.raise k x).nodeAt i = s.nodeAt i := by
  rw [State.nodeAt, raise_frame s k x .nodes (by decide), State.nodeAt]

/-- Settles O15, from the change of the node record and what a notice changes. -/
theorem takenFrameMakesItsNodeLive : Obligations.TakenFrameMakesItsNodeLive := fun s i e hi => by
  have frame : s.changesOnly (s.nodeHeard i e) [.nodes, .notices, .counters] :=
    (closed_frame s _).nodeHeard (List.Subset.refl _) (State.changesOnly_refl s _)
  let heard := s.modNode i fun r =>
    { r with taken := inc16 r.taken, state := .live, silenceEnd := s.silenceEnd e.timeout }
  have record : ∀ j, (s.nodeHeard i e).nodeAt j = heard.nodeAt j := fun j => by
    unfold State.nodeHeard
    dsimp only
    split
    · exact nodeAt_raise _ _ _ _
    · rfl
  have own : (s.nodeHeard i e).nodeAt i =
      { s.nodeAt i with
        taken := inc16 (s.nodeAt i).taken, state := .live, silenceEnd := s.silenceEnd e.timeout } :=
    (record i).trans (nodeAt_modNode_same _ hi)
  dsimp only
  rw [own]
  refine ⟨rfl, rfl, ?_, rfl, rfl, fun j hj => (record j).trans (nodeAt_modNode_other _ hj), ?_, ?_, frame⟩
  · simp [State.silenceEnd]
  · unfold State.nodeHeard
    by_cases silent : (s.nodeAt i).state = .silent
    · simp [silent, State.modNode]
    · simp [silent, State.modNode]
  · unfold State.nodeHeard
    by_cases silent : (s.nodeAt i).state = .silent
    · simp only [silent, beq_self_eq_true, if_true, State.raise_eq, State.setCounters_counters, true_and]
      rfl
    · simp [silent, State.modNode]

/-! ### The forward policy (R158, R162) -/

theorem offerForwarded_of_free {f : Frame} (h : s.stationPort.used < 28) :
    s.offerForwarded f = s.setStationPort { s.stationPort with queue := s.stationPort.queue ++ [.forwarded f] } := by
  simp [State.offerForwarded, StationPort.admitsForwarded, h, State.stationJoin]

theorem offerForwarded_of_full {f : Frame} (h : 28 ≤ s.stationPort.used) :
    s.offerForwarded f =
      s.setCounters { s.counters with stationForwardLost := inc16 s.counters.stationForwardLost } := by
  simp [State.offerForwarded, StationPort.admitsForwarded, Nat.not_lt.mpr h, State.count]

/-- A frame that its policy does not offer only moves the forward counter. -/
theorem forwardFrame_of_kept {i : Nat} {e : NodeEntry} {f : Frame} {n : Nat}
    (h : e.policy.offers (s.nodeAt i).forwardCounter = (false, n)) :
    s.forwardFrame i e f = s.setNodes (s.nodes.modify i fun r => { r with forwardCounter := n }) := by
  simp [State.forwardFrame, h, State.modNode]

theorem forwardFrame_of_admitted {i : Nat} {e : NodeEntry} {f : Frame} {n : Nat}
    (h : e.policy.offers (s.nodeAt i).forwardCounter = (true, n)) (free : s.stationPort.used < 28) :
    s.forwardFrame i e f =
      (s.setNodes (s.nodes.modify i fun r =>
        { r with forwardCounter := n, forwarded := inc16 r.forwarded })).setStationPort
        { s.stationPort with queue := s.stationPort.queue ++ [.forwarded f] } := by
  unfold State.forwardFrame
  rw [h]
  dsimp only
  rw [offerForwarded_of_free (s := s.modNode i _) free]
  simp [State.modNode, StationPort.admitsForwarded, free, List.modify_modify_eq, Function.comp_def]
  rfl

theorem forwardFrame_of_lost {i : Nat} {e : NodeEntry} {f : Frame} {n : Nat}
    (h : e.policy.offers (s.nodeAt i).forwardCounter = (true, n)) (full : 28 ≤ s.stationPort.used) :
    s.forwardFrame i e f =
      (s.setNodes (s.nodes.modify i fun r => { r with forwardCounter := n })).setCounters
        { s.counters with stationForwardLost := inc16 s.counters.stationForwardLost } := by
  unfold State.forwardFrame
  rw [h]
  dsimp only
  rw [offerForwarded_of_full (s := s.modNode i _) full]
  simp [State.modNode, StationPort.admitsForwarded, Nat.not_lt.mpr full]

/-! ### Reports that reach their block (R138, R157) -/

/-- A field frame received whole leaves the receive side hunting, and is counted where it is malformed (R153). -/
theorem receiveWhole_field (s : State) (f : Frame) :
    s.receiveWhole .field f = (s.setSlot .field none).setCounters
      (if payloadFits f.kind f.payload then s.counters else
        { s.counters with fieldPort := { s.counters.fieldPort with
            malformedFrames := inc16 s.counters.fieldPort.malformedFrames } }) := by
  cases fits : payloadFits f.kind f.payload <;>
    simp [State.receiveWhole, isMalformed, fits, State.engineJudges, State.countPort, State.count]
  all_goals rfl

/-- A pair names the detector that its slot maps to, if that is at most 15 and in use (R138). -/
theorem mem_named_zones (first : Nat) (pairs : List (Nat × Nat)) (z : Nat) :
    (((pairs.filterMap fun p => s.detectorOf first p.1).map fun i => (s.detectorEntry i).zone).contains z) =
      pairs.any fun p => decide (first + p.1 ≤ 15) && (s.detectorEntry (first + p.1)).inUse &&
        (s.detectorEntry (first + p.1)).zone == z := by
  induction pairs with
  | nil => rfl
  | cons p pairs ih =>
    rw [List.any_cons, ← ih, List.filterMap_cons]
    cases named : s.detectorOf first p.1 with
    | none =>
      have unused : (decide (first + p.1 ≤ 15) && (s.detectorEntry (first + p.1)).inUse) = false := by
        simpa [State.detectorOf] using named
      simp [unused]
    | some i =>
      obtain ⟨used, rfl⟩ : (decide (first + p.1 ≤ 15) && (s.detectorEntry (first + p.1)).inUse) = true ∧ first + p.1 = i := by
        simpa [State.detectorOf] using named
      rw [List.map_cons, List.contains_cons, used, Bool.true_and, BEq.comm]

theorem takeDetectorReport_eq (first node : Nat) (pairs : List (Nat × Nat)) :
    s.takeDetectorReport first node pairs =
      ((List.range 8).filter fun z => pairs.any fun p =>
        decide (first + p.1 ≤ 15) && (s.detectorEntry (first + p.1)).inUse &&
          (s.detectorEntry (first + p.1)).zone == z).foldl (fun t z => t.evaluateZone z)
        (pairs.foldl (fun t p => t.takeDetectorPair first node p) s) := by
  unfold State.takeDetectorReport State.evaluateZones State.forEach allZones
  dsimp only
  congr 1
  exact List.filter_congr fun z _ => mem_named_zones first pairs z

theorem readAll_of_read {α : Type} {r : Reader α} {payload : List Byte} {x : α} (h : r payload = some (x, [])) :
    readAll r payload = some x := by simp [readAll, h]

/-- Settles O13, from the way of a known node's frame, what each role's block takes, and the forward policy. -/
theorem fieldReportReachesItsBlock : Obligations.FieldReportReachesItsBlock := by
  refine ⟨?_, fun s e payload => ⟨?_, ?_, ?_, ?_, ?_, ?_⟩, ?_⟩
  · intro c f s i e row runs hsrc hi he hk hf
    rw [exec_of_reportRow row, State.whileRunning_of_runs runs, State.fieldReceive_of_known hsrc hi he hk hf]
  · intro x role read
    simp only [State.consume, role, State.hand, readAll_of_read read]
  · intro x role read
    simp only [State.consume, role, State.hand, readAll_of_read read]
  · intro x role read
    simp only [State.consume, role, State.hand, readAll_of_read read]
  · intro x role read
    simp only [State.consume, role, State.hand, readAll_of_read read]
  · intro x role read
    simp only [State.consume, role, State.hand, readAll_of_read read]
  · intro pairs role read
    simp only [State.consume, role, read]
    exact takeDetectorReport_eq e.recordIndex e.address pairs
  · intro s i e f
    have policy : e.policy.offers (s.nodeAt i).forwardCounter =
        (match e.policy with
          | .all => true
          | .none => false
          | .everyN k => decide (k ≤ (s.nodeAt i).forwardCounter + 1),
         match e.policy with
          | .all | .none => (s.nodeAt i).forwardCounter
          | .everyN k => if k ≤ (s.nodeAt i).forwardCounter + 1 then 0 else (s.nodeAt i).forwardCounter + 1) := by
      cases e.policy with
      | all => rfl
      | none => rfl
      | everyN k =>
        simp only [ForwardPolicy.offers]
        split <;> simp [*]
    refine ⟨fun kept => ?_, fun offered free => ?_, fun offered full => ?_⟩
    · exact forwardFrame_of_kept (policy.trans (congrArg (·, _) kept))
    · exact forwardFrame_of_admitted (policy.trans (congrArg (·, _) offered)) free
    · exact forwardFrame_of_lost (policy.trans (congrArg (·, _) offered)) full

/-! ### Other field frames (R153, R157) -/

theorem takeFieldFrame_of_own {f : Frame} (h : f.src = s.sys.address) :
    s.takeFieldFrame f = s.setCounters { s.counters with ringReturns := inc16 s.counters.ringReturns } := by
  simp [State.takeFieldFrame, h, State.count]

theorem takeFieldFrame_of_unknown {f : Frame} (other : f.src ≠ s.sys.address)
    (h : (s.nodeIndex fun e => e.address == f.src) = none) : s.takeFieldFrame f = s.unknownSource f := by
  simp [State.takeFieldFrame, beq_eq_false_iff_ne.mpr other, h]

theorem takeFieldFrame_of_known {f : Frame} {i : Nat} {e : NodeEntry} (other : f.src ≠ s.sys.address)
    (hi : (s.nodeIndex fun e => e.address == f.src) = some i) (he : s.nodeEntry i = some e) :
    s.takeFieldFrame f = ((s.nodeHeard i e).consumeFrame e f).forwardFrame i e f := by
  simp [State.takeFieldFrame, beq_eq_false_iff_ne.mpr other, hi, he]

/-- Settles O14, from the order in which the Traffic Table sorts a frame. -/
theorem otherFieldFramesAreCounted : Obligations.OtherFieldFramesAreCounted := by
  refine ⟨fun c f s row runs => ?_, fun s f => ⟨offerForwarded_of_free, offerForwarded_of_full⟩⟩
  rw [exec_of_reportRow row, State.whileRunning_of_runs runs, State.fieldReceive, receiveWhole_field]
  dsimp only
  generalize (if payloadFits f.kind f.payload = true then s.counters else _) = k
  refine ⟨fun own => ?_, fun other unknown => ?_, fun i e other hi he => ?_⟩
  · rw [takeFieldFrame_of_own (s := (s.setSlot .field none).setCounters k) own]
    rfl
  · rw [takeFieldFrame_of_unknown (s := (s.setSlot .field none).setCounters k) other unknown]
    rfl
  · rw [takeFieldFrame_of_known (s := (s.setSlot .field none).setCounters k) other hi he]
    refine ⟨fun own kind mismatch => ?_, fun kind misfit => ?_, fun role => ?_⟩
    · simp [State.consumeFrame, kind, beq_eq_false_iff_ne.mpr mismatch, State.count]
    · simp [State.consumeFrame, kind, isMalformed, misfit]
    · simp [State.consumeFrame, Role.kind, role]

end Sys2Proof.Machine
end

section
/-! PROOFS of O17, O18, O23 and O24: what an accepted module report, a counted sample, a PCS status and a coolant status
do to the records that take them (R10, R23, R47 to R49, R98, R99, R128 to R131). -/

namespace Sys2Proof.Machine

variable {s : State}

/-- An operation changes only the pieces that the conditions kept by it may read. -/
theorem frame_of {L : List Part} {t : State} (op : ∀ {P : State → Prop}, Closed L P → P s → P t) : s.changesOnly t L :=
  op (closed_frame s L) (State.changesOnly_refl s L)

/-! ### Accepted module reports (R10, R23) -/

theorem reportedVoltage_eq (v : Nat) : reportedVoltage v = if v = 65535 then none else some (capNat 5000 v) := by
  simp [reportedVoltage]

theorem latest_eq (x : ModuleReport) (c : Nat) :
    x.latest c = if c ∈ x.openWire then none else match x.voltages[c]? with
      | some v => if v = 65535 then none else some (capNat 5000 v)
      | none => none := by
  unfold ModuleReport.latest
  rw [List.contains_eq_mem]
  by_cases wire : c ∈ x.openWire
  · simp [wire]
  · cases x.voltages[c]? <;> simp [wire, reportedVoltage_eq]

/-- A report is applied to its module's record, and counted where its shape is not its string's (R23). -/
theorem applyReport_eq (m : Nat) (x : ModuleReport) :
    s.applyReport m x = (s.setModules (s.modules.modify m fun r => r.apply x (s.stringEntry (stringOf m)).cells)).setCounters
      (if x.voltages.length = (s.stringEntry (stringOf m)).cells then s.counters else
        { s.counters with reportShapeErrors := inc16 s.counters.reportShapeErrors }) := by
  unfold State.applyReport
  by_cases shape : x.voltages.length = (s.stringEntry (stringOf m)).cells
  · simp only [shape, beq_self_eq_true, if_true]
    rfl
  · simp only [shape, beq_eq_false_iff_ne.mpr shape, Bool.false_eq_true, if_false]
    rfl

theorem takeModuleReport_of_accepts {m : Nat} {x : ModuleReport} {o : OpenRound} (ho : s.rounds.openRound = some o)
    (accepts : s.accepts m x.tag = true) :
    s.takeModuleReport m x =
      (let o' := o.withReport m x.quietEcho
       let u := (s.setRounds { s.rounds with openRound := some o' }).applyReport m x
       if o'.reported.length = o.expected.length then u.closeRound o' true else u) := by
  simp only [State.takeModuleReport, ho, accepts, if_true, beq_iff_eq]
  rfl

/-- Settles O17, from the change that an applied report makes. -/
theorem acceptedModuleReportUpdatesItsModule : Obligations.AcceptedModuleReportUpdatesItsModule := by
  intro s m x o phase tag ho expected fresh
  have accepts : s.accepts m x.tag = true := by
    simp [State.accepts, phase, tag, ho, expected, fresh]
  have counted : (o.withReport m x.quietEcho).reported.length = o.reported.length + 1 := List.length_append
  dsimp only
  refine ⟨latest_eq x, fun more => ?_, fun last => ?_⟩
  · rw [takeModuleReport_of_accepts ho accepts]
    dsimp only
    rw [counted, if_neg more, applyReport_eq]
    rfl
  · rw [takeModuleReport_of_accepts ho accepts]
    dsimp only
    rw [counted, if_pos last, applyReport_eq]
    rfl

/-! ### Counted samples (R47 to R49) -/

theorem clampInt_nonneg (cap : Nat) (x : Int) : 0 ≤ clampInt 0 cap x := by
  unfold clampInt
  split
  · omega
  · split <;> omega

/-- A new Q is held within 0 to Q_cap, and a saturation is counted (R47, R49). -/
theorem withQ_eq (r : ChargeRec) (x : Int) :
    r.withQ x =
      (let q := clampInt 0 r.qCap x
       { r with
         q := q.toNat, soc := socOf q.toNat r.qCap, overrange := if q = x then r.overrange else inc16 r.overrange }) := by
  unfold ChargeRec.withQ
  dsimp only
  rw [Int.toNat_of_nonneg (clampInt_nonneg r.qCap x)]
  simp only [beq_iff_eq]

/-- Settles O18, from what a new Q does to the record. -/
theorem countedSampleMovesTheCharge : Obligations.CountedSampleMovesTheCharge := by
  intro r current interval trim
  refine ⟨fun open_ => ?_, fun full => ?_, fun n => rfl⟩
  · unfold ChargeRec.sample
    dsimp only
    rw [withQ_eq]
    exact if_neg (Nat.not_le.mpr open_)
  · have held : ((clampInt 0 r.qCap (r.q - current * interval)).toNat : Int) =
        clampInt 0 r.qCap (r.q - current * interval) := Int.toNat_of_nonneg (clampInt_nonneg _ _)
    unfold ChargeRec.sample
    dsimp only
    rw [withQ_eq, if_pos full]
    unfold ChargeRec.trimmed
    dsimp only
    rw [withQ_eq]
    simp only [held]

/-! ### PCS status (R98, R99) -/

@[simp] theorem raise_gate (s : State) (k : NoticeKind) (x : Option Nat) : (s.raise k x).gate = s.gate :=
  raise_frame s k x .gate (by decide)

theorem raise_counters (s : State) (k : NoticeKind) (x : Option Nat) :
    (s.raise k x).counters = if losesNotice s.notices ⟨k, x, 1, s.time⟩ = true then
      { s.counters with noticesLost := inc16 s.counters.noticesLost } else s.counters := by
  rw [State.raise_eq]
  rfl

/-- The notice of a PCS STATUS that enters FAULT (R98). -/
def State.faultNoted (s : State) (r : PcsStatus) : State :=
  if r.state = .fault ∧ (s.gate.lastPcs.map (·.state)) ≠ some .fault then s.raise .pcsFault none else s

/-- A PCS STATUS may raise a notice, and leaves the gate record with the status and the overshoot check's outcome. -/
theorem takePcsStatus_eq (s : State) (r : PcsStatus) :
    s.takePcsStatus r =
      (let p := clampInt (-4000) 4000 r.p
       let excess := s.gate.pPrev.natAbs + s.params.overshootTol < p.natAbs
       (s.faultNoted r).setGate { s.gate with
         lastPcs := some ⟨p, clampInt (-4000) 4000 r.q, r.state⟩
         overshootEnd :=
           if excess then
             (if s.gate.overshootEnd = none ∧ s.gate.overshootArmed = true then some (s.after s.params.overshootTime)
             else s.gate.overshootEnd)
           else none
         overshootArmed := if excess then s.gate.overshootArmed else true }) := by
  have noted : ∀ g : GateRec, (if r.state == .fault && (s.gate.lastPcs.map (·.state)) != some .fault then
      (s.setGate g).raise .pcsFault none else s.setGate g) = (s.faultNoted r).setGate g := fun g => by
    unfold State.faultNoted
    simp only [Bool.and_eq_true, beq_iff_eq, bne_iff_ne]
    split
    · simp only [State.raise_eq]
      rfl
    · rfl
  unfold State.takePcsStatus State.inExcess saturatePower
  dsimp only
  rw [noted]
  simp only [State.setGate_gate, decide_eq_true_eq]
  split
  · by_cases starts : s.gate.overshootEnd = none ∧ s.gate.overshootArmed = true
    · simp [starts.1, starts.2]
      rfl
    · have stands : (s.gate.overshootEnd.isNone && s.gate.overshootArmed) = false := by
        simpa using starts
      simp [starts, stands]
  · rfl

/-- Settles O23, by the two questions that a PCS STATUS answers: a new fault, and an excess. -/
theorem pcsStatusIsStoredAndChecked : Obligations.PcsStatusIsStoredAndChecked := by
  intro s r
  have frame : s.changesOnly (s.takePcsStatus r) [.gate, .notices, .counters] :=
    frame_of fun h => h.takePcsStatus (List.Subset.refl _)
  refine ⟨?_, ?_, ?_, frame⟩
  · rw [takePcsStatus_eq]
    rfl
  · rw [takePcsStatus_eq]
    unfold State.faultNoted
    dsimp only
    split <;> simp
  · rw [takePcsStatus_eq]
    unfold State.faultNoted
    dsimp only [State.setGate_counters]
    split
    · rename_i faults
      exact (raise_counters ..).trans (ite_of_iff (and_iff_right faults) rfl rfl).symm
    · rename_i faults
      exact (if_neg fun h => faults h.1).symm

/-! ### Coolant status (R128 to R131) -/

theorem coolantAfter_eq (t : ZoneSettings) (c : CoolantState) (r : ChillerStatus) :
    coolantAfter t c r =
      if r.state = .fault then .lost
      else if r.state = .standby then (if c = .degraded then .degraded else .ok)
      else if c = .ok then (if t.supplyLimit < r.supply ∨ r.flow < t.flowMin then .degraded else .ok)
      else if r.supply ≤ t.supplyRestore ∧ t.flowMin + t.flowHyst ≤ r.flow then .ok else .degraded := by
  unfold coolantAfter
  cases hr : r.state <;> cases c <;> simp [beyondEntry, meetsRestore]

/-- The notice of a change of the coolant state (R131). -/
def State.coolantNoted (s : State) (c : CoolantState) : State :=
  match c with
  | .ok => s.raise .coolantOk none
  | .degraded => s.raise .coolantDegraded none
  | .lost => (s.latch .coolantLost).raise .coolantLost none

theorem coolantTo_of_change {c : CoolantState} (h : c ≠ s.thermal.coolant) :
    s.coolantTo c = ((s.setThermal { s.thermal with coolant := c }).coolantNoted c).changeEval.makeCoolant false := by
  unfold State.coolantTo
  rw [if_neg (by simpa using h.symm)]
  cases c <;> rfl

theorem coolantTo_of_held {c : CoolantState} (h : c = s.thermal.coolant) : s.coolantTo c = s := by
  simp [State.coolantTo, h]

theorem changeEval_frame (s : State) : s.changesOnly s.changeEval [.envelope, .gate, .fieldPort, .notices, .counters] :=
  frame_of fun h => h.changeEval (List.Subset.refl _)

theorem makeCoolant_frame (s : State) (urgent : Bool) :
    s.changesOnly (s.makeCoolant urgent) [.thermal, .fieldPort, .counters] :=
  frame_of fun h => h.makeCoolant (List.Subset.refl _)

/-- A making leaves the coolant state and the last status as they were (R125). -/
theorem makeCoolant_thermal (s : State) (urgent : Bool) :
    (s.makeCoolant urgent).thermal.coolant = s.thermal.coolant ∧
      (s.makeCoolant urgent).thermal.lastStatus = s.thermal.lastStatus := by
  have placed : ∀ p, (s.placeNormal p).thermal = s.thermal := fun p => placeNormal_frame s p .thermal (by decide)
  have urgently : ∀ p, (s.placeUrgent p).thermal = s.thermal := fun p => placeUrgent_frame s p .thermal (by decide)
  unfold State.makeCoolant
  dsimp only
  split
  · exact ⟨rfl, rfl⟩
  · split
    · simp only [State.recordCoolant, State.setThermal_thermal, urgently, and_self]
    · split <;>
        simp only [State.recordCoolant, State.count, State.setCounters_thermal, State.setThermal_thermal, placed, and_self]

theorem withFlag_getLsbD (l : BitVec 16) (f : Flag) : (withFlag l f).getLsbD f.bit = true := by
  have h : ((1 : BitVec 16) <<< f.bit).getLsbD f.bit = true := by cases f <;> decide
  rw [withFlag, BitVec.getLsbD_or, h, Bool.or_true]

/-- A flag that has been latched is latched already. -/
theorem latch_of_flags {l : BitVec 16} {f : Flag} (h : s.flags = .of (withFlag l f)) : s.latch f = s := by
  have again : withFlag (withFlag l f) f = withFlag l f := by
    rw [withFlag, withFlag, BitVec.or_assoc, BitVec.or_self]
  have flags : FlagRec.of (withFlag s.flags.latched f) = s.flags := by
    rw [h]
    exact congrArg FlagRec.of again
  rw [State.latch, flags]
  rfl

/-- The status that a COOLANT STATUS leaves, saturated (R128). -/
def State.chillerStatus (s : State) (x : CoolantStatus) : ChillerStatus :=
  ⟨x.state, saturateTemp x.supply, saturateTemp x.returnTemp, capNat 65535 x.flow, s.time⟩

/-- The coolant state that a COOLANT STATUS gives (R129, R130). -/
def State.coolantGiven (s : State) (x : CoolantStatus) : CoolantState :=
  coolantAfter s.tables.t11 s.thermal.coolant (s.chillerStatus x)

/-- The status is stored before the coolant state is judged. -/
def State.statusStored (s : State) (x : CoolantStatus) : State :=
  s.setThermal { s.thermal with lastStatus := some (s.chillerStatus x) }

theorem takeCoolantStatus_of_held {x : CoolantStatus} (h : s.coolantGiven x = s.thermal.coolant) :
    s.takeCoolantStatus x =
      if s.coolantGiven x = .lost then (s.statusStored x).latch .coolantLost else s.statusStored x := by
  have taken : s.takeCoolantStatus x = ((s.statusStored x).coolantTo (s.coolantGiven x)).relatchCoolant := rfl
  rw [taken, coolantTo_of_held (s := s.statusStored x) h, State.relatchCoolant_eq, h]
  rfl

/-- A change of the coolant state, with its notice (R131). -/
def State.coolantChanged (s : State) (x : CoolantStatus) : State :=
  ((s.statusStored x).setThermal { (s.statusStored x).thermal with coolant := s.coolantGiven x }).coolantNoted
    (s.coolantGiven x)

theorem coolantNoted_thermal (s : State) (c : CoolantState) : (s.coolantNoted c).thermal = s.thermal := by
  cases c <;> exact raise_frame _ _ _ .thermal (by decide)

theorem evaluatedAndMade_flags (s : State) : (s.changeEval.makeCoolant false).flags = s.flags :=
  (makeCoolant_frame _ _ .flags (by decide)).trans (changeEval_frame s .flags (by decide))

theorem evaluatedAndMade_thermal (s : State) :
    (s.changeEval.makeCoolant false).thermal.coolant = s.thermal.coolant ∧
      (s.changeEval.makeCoolant false).thermal.lastStatus = s.thermal.lastStatus := by
  have same : s.changeEval.thermal = s.thermal := changeEval_frame s .thermal (by decide)
  have made := makeCoolant_thermal s.changeEval false
  rwa [same] at made

theorem coolantNoted_lost_flags (s : State) :
    (s.coolantNoted .lost).flags = .of (withFlag s.flags.latched .coolantLost) :=
  raise_frame _ _ _ .flags (by decide)

theorem takeCoolantStatus_of_change {x : CoolantStatus} (h : s.coolantGiven x ≠ s.thermal.coolant) :
    s.takeCoolantStatus x = (s.coolantChanged x).changeEval.makeCoolant false := by
  have taken : s.takeCoolantStatus x = ((s.statusStored x).coolantTo (s.coolantGiven x)).relatchCoolant := rfl
  have made : (s.statusStored x).coolantTo (s.coolantGiven x) = (s.coolantChanged x).changeEval.makeCoolant false :=
    coolantTo_of_change (s := s.statusStored x) h
  rw [taken, made, State.relatchCoolant_eq]
  split
  · rename_i lost
    have given : s.coolantGiven x = .lost := by
      rw [← lost, (evaluatedAndMade_thermal _).1, State.coolantChanged, coolantNoted_thermal]
      rfl
    refine latch_of_flags (l := s.flags.latched) ?_
    rw [evaluatedAndMade_flags, State.coolantChanged, given]
    exact coolantNoted_lost_flags _
  · rfl

/-- Settles O24, by whether the coolant state changes. -/
theorem coolantStatusSetsTheCoolantState : Obligations.CoolantStatusSetsTheCoolantState := by
  intro s x
  have frame : s.changesOnly (s.takeCoolantStatus x)
      [.thermal, .envelope, .gate, .fieldPort, .notices, .flags, .counters] :=
    frame_of fun h => h.takeCoolantStatus (by decide)
  have records : (s.takeCoolantStatus x).thermal.coolant = s.coolantGiven x ∧
      (s.takeCoolantStatus x).thermal.lastStatus = some (s.chillerStatus x) := by
    by_cases h : s.coolantGiven x = s.thermal.coolant
    · rw [takeCoolantStatus_of_held h]
      split <;> exact ⟨h.symm, rfl⟩
    · have made := evaluatedAndMade_thermal (s.coolantChanged x)
      rw [State.coolantChanged, coolantNoted_thermal] at made
      rw [takeCoolantStatus_of_change h]
      exact made
  have latched : s.coolantGiven x = .lost → (s.takeCoolantStatus x).isLatched .coolantLost = true := fun lost => by
    have flags : ∃ l, (s.takeCoolantStatus x).flags = .of (withFlag l .coolantLost) := by
      by_cases h : s.coolantGiven x = s.thermal.coolant
      · rw [takeCoolantStatus_of_held h, if_pos lost]
        exact ⟨_, rfl⟩
      · rw [takeCoolantStatus_of_change h, evaluatedAndMade_flags, State.coolantChanged, lost]
        exact ⟨_, coolantNoted_lost_flags _⟩
    obtain ⟨l, hl⟩ := flags
    rw [State.isLatched, hl]
    exact withFlag_getLsbD l _
  intro r z meets beyond c v t
  have given : c = s.coolantGiven x := (coolantAfter_eq s.tables.t11 s.thermal.coolant (s.chillerStatus x)).symm
  clear_value c
  subst given
  exact ⟨records.1, records.2, takeCoolantStatus_of_held, takeCoolantStatus_of_change, latched, frame⟩

end Sys2Proof.Machine
end

section
/-! Facts about strings that the proofs of O19, O20, O43 and O51 share: what the operations on a string leave of its
record, of the masks and of the frames that wait in URGENT (R28 to R36, R41). -/

namespace Sys2Proof.Machine

variable {s t : State}

/-! ### Frames -/

theorem trip_frame (s : State) (c : TripCause) :
    s.changesOnly (s.trip c) [.envelope, .gate, .conn, .fieldPort, .notices, .flags, .counters] :=
  frame_of fun h => h.trip (List.Subset.refl _)

theorem clearMasks_frame (s : State) (cleared : List Nat) :
    s.changesOnly (s.clearMasks cleared) [.modules, .fieldPort, .counters] :=
  frame_of fun h => h.clearMasks (List.Subset.refl _)

theorem stringMoved_frame (s : State) (i : Nat) (old : StringState) :
    s.changesOnly (s.stringMoved i old) [.modules, .envelope, .gate, .conn, .fieldPort, .notices, .flags, .counters] :=
  frame_of fun h => h.stringMoved (List.Subset.refl _)

theorem contactorCommand_frame (s : State) (i : Nat) (close : Bool) :
    s.changesOnly (s.contactorCommand i close) [.fieldPort, .counters] :=
  frame_of fun h => h.contactorCommand (List.Subset.refl _)

theorem latchRetained_frame (s : State) (r : Retained) : s.changesOnly (s.latchRetained r) [.flags] :=
  frame_of fun h => h.latchRetained (List.Subset.refl _)

theorem countReport_frame (s : State) (i : Nat) (x : StringReport) :
    s.changesOnly (s.countReport i x) [.strings, .notices, .counters] :=
  frame_of fun h => h.countReport (List.Subset.refl _)

@[simp] theorem stringMoved_strings (s : State) (i : Nat) (old : StringState) :
    (s.stringMoved i old).strings = s.strings := stringMoved_frame s i old .strings (by decide)

@[simp] theorem contactorCommand_strings (s : State) (i : Nat) (close : Bool) :
    (s.contactorCommand i close).strings = s.strings := contactorCommand_frame s i close .strings (by decide)

@[simp] theorem latchRetained_strings (s : State) (r : Retained) : (s.latchRetained r).strings = s.strings :=
  latchRetained_frame s r .strings (by decide)

@[simp] theorem raise_strings (s : State) (k : NoticeKind) (x : Option Nat) : (s.raise k x).strings = s.strings :=
  raise_frame s k x .strings (by decide)

@[simp] theorem clearMasks_strings (s : State) (cleared : List Nat) : (s.clearMasks cleared).strings = s.strings :=
  clearMasks_frame s cleared .strings (by decide)

/-- What the tables say is read from the configuration alone. -/
theorem addressOf_of_config (h : t.config = s.config) (r : Role) (record : Nat) :
    t.addressOf r record = s.addressOf r record := by
  have entry : t.nodeEntry = s.nodeEntry := funext fun i => by simp only [State.nodeEntry, State.tables, h]
  simp only [State.addressOf, State.roleIndex, State.nodeIndex, State.tables, h, entry]

theorem ownFrame_of_sys (h : t.sys = s.sys) (kind dest : Nat) (payload : List Byte) :
    t.ownFrame kind dest payload = s.ownFrame kind dest payload := by
  simp only [State.ownFrame, h]

theorem stringEntry_of_config (h : t.config = s.config) (i : Nat) : t.stringEntry i = s.stringEntry i := by
  simp only [State.stringEntry, State.tables, h]

theorem anyConfirmed_of_fire (h : t.fire = s.fire) : t.anyConfirmed = s.anyConfirmed := by
  simp only [State.anyConfirmed, h]

theorem contactorEnd_of (time : t.time = s.time) (config : t.config = s.config) : t.contactorEnd = s.contactorEnd := by
  simp only [State.contactorEnd, State.after, State.tables, time, config]

/-- The end of a contactor operation reads the time and the settings alone. -/
theorem contactorEnd_contactorCommand (s : State) (i : Nat) (close : Bool) :
    (s.contactorCommand i close).contactorEnd = s.contactorEnd := by
  exact contactorEnd_of (contactorCommand_frame s i close .time (by decide))
    (contactorCommand_frame s i close .config (by decide))

/-! ### The record of one string -/

theorem stringAt_of_strings (h : t.strings = s.strings) (i : Nat) : t.stringAt i = s.stringAt i := by
  simp only [State.stringAt, h]

theorem stringAt_modify {i : Nat} {f : StringRec → StringRec} (h : t.strings = s.strings.modify i f)
    (inRange : i < s.strings.length) : t.stringAt i = f (s.stringAt i) := by
  simp [State.stringAt, h, inRange]

theorem stringAt_modify_other {i j : Nat} {f : StringRec → StringRec} (h : t.strings = s.strings.modify i f)
    (other : j ≠ i) : t.stringAt j = s.stringAt j := by
  simp [State.stringAt, h, List.getElem?_modify, Ne.symm other]

/-- A change of one string reads as one record in its place. -/
theorem modify_const {i : Nat} (f : StringRec → StringRec) :
    s.strings.modify i f = s.strings.modify i fun _ => f (s.stringAt i) := by
  apply List.ext_getElem?
  intro j
  rw [List.getElem?_modify, List.getElem?_modify]
  cases hr : s.strings[j]? with
  | none => rfl
  | some r =>
    split
    · rename_i same
      subst same
      have read : s.stringAt i = r := by simp [State.stringAt, hr]
      simp [read]
    · rfl

/-- A string that is being opened for a cause (R30). -/
def StringRec.isolating (r : StringRec) (cause : Option IsolationCause) (ends : PartTime) : StringRec :=
  { r with state := .isolating, cause, pendingCause := none, timer := some ends }

theorem isolate_strings (s : State) (i : Nat) (cause : Option IsolationCause) (notice : Option NoticeKind) :
    (s.isolate i cause notice).strings = s.strings.modify i fun r => r.isolating cause s.contactorEnd := by
  unfold State.isolate
  dsimp only
  rw [stringMoved_strings, ← contactorEnd_contactorCommand s i false]
  cases notice <;> simp [State.modString, StringRec.isolating]

/-! ### The moves on feedback (R31 to R34) -/

/-- A string after the feedback that takes it out of AWAITING (R31). -/
def StringRec.afterFirst (r : StringRec) (closed confirmed : Bool) (ends : PartTime) : StringRec :=
  let fire := if confirmed then some IsolationCause.fire else none
  if closed then
    if r.retained == .welded then r.isolating (some .start) ends
    else
      match r.retained.cause.or (fire.or r.pendingCause) with
      | some c => r.isolating (some c) ends
      | none => { r with state := .inService, cause := none, pendingCause := none }
  else if r.retained == .welded then { r with state := .welded, pendingCause := none }
  else
    match r.retained.cause.or ((locking r.pendingCause).or fire) with
    | some c => { r with state := .lockedOut, cause := some c, pendingCause := none, retained := .locked c }
    | none => { r with state := .isolated, cause := some .start, pendingCause := none }

/-- A string at rest after ISOLATING (R32). -/
def StringRec.atRest (r : StringRec) : StringRec :=
  if r.retained == .welded then { r with state := .welded, timer := none }
  else
    match locking r.cause with
    | some c => { r with state := .lockedOut, timer := none, retained := .locked c }
    | none => { r with state := .isolated, timer := none }

/-- A string in use after its contactor's feedback (R31 to R34). -/
def StringRec.afterFeedback (r : StringRec) (closed confirmed : Bool) (ends : PartTime) : StringRec :=
  match r.state with
  | .awaiting => r.afterFirst closed confirmed ends
  | .isolating => if closed then (if r.timer.isNone then { r with timer := some ends } else r) else r.atRest
  | .restoring => if closed then { r with state := .inService, cause := none, timer := none } else r
  | .inService => if closed then r else { r with state := .isolated, cause := some .external }
  | .isolated => if closed then r.isolating (some .external) ends else r
  | .lockedOut => if closed then r.isolating r.cause ends else r
  | .welded => r

theorem modify_self {i : Nat} : s.strings.modify i (fun _ => s.stringAt i) = s.strings :=
  (modify_const (s := s) (i := i) id).symm.trans (List.modify_id ..)

theorem leaveAwaiting_strings (s : State) (i : Nat) (closed : Bool) :
    (s.leaveAwaiting i closed).strings =
      s.strings.modify i fun _ => (s.stringAt i).afterFirst closed s.anyConfirmed s.contactorEnd := by
  have latched := latchRetained_frame s (s.stringAt i).retained
  have confirmed : (s.latchRetained (s.stringAt i).retained).anyConfirmed = s.anyConfirmed := by
    exact anyConfirmed_of_fire (latched .fire (by decide))
  have ends : (s.latchRetained (s.stringAt i).retained).contactorEnd = s.contactorEnd := by
    exact contactorEnd_of (latched .time (by decide)) (latched .config (by decide))
  have moved : ∀ f : StringRec → StringRec,
      (((s.latchRetained (s.stringAt i).retained).modString i f).stringMoved i .awaiting).strings =
        s.strings.modify i fun _ => f (s.stringAt i) := fun f => by
    rw [stringMoved_strings, State.modString, State.setStrings_strings, latchRetained_strings, modify_const]
  have isolated : ∀ c, ((s.latchRetained (s.stringAt i).retained).isolate i c none).strings =
      s.strings.modify i fun _ => (s.stringAt i).isolating c s.contactorEnd := fun c => by
    rw [isolate_strings, ends, latchRetained_strings, modify_const]
  unfold State.leaveAwaiting StringRec.afterFirst
  dsimp only
  rw [confirmed]
  split
  · split
    · exact isolated _
    · generalize (s.stringAt i).retained.cause.or (Option.or _ (s.stringAt i).pendingCause) = c
      cases c with
      | some c => exact isolated _
      | none => exact moved _
  · split
    · exact moved _
    · generalize (s.stringAt i).retained.cause.or (Option.or (locking _) _) = c
      cases c with
      | some c => exact moved _
      | none => exact moved _

theorem contactorOpened_strings (s : State) (i : Nat) :
    (s.contactorOpened i).strings = s.strings.modify i StringRec.atRest := by
  unfold State.contactorOpened
  dsimp only
  rw [stringMoved_strings, raise_strings, State.modString, State.setStrings_strings]
  rfl

/-- The feedback of a string in use moves its record alone. -/
theorem actOnFeedback_strings (s : State) (i : Nat) (closed : Bool) :
    (s.actOnFeedback i closed).strings =
      s.strings.modify i fun _ => (s.stringAt i).afterFeedback closed s.anyConfirmed s.contactorEnd := by
  have moved : ∀ {u : State} {f : StringRec → StringRec}, u.strings = s.strings.modify i f →
      u.strings = s.strings.modify i fun _ => f (s.stringAt i) := fun h => h.trans (modify_const _)
  have raised : ∀ (f : StringRec → StringRec) (k : NoticeKind) (old : StringState),
      (((s.modString i f).raise k (some i)).stringMoved i old).strings =
        s.strings.modify i fun _ => f (s.stringAt i) := fun f k old => by
    rw [stringMoved_strings, raise_strings]
    exact modify_const f
  unfold State.actOnFeedback StringRec.afterFeedback
  dsimp only
  cases state : (s.stringAt i).state with
  | awaiting => exact leaveAwaiting_strings s i closed
  | isolating =>
    dsimp only
    split
    · split
      · rw [contactorEnd_contactorCommand]
        refine (moved (u := (s.contactorCommand i false).modString i _) (congrArg (List.modify · i _)
          (contactorCommand_strings s i false))).trans ?_
        simp only [state]
      · exact modify_self.symm
    · exact moved (contactorOpened_strings s i)
  | restoring =>
    dsimp only
    split
    · exact raised _ _ _
    · exact modify_self.symm
  | inService =>
    dsimp only
    split
    · exact modify_self.symm
    · exact raised _ _ _
  | isolated =>
    dsimp only
    split
    · exact moved (isolate_strings ..)
    · exact modify_self.symm
  | lockedOut =>
    dsimp only
    split
    · exact moved (isolate_strings ..)
    · exact modify_self.symm
  | welded => exact modify_self.symm

/-! ### Masks (R41) -/

theorem moduleAt_modModule_same {m : Nat} (f : ModuleRec → ModuleRec) (h : m < s.modules.length) :
    (s.modModule m f).moduleAt m = f (s.moduleAt m) := by
  simp [State.moduleAt, State.modModule, h]

theorem moduleAt_modModule_other {m k : Nat} (f : ModuleRec → ModuleRec) (h : k ≠ m) :
    (s.modModule m f).moduleAt k = s.moduleAt k := by
  simp [State.moduleAt, State.modModule, List.getElem?_modify, Ne.symm h]

theorem moduleAt_of_modules (h : t.modules = s.modules) (m : Nat) : t.moduleAt m = s.moduleAt m := by
  simp only [State.moduleAt, h]

/-- A change of one module's record that leaves masks alone. -/
theorem mask_modModule {m k : Nat} {f : ModuleRec → ModuleRec} (h : ∀ r, (f r).mask = r.mask) :
    ((s.modModule m f).moduleAt k).mask = (s.moduleAt k).mask := by
  by_cases same : k = m
  · subst same
    rcases Nat.lt_or_ge k s.modules.length with hk | hk
    · rw [moduleAt_modModule_same f hk, h]
    · simp [State.moduleAt, State.modModule, hk]
  · rw [moduleAt_modModule_other f same]

theorem mask_setResend (m k : Nat) (b : Bool) :
    ((s.modModule m fun r => { r with resend := b }).moduleAt k).mask = (s.moduleAt k).mask :=
  mask_modModule (f := fun r => { r with resend := b }) fun _ => rfl

/-- A BLEED SET placed leaves every mask alone (R40). -/
theorem mask_placeBleedSet (m k : Nat) : ((s.placeBleedSet m).moduleAt k).mask = (s.moduleAt k).mask := by
  have placed : ∀ p, ((s.placeNormal p).moduleAt k).mask = (s.moduleAt k).mask := fun p =>
    congrArg _ (moduleAt_of_modules (placeNormal_frame s p .modules (by decide)) k)
  unfold State.placeBleedSet
  split
  · rfl
  · dsimp only
    split
    · rw [mask_setResend, placed]
    · exact (mask_setResend _ _ _).trans (placed _)

/-- A clearing leaves an empty mask empty, and empties the masks that it names (R41). -/
theorem mask_clearMask {cleared : List Nat} {m k : Nat}
    (h : (s.moduleAt k).mask = [] ∨ (k = m ∧ k ∈ cleared)) : ((s.clearMask cleared m).moduleAt k).mask = [] := by
  have emptied : ((s.modModule k fun r => { r with mask := [] }).moduleAt k).mask = [] := by
    rcases Nat.lt_or_ge k s.modules.length with hk | hk
    · rw [moduleAt_modModule_same _ hk]
    · simp [State.moduleAt, State.modModule, hk, ModuleRec.atReset]
  unfold State.clearMask
  dsimp only
  by_cases same : k = m
  · subst same
    split
    · rw [mask_placeBleedSet, emptied]
    · rename_i none
      have empty : (s.moduleAt k).mask = [] := by
        rcases h with h | ⟨-, named⟩
        · exact h
        · simpa [named] using none
      split
      · rw [mask_placeBleedSet, empty]
      · exact empty
  · have empty : (s.moduleAt k).mask = [] := h.resolve_right fun h => same h.1
    split
    · rw [mask_placeBleedSet, moduleAt_modModule_other _ same, empty]
    · split
      · rw [mask_placeBleedSet, empty]
      · exact empty

theorem mask_clearMasks {cleared : List Nat} {k : Nat} (named : k ∈ cleared) (slot : k < 48) :
    ((s.clearMasks cleared).moduleAt k).mask = [] := by
  have fold : ∀ (ms : List Nat) (s : State), k ∈ ms ∨ (s.moduleAt k).mask = [] →
      ((s.forEach ms (State.clearMask cleared)).moduleAt k).mask = [] := by
    intro ms
    induction ms with
    | nil => exact fun s h => h.resolve_left List.not_mem_nil
    | cons m ms ih =>
      intro s h
      refine ih _ ?_
      rcases h with h | h
      · rcases List.mem_cons.mp h with rfl | h
        · exact .inr (mask_clearMask (.inr ⟨rfl, named⟩))
        · exact .inl h
      · exact .inr (mask_clearMask (.inl h))
  exact fold _ s (.inl (List.mem_range.mpr slot))

theorem lt_of_mem_slotsOf {i m : Nat} (h : m ∈ slotsOf i) (hi : i < 4) : m < 48 := by
  obtain ⟨k, hk, rfl⟩ := List.mem_map.mp h
  have := List.mem_range.mp hk
  omega

/-- A string that changes its state as R41 names has the masks of its slots cleared. -/
theorem mask_stringMoved {i m : Nat} {old : StringState} (clears : clearsMasks old (s.stringAt i).state = true)
    (hi : i < 4) (hm : m ∈ slotsOf i) : ((s.stringMoved i old).moduleAt m).mask = [] := by
  have cleared : ((s.clearStringMasks i).changeEval.moduleAt m).mask = [] := by
    rw [moduleAt_of_modules (changeEval_frame _ .modules (by decide))]
    exact mask_clearMasks hm (lt_of_mem_slotsOf hm hi)
  unfold State.stringMoved
  dsimp only
  rw [if_pos clears]
  split
  · rw [moduleAt_of_modules (trip_frame _ _ .modules (by decide)), cleared]
  · exact cleared

/-! ### Frames that wait in URGENT (R160) -/

/-- A frame placed in URGENT waits there (R160). -/
theorem mem_urgent_placeUrgent (s : State) (p : Placed) : p ∈ (s.placeUrgent p).fieldPort.urgent := by
  rw [State.placeUrgent_fieldPort]
  dsimp only
  split
  · rename_i any
    obtain ⟨w, hw, same⟩ := List.any_eq_true.mp any
    exact List.mem_map.mpr ⟨w, hw, if_pos same⟩
  · exact List.mem_append_right _ (List.mem_singleton.mpr rfl)

/-- A frame of another kind placed in URGENT leaves the others there. -/
theorem mem_urgent_placeUrgent_of_ne {p q : Placed} (h : p ∈ s.fieldPort.urgent)
    (other : p.frame.kind ≠ q.frame.kind) : p ∈ (s.placeUrgent q).fieldPort.urgent := by
  have stands : q.matches p = false := by
    simp [Placed.matches, other]
  rw [State.placeUrgent_fieldPort]
  dsimp only
  split
  · exact List.mem_map.mpr ⟨p, h, if_neg (by simp [stands])⟩
  · exact List.mem_append_left _ h

theorem urgent_placeNormal (s : State) (p : Placed) : (s.placeNormal p).fieldPort.urgent = s.fieldPort.urgent := by
  rw [State.placeNormal_fieldPort]
  split
  · rfl
  · split <;> rfl

theorem urgent_placeBleedSet (s : State) (m : Nat) : (s.placeBleedSet m).fieldPort.urgent = s.fieldPort.urgent := by
  unfold State.placeBleedSet
  split
  · rfl
  · dsimp only
    split
    · exact urgent_placeNormal s _
    · exact urgent_placeNormal s _

theorem urgent_clearMasks (s : State) (cleared : List Nat) :
    (s.clearMasks cleared).fieldPort.urgent = s.fieldPort.urgent := by
  have one : ∀ (t : State) (m : Nat), (t.clearMask cleared m).fieldPort.urgent = t.fieldPort.urgent := fun t m => by
    unfold State.clearMask
    dsimp only
    split
    · exact urgent_placeBleedSet _ m
    · split
      · exact urgent_placeBleedSet _ m
      · rfl
  exact keeps_foldl (P := fun t => t.fieldPort.urgent = s.fieldPort.urgent) (fun t m h => (one t m).trans h) rfl

@[simp] theorem raise_fieldPort (s : State) (k : NoticeKind) (x : Option Nat) : (s.raise k x).fieldPort = s.fieldPort :=
  raise_frame s k x .fieldPort (by decide)

/-- An evaluation may place a DISPATCH, and leaves the other frames in URGENT (R96). -/
theorem mem_urgent_changeEval {p : Placed} (h : p ∈ s.fieldPort.urgent) (other : p.frame.kind ≠ kindDispatch) :
    p ∈ s.changeEval.fieldPort.urgent := by
  have made : p ∈ (s.evaluate.makeFrame .corrective).fieldPort.urgent := by
    unfold State.makeFrame
    dsimp only
    split
    · exact h
    · exact mem_urgent_placeUrgent_of_ne (s := s.evaluate.evaluate) h other
  unfold State.changeEval State.correct
  dsimp only
  split
  · split
    · rwa [raise_fieldPort]
    · exact made
  · exact h

theorem mem_urgent_trip {p : Placed} {c : TripCause} (h : p ∈ s.fieldPort.urgent)
    (other : p.frame.kind ≠ kindDispatch) : p ∈ (s.trip c).fieldPort.urgent := by
  have opened : p ∈ (s.tripOpen c).fieldPort.urgent := by
    rw [State.tripOpen_eq]
    refine mem_urgent_changeEval ?_ other
    rw [raise_fieldPort]
    split <;> exact h
  unfold State.trip
  split
  case h_1 | h_2 | h_3 => exact opened
  case h_4 => split <;> exact h
  case h_5 =>
    split
    · exact mem_urgent_changeEval h other
    · exact h
  case h_6 =>
    split
    · exact mem_urgent_changeEval h other
    · exact mem_urgent_changeEval h other
  case h_7 => split <;> exact h

theorem mem_urgent_stringMoved {p : Placed} {i : Nat} {old : StringState} (h : p ∈ s.fieldPort.urgent)
    (other : p.frame.kind ≠ kindDispatch) : p ∈ (s.stringMoved i old).fieldPort.urgent := by
  have masked : p ∈ (if clearsMasks old (s.stringAt i).state then s.clearStringMasks i else s).fieldPort.urgent := by
    split
    · exact (urgent_clearMasks s (slotsOf i)).symm ▸ h
    · exact h
  unfold State.stringMoved
  dsimp only
  split
  · exact mem_urgent_trip (mem_urgent_changeEval masked other) other
  · exact mem_urgent_changeEval masked other

/-- A contactor command to a string with a monitor waits in URGENT (R30). -/
theorem mem_urgent_contactorCommand {i a : Nat} {close : Bool} (h : s.addressOf .stringMonitor i = some a) :
    s.ownFrame kindContactorCommand a (contactorPayload close) ∈ (s.contactorCommand i close).fieldPort.urgent := by
  simp only [State.contactorCommand, h]
  exact mem_urgent_placeUrgent _ _

theorem mem_urgent_isolate {i a : Nat} {cause : Option IsolationCause} {notice : Option NoticeKind}
    (h : s.addressOf .stringMonitor i = some a) :
    s.ownFrame kindContactorCommand a (contactorPayload false) ∈ (s.isolate i cause notice).fieldPort.urgent := by
  have commanded := mem_urgent_contactorCommand (close := false) h
  unfold State.isolate
  dsimp only
  refine mem_urgent_stringMoved ?_ (by decide : kindContactorCommand ≠ kindDispatch)
  cases notice with
  | none => exact commanded
  | some k => exact (raise_fieldPort _ k _).symm ▸ commanded

/-! ### An entry to WELDED (R36, R110) -/

/-- A trip of a closed breaker leaves the connection record of `trippedConn` (R110). -/
theorem tripOpen_conn (s : State) (c : TripCause) : (s.tripOpen c).conn = s.trippedConn c := by
  rw [State.tripOpen_eq]
  refine (changeEval_frame _ .conn (by decide)).trans ((raise_frame _ _ _ .conn (by decide)).trans ?_)
  split <;> rfl

theorem conn_of_stringMoved_welded {i : Nat} {old : StringState} (welded : (s.stringAt i).state = .welded)
    (connected : s.conn.state = .connected) :
    (s.stringMoved i old).conn.state = .opening ∧ (s.stringMoved i old).conn.tripCause = some .welded ∧
      (s.stringMoved i old).conn.target = some .openLocked := by
  have moved : (if clearsMasks old (s.stringAt i).state then s.clearStringMasks i else s).changeEval.conn = s.conn := by
    refine (changeEval_frame _ .conn (by decide)).trans ?_
    split
    · exact clearMasks_frame s _ .conn (by decide)
    · rfl
  unfold State.stringMoved
  dsimp only
  rw [if_pos (by simp [welded])]
  have opened : ∀ u : State, u.conn = s.conn → (u.trip .welded) = u.tripOpen .welded := fun u h => by
    simp only [State.trip, h, connected]
  rw [opened _ moved, tripOpen_conn]
  exact ⟨rfl, rfl, rfl⟩

end Sys2Proof.Machine
end

section
/-! PROOFS of O19 and O20: a STRING REPORT is recorded and counted (R44 to R46), and its feedback moves a string in use
(R31 to R36, R41). -/

namespace Sys2Proof.Machine

variable {s t : State} {i : Nat}

/-! ### Conditions that the moves of a string keep -/

/-- `P` is kept by what the moves of a string are made of. -/
structure StringMoves (P : State → Prop) : Prop where
  contactorCommand : ∀ {s : State} {i : Nat} {close : Bool}, P s → P (s.contactorCommand i close)
  modString : ∀ {s : State} {i : Nat} {f : StringRec → StringRec}, P s → P (s.modString i f)
  raise : ∀ {s : State} {k : NoticeKind} {x : Option Nat}, P s → P (s.raise k x)
  latchRetained : ∀ {s : State} {r : Retained}, P s → P (s.latchRetained r)
  stringMoved : ∀ {s : State} {i : Nat} {old : StringState}, P s → P (s.stringMoved i old)

namespace StringMoves

variable {P : State → Prop}

theorem isolate (h : StringMoves P) {i : Nat} {cause : Option IsolationCause} {notice : Option NoticeKind} (hs : P s) :
    P (s.isolate i cause notice) := by
  unfold State.isolate
  cases notice with
  | none => exact h.stringMoved (h.modString (h.contactorCommand hs))
  | some k => exact h.stringMoved (h.raise (h.modString (h.contactorCommand hs)))

/-- What a string does at its first report, once its retained condition has been latched (R31). -/
theorem leaveAwaiting (h : StringMoves P) {i : Nat} {closed : Bool}
    (hs : P (s.latchRetained (s.stringAt i).retained)) : P (s.leaveAwaiting i closed) := by
  unfold State.leaveAwaiting
  dsimp only
  split
  · split
    · exact h.isolate hs
    · split
      · exact h.isolate hs
      · exact h.stringMoved (h.modString hs)
  · split
    · exact h.stringMoved (h.modString hs)
    · split
      · exact h.stringMoved (h.modString hs)
      · exact h.stringMoved (h.modString hs)

theorem actOnFeedback (h : StringMoves P) {i : Nat} {closed : Bool} (hs : P s) : P (s.actOnFeedback i closed) := by
  unfold State.actOnFeedback
  dsimp only
  split
  case h_1 => exact h.leaveAwaiting (h.latchRetained hs)
  case h_2 =>
    split
    · exact keeps_ite (h.modString (h.contactorCommand hs)) hs
    · exact h.stringMoved (h.raise (h.modString hs))
  case h_3 => exact keeps_ite (h.stringMoved (h.raise (h.modString hs))) hs
  case h_4 => exact keeps_ite hs (h.stringMoved (h.raise (h.modString hs)))
  case h_5 => exact keeps_ite (h.isolate hs) hs
  case h_6 => exact keeps_ite (h.isolate hs) hs
  case h_7 => exact hs

end StringMoves

/-- The moves of a string leave an empty mask empty (R41). -/
theorem stringMoves_emptyMask (m : Nat) : StringMoves fun s => (s.moduleAt m).mask = [] where
  contactorCommand {s i close} hs := by
    rwa [moduleAt_of_modules (contactorCommand_frame s i close .modules (by decide))]
  modString hs := hs
  raise {s k x} hs := by rwa [moduleAt_of_modules (raise_frame s k x .modules (by decide))]
  latchRetained {s r} hs := by rwa [moduleAt_of_modules (latchRetained_frame s r .modules (by decide))]
  stringMoved {s i old} hs := by
    have masked : ((if clearsMasks old (s.stringAt i).state then s.clearStringMasks i else s).changeEval.moduleAt m).mask
        = [] := by
      rw [moduleAt_of_modules (changeEval_frame _ .modules (by decide))]
      split
      · exact keeps_foldl (P := fun t => (t.moduleAt m).mask = []) (fun _ _ h => mask_clearMask (.inl h)) hs
      · exact hs
    unfold State.stringMoved
    dsimp only
    split
    · rwa [moduleAt_of_modules (trip_frame _ _ .modules (by decide))]
    · exact masked

theorem isLatched_of_flags {f : Flag} (h : t.flags = s.flags) (hs : s.isLatched f = true) : t.isLatched f = true := by
  rwa [State.isLatched, h]

theorem isLatched_latch {f g : Flag} (hs : s.isLatched f = true) : (s.latch g).isLatched f = true := by
  simp only [State.isLatched, State.latch_flags, FlagRec.of, withFlag, BitVec.getLsbD_or, Bool.or_eq_true] at hs ⊢
  exact .inl hs

theorem isLatched_latch_self (s : State) (f : Flag) : (s.latch f).isLatched f = true := withFlag_getLsbD _ f

theorem isLatched_changeEval {f : Flag} (hs : s.isLatched f = true) : s.changeEval.isLatched f = true :=
  isLatched_of_flags (changeEval_frame s .flags (by decide)) hs

/-- A trip latches flags and clears none (R110). -/
theorem isLatched_trip {f : Flag} {c : TripCause} (hs : s.isLatched f = true) : (s.trip c).isLatched f = true := by
  have opened : (s.tripOpen c).isLatched f = true := by
    rw [State.tripOpen_eq]
    refine isLatched_changeEval (isLatched_of_flags (raise_frame _ _ _ .flags (by decide)) ?_)
    split
    · exact isLatched_latch hs
    · exact hs
  unfold State.trip
  split
  case h_1 | h_2 | h_3 => exact opened
  case h_4 => split <;> first | exact isLatched_latch hs | exact hs
  case h_5 =>
    split
    · exact isLatched_changeEval (isLatched_latch (s := s.setConn _) hs)
    · exact hs
  case h_6 =>
    split
    · exact isLatched_changeEval (isLatched_latch (s := (s.setConn _).setConn _) hs)
    · exact isLatched_changeEval hs
  case h_7 => split <;> exact hs

/-- The moves of a string latch flags and clear none. -/
theorem stringMoves_isLatched (f : Flag) : StringMoves fun s => s.isLatched f = true where
  contactorCommand {s i close} hs := isLatched_of_flags (contactorCommand_frame s i close .flags (by decide)) hs
  modString hs := hs
  raise {s k x} hs := isLatched_of_flags (raise_frame s k x .flags (by decide)) hs
  latchRetained {s r} hs := by
    unfold State.latchRetained
    split <;> first | exact isLatched_latch hs | exact hs
  stringMoved {s i old} hs := by
    have masked : (if clearsMasks old (s.stringAt i).state then s.clearStringMasks i else s).isLatched f = true := by
      split
      · exact isLatched_of_flags (clearMasks_frame s _ .flags (by decide)) hs
      · exact hs
    unfold State.stringMoved
    dsimp only
    split
    · exact isLatched_trip (isLatched_changeEval masked)
    · exact isLatched_changeEval masked

/-! ### The charge record at a report (R44 to R46) -/

/-- A charge record after a report whose last counted sample is `age` old. -/
def ChargeRec.afterReport (r : ChargeRec) (x : StringReport) (age : Option Nat) (interval : Nat) (trim : Int)
    (now : PartTime) : ChargeRec :=
  match classifyReport r.lastSeq age x.seq interval with
  | .duplicate => r
  | .first => (r.sample x.current interval trim).tied x now
  | .inStep d => ((r.fill (r.lastCurrent.getD 0) interval trim (d - 1)).sample x.current interval trim).tied x now
  | .gap =>
    let c := (r.sample x.current interval trim).tied x now
    { c with gaps := inc16 c.gaps, uncalibrated := true }

/-- The charge record of string `i` after a report. -/
def State.countedCharge (s : State) (i : Nat) (x : StringReport) : ChargeRec :=
  (s.stringAt i).charge.afterReport x ((s.stringAt i).charge.lastTime.map s.age) s.params.sampleInterval (s.trimOf i) s.time

theorem uncalibrate_strings {i : Nat} (h : i < s.strings.length) :
    (s.uncalibrate i).strings =
      s.strings.modify i fun r => { r with charge := { r.charge with uncalibrated := true } } := by
  unfold State.uncalibrate
  split
  · rename_i set
    rw [modify_const]
    refine (modify_self (s := s) (i := i)).symm.trans ?_
    congr 1
    funext _
    generalize s.stringAt i = r at set
    obtain ⟨_, _, _, _, _, _, _, _, _, ⟨⟩⟩ := r
    simp only at set
    rw [set]
  · rw [raise_strings]
    rfl

/-- A report changes the charge of its string alone. -/
theorem countReport_strings {i : Nat} {x : StringReport} (h : i < s.strings.length) :
    (s.countReport i x).strings = s.strings.modify i fun r => { r with charge := s.countedCharge i x } := by
  have charged : ∀ f : ChargeRec → ChargeRec, (s.modCharge i f).strings =
      s.strings.modify i fun r => { r with charge := f (s.stringAt i).charge } := fun f => by
    rw [modify_const fun r => { r with charge := f (s.stringAt i).charge }]
    exact modify_const fun r => { r with charge := f r.charge }
  unfold State.countReport State.countedCharge ChargeRec.afterReport
  dsimp only
  generalize classifyReport (s.stringAt i).charge.lastSeq _ x.seq _ = k
  cases k with
  | duplicate =>
    dsimp only
    rw [modify_const fun r => { r with charge := (s.stringAt i).charge }]
    exact modify_self.symm
  | first => exact charged _
  | inStep d => exact charged _
  | gap =>
    dsimp only
    rw [uncalibrate_strings (by simpa [State.modCharge, State.modString] using h), charged, List.modify_modify_eq]
    rfl

/-- The class of a report in step with the last one, or after a gap (R44). -/
theorem afterReport_of_last {r : ChargeRec} {x : StringReport} {l age interval : Nat} {trim : Int} {now : PartTime}
    (hl : r.lastSeq = some l) (bound : l < 256) :
    r.afterReport x (some age) interval trim now =
      (let d := (x.seq + 256 - l) % 256
       if d = 0 then r
       else if d ≤ 17 ∧ age < 128 * interval then
        ((r.fill (r.lastCurrent.getD 0) interval trim (d - 1)).sample x.current interval trim).tied x now
       else
        let c := (r.sample x.current interval trim).tied x now
        { c with gaps := inc16 c.gaps, uncalibrated := true }) := by
  have distance : seqDistance x.seq l = (x.seq + 256 - l) % 256 := by rw [seqDistance, Nat.mod_eq_of_lt bound]
  unfold ChargeRec.afterReport classifyReport
  simp only [hl, distance, beq_iff_eq, Bool.and_eq_true, decide_eq_true_eq, Option.getD_some]
  by_cases same : (x.seq + 256 - l) % 256 = 0
  · simp [same]
  · by_cases step : (x.seq + 256 - l) % 256 ≤ 17 ∧ age < 128 * interval
    · simp [same, step]
    · simp [same, step]

/-! ### The record of a string at a report -/

/-- A string's record with a report's measurements and the charge counted from it. -/
def StringRec.reported (r : StringRec) (x : StringReport) (charge : ChargeRec) : StringRec :=
  { r with
    current := some x.current, voltage := some (capNat 15000 x.voltage)
    feedback := if x.closed then .closed else .isOpen, charge }

/-- The part with a report's measurements recorded. -/
def State.reportMeasured (s : State) (i : Nat) (x : StringReport) : State :=
  s.modString i fun r =>
    { r with
      current := some x.current, voltage := some (capNat 15000 x.voltage)
      feedback := if x.closed then .closed else .isOpen }

/-- The part with the masks cleared that a report's current clears (R41). -/
def State.reportMasked (s : State) (i : Nat) (x : StringReport) : State :=
  if decide (s.params.balanceCurrentLimit < x.current.natAbs) then (s.reportMeasured i x).clearStringMasks i
  else s.reportMeasured i x

theorem takeStringReport_eq (s : State) (i : Nat) (x : StringReport) :
    s.takeStringReport i x =
      (let u := (s.reportMasked i x).countReport i x
       if (u.stringEntry i).inUse then u.actOnFeedback i x.closed else u) := rfl

theorem reportMasked_frame (s : State) (i : Nat) (x : StringReport) :
    (s.reportMeasured i x).changesOnly (s.reportMasked i x) [.modules, .fieldPort, .counters] := by
  unfold State.reportMasked
  split
  · exact clearMasks_frame _ _
  · exact State.changesOnly_refl _ _

theorem reportMeasured_frame (s : State) (i : Nat) (x : StringReport) :
    s.changesOnly (s.reportMeasured i x) [.strings] := setStrings_frame s _

/-- What a report counts, of a string in use or not. -/
theorem reportCounted_frame (s : State) (i : Nat) (x : StringReport) :
    s.changesOnly ((s.reportMasked i x).countReport i x) [.strings, .modules, .fieldPort, .notices, .counters] :=
  State.changesOnly_trans (State.changesOnly_mono (reportMeasured_frame s i x) (by decide))
    (State.changesOnly_trans (State.changesOnly_mono (reportMasked_frame s i x) (by decide))
      (State.changesOnly_mono (countReport_frame _ i x) (by decide)))

theorem reportCounted_frame_of_low (s : State) (i : Nat) {x : StringReport}
    (low : ¬s.params.balanceCurrentLimit < x.current.natAbs) :
    s.changesOnly ((s.reportMasked i x).countReport i x) [.strings, .notices, .counters] := by
  have same : s.reportMasked i x = s.reportMeasured i x := if_neg fun h => low (of_decide_eq_true h)
  rw [same]
  exact State.changesOnly_trans (State.changesOnly_mono (reportMeasured_frame s i x) (by decide)) (countReport_frame _ i x)

theorem reportCounted_strings {i : Nat} {x : StringReport} (h : i < s.strings.length) :
    ((s.reportMasked i x).countReport i x).strings =
      s.strings.modify i fun _ => (s.stringAt i).reported x (s.countedCharge i x) := by
  have masks := reportMasked_frame s i x
  have strings : (s.reportMasked i x).strings = (s.reportMeasured i x).strings := masks .strings (by decide)
  have time : (s.reportMasked i x).time = s.time := masks .time (by decide)
  have config : (s.reportMasked i x).config = s.config := masks .config (by decide)
  have charge : ((s.reportMasked i x).stringAt i).charge = (s.stringAt i).charge := by
    rw [stringAt_of_strings strings, stringAt_modify (s := s) rfl h]
  have age : (s.reportMasked i x).age = s.age := by
    funext since
    rw [State.age, time, State.age]
  have counted : (s.reportMasked i x).countedCharge i x = s.countedCharge i x := by
    simp only [State.countedCharge, State.trimOf, State.params, age, charge, time, config]
  rw [countReport_strings (by rw [strings]; simpa [State.reportMeasured, State.modString] using h), counted, strings]
  show (s.strings.modify i _).modify i _ = _
  rw [List.modify_modify_eq, modify_const]
  rfl

/-- A report leaves of its string's record the measurements, the charge counted, and, in use, what the feedback
moves. -/
theorem takeStringReport_strings {i : Nat} {x : StringReport} (h : i < s.strings.length) :
    (s.takeStringReport i x).strings =
      s.strings.modify i fun _ =>
        let u := (s.stringAt i).reported x (s.countedCharge i x)
        if (s.stringEntry i).inUse then u.afterFeedback x.closed s.anyConfirmed s.contactorEnd else u := by
  let u := (s.reportMasked i x).countReport i x
  have frame : s.changesOnly u _ := reportCounted_frame s i x
  have entry : u.stringEntry i = s.stringEntry i := stringEntry_of_config (frame .config (by decide)) i
  have confirmed : u.anyConfirmed = s.anyConfirmed := anyConfirmed_of_fire (frame .fire (by decide))
  have ends : u.contactorEnd = s.contactorEnd := contactorEnd_of (frame .time (by decide)) (frame .config (by decide))
  have strings : u.strings = _ := reportCounted_strings (x := x) h
  rw [takeStringReport_eq]
  change (if (u.stringEntry i).inUse then u.actOnFeedback i x.closed else u).strings = _
  rw [entry]
  dsimp only
  split
  · rw [actOnFeedback_strings, confirmed, ends, stringAt_modify strings h, strings, List.modify_modify_eq]
    rfl
  · exact strings

/-- Feedback leaves the measurements and the charge of a string alone. -/
theorem afterFeedback_measured (r : StringRec) (closed confirmed : Bool) (ends : PartTime) :
    let u := r.afterFeedback closed confirmed ends
    u.current = r.current ∧ u.voltage = r.voltage ∧ u.feedback = r.feedback ∧ u.charge = r.charge := by
  unfold StringRec.afterFeedback StringRec.afterFirst StringRec.atRest StringRec.isolating
  dsimp only
  repeat' split
  all_goals exact ⟨rfl, rfl, rfl, rfl⟩

theorem chargeOf_takeStringReport {i : Nat} {x : StringReport} (h : i < s.strings.length) :
    let u := (s.takeStringReport i x).stringAt i
    u.current = some x.current ∧ u.voltage = some (capNat 15000 x.voltage) ∧
      u.feedback = (if x.closed then .closed else .isOpen) ∧ u.charge = s.countedCharge i x := by
  dsimp only
  rw [stringAt_modify (takeStringReport_strings h) h]
  dsimp only
  split
  · exact afterFeedback_measured _ _ _ _
  · exact ⟨rfl, rfl, rfl, rfl⟩

/-- A high current leaves the masks of the string's slots empty, whatever its feedback then does (R41). -/
theorem mask_takeStringReport {i m : Nat} {x : StringReport} (hi : i < 4) (hm : m ∈ slotsOf i)
    (above : s.params.balanceCurrentLimit < x.current.natAbs) :
    ((s.takeStringReport i x).moduleAt m).mask = [] := by
  have counted : (((s.reportMasked i x).countReport i x).moduleAt m).mask = [] := by
    rw [moduleAt_of_modules (countReport_frame _ i x .modules (by decide)), State.reportMasked,
      if_pos (decide_eq_true above)]
    exact mask_clearMasks hm (lt_of_mem_slotsOf hm hi)
  rw [takeStringReport_eq]
  dsimp only
  split
  · exact (stringMoves_emptyMask m).actOnFeedback counted
  · exact counted

/-- Settles O19, from the record that a report leaves and the class of the report. -/
theorem stringReportIsRecordedAndCounted : Obligations.StringReportIsRecordedAndCounted := by
  intro s i x hi h _ t r u ts above
  obtain ⟨current, voltage, feedback, charge⟩ := chargeOf_takeStringReport (x := x) h
  have counted : u = r.afterReport x (r.lastTime.map s.age) ts (s.trimOf i) s.time := charge
  refine ⟨current, voltage, feedback, fun first => ?_, fun l since hl bound hs => ?_, fun _ => rfl, fun high m hm =>
    mask_takeStringReport hi hm high, fun j other => stringAt_modify_other (takeStringReport_strings h) other,
    fun unused => ?_⟩
  · simp only [counted, ChargeRec.afterReport, classifyReport, first]
  · rw [counted, hs, Option.map_some, afterReport_of_last hl bound]
    dsimp only
    refine ⟨fun same => if_pos same, fun low high young => ?_, fun low late => ?_⟩
    · rw [if_neg (by omega), if_pos ⟨high, young⟩]
    · have gap : ¬((x.seq + 256 - l) % 256 ≤ 17 ∧ s.age since < 128 * ts) := fun ⟨near, young⟩ =>
        late.elim (fun far => absurd near (Nat.not_le.mpr far)) fun old => absurd young (Nat.not_lt.mpr old)
      rw [if_neg (by omega), if_neg gap]
  · have same : t = (s.reportMasked i x).countReport i x := by
      have entry : ((s.reportMasked i x).countReport i x).stringEntry i = s.stringEntry i :=
        stringEntry_of_config (reportCounted_frame s i x .config (by decide)) i
      show s.takeStringReport i x = _
      rw [takeStringReport_eq]
      dsimp only
      rw [entry, unused]
      rfl
    have record : t.stringAt i = (s.stringAt i).reported x (s.countedCharge i x) := by
      rw [same, stringAt_modify (reportCounted_strings h) h]
    rw [record]
    refine ⟨rfl, rfl, rfl, rfl, rfl, rfl, fun _ => ?_, fun low => ?_⟩
    · exact same ▸ reportCounted_frame s i x
    · exact same ▸ reportCounted_frame_of_low s i low

/-! ### Feedback of a string in use (R31 to R36, R41) -/

theorem locks_eq (k : IsolationCause) : k.locks = (k == .cellHard || k == .tempHard || k == .fire) := by
  cases k <;> rfl

theorem locking_eq (c : Option IsolationCause) :
    locking c = c.filter fun k => k == .cellHard || k == .tempHard || k == .fire :=
  congrArg (c.filter ·) (funext locks_eq)

/-- A string whose contactor is found closed against its state is opened (R34). -/
theorem actOnFeedback_isolated (state : (s.stringAt i).state = .isolated) :
    s.actOnFeedback i true = s.isolate i (some .external) (some .contactorExternal) := by
  simp only [State.actOnFeedback, state, if_true]

theorem actOnFeedback_lockedOut (state : (s.stringAt i).state = .lockedOut) :
    s.actOnFeedback i true = s.isolate i (s.stringAt i).cause (some .contactorExternal) := by
  simp only [State.actOnFeedback, state, if_true]

theorem actOnFeedback_awaiting (state : (s.stringAt i).state = .awaiting) (closed : Bool) :
    s.actOnFeedback i closed = s.leaveAwaiting i closed := by
  simp only [State.actOnFeedback, state]

theorem actOnFeedback_stopped (state : (s.stringAt i).state = .isolating) (stopped : (s.stringAt i).timer = none) :
    (s.actOnFeedback i true).fieldPort = (s.contactorCommand i false).fieldPort := by
  simp only [State.actOnFeedback, state, if_true, stopped, Option.isNone_none]
  rfl

theorem actOnFeedback_opened (state : (s.stringAt i).state = .isolating) :
    s.actOnFeedback i false = s.contactorOpened i := by
  simp only [State.actOnFeedback, state, Bool.false_eq_true, if_false]

/-- The states that feedback leads into ISOLATING from. -/
theorem isolating_afterFeedback {r : StringRec} {closed confirmed : Bool} {ends : PartTime}
    (h : (r.afterFeedback closed confirmed ends).state = .isolating) :
    r.state = .isolating ∧ closed = true ∨ r.state = .isolated ∧ closed = true ∨ r.state = .lockedOut ∧ closed = true ∨
      r.state = .awaiting ∧ closed = true ∧ (r.retained = .welded ∨
        (r.retained.cause.or ((if confirmed then some IsolationCause.fire else none).or r.pendingCause)).isSome) := by
  unfold StringRec.afterFeedback at h
  cases state : r.state <;> cases closed <;> simp only [state, Bool.false_eq_true, if_true, if_false] at h
  case awaiting.false =>
    simp only [StringRec.afterFirst, Bool.false_eq_true, if_false] at h
    split at h
    · nomatch h
    · split at h <;> nomatch h
  case awaiting.true =>
    simp only [StringRec.afterFirst, if_true] at h
    split at h
    · rename_i welded
      exact .inr (.inr (.inr ⟨rfl, rfl, .inl (beq_iff_eq.mp welded)⟩))
    · split at h
      · rename_i some
        exact .inr (.inr (.inr ⟨rfl, rfl, .inr (by rw [some]; rfl)⟩))
      · nomatch h
  case isolating.false =>
    unfold StringRec.atRest at h
    split at h
    · nomatch h
    · split at h <;> nomatch h
  case isolating.true => exact .inl ⟨rfl, rfl⟩
  case isolated.true => exact .inr (.inl ⟨rfl, rfl⟩)
  case lockedOut.true => exact .inr (.inr (.inl ⟨rfl, rfl⟩))
  all_goals nomatch h

/-- A string in use that is told to open while it was not being opened has its monitor commanded (R30, R32). -/
theorem mem_urgent_actOnFeedback {i a : Nat} {closed : Bool} (h : i < s.strings.length)
    (monitor : s.addressOf .stringMonitor i = some a)
    (opening : ((s.actOnFeedback i closed).stringAt i).state = .isolating)
    (before : (s.stringAt i).state ≠ .isolating ∨ (s.stringAt i).timer = none) :
    s.ownFrame kindContactorCommand a (contactorPayload false) ∈ (s.actOnFeedback i closed).fieldPort.urgent := by
  have latched := latchRetained_frame s (s.stringAt i).retained
  have isolated : ∀ {c n} {u : State}, s.changesOnly u [.flags] →
      s.ownFrame kindContactorCommand a (contactorPayload false) ∈ (u.isolate i c n).fieldPort.urgent := fun {c n u} same => by
    have frame := mem_urgent_isolate (cause := c) (notice := n)
      ((addressOf_of_config (same .config (by decide)) _ _).trans monitor)
    rwa [ownFrame_of_sys (same .sys (by decide))] at frame
  rw [stringAt_modify (actOnFeedback_strings s i closed) h] at opening
  rcases isolating_afterFeedback opening with ⟨state, rfl⟩ | ⟨state, rfl⟩ | ⟨state, rfl⟩ | ⟨state, rfl, cause⟩
  · rw [actOnFeedback_stopped state (before.resolve_left fun h => h state)]
    exact mem_urgent_contactorCommand monitor
  · rw [actOnFeedback_isolated state]
    exact isolated (State.changesOnly_refl _ _)
  · rw [actOnFeedback_lockedOut state]
    exact isolated (State.changesOnly_refl _ _)
  · rw [actOnFeedback_awaiting state]
    unfold State.leaveAwaiting
    dsimp only
    rw [if_pos rfl, anyConfirmed_of_fire (latched .fire (by decide))]
    split
    · exact isolated latched
    · rename_i other
      obtain ⟨c, hc⟩ := Option.isSome_iff_exists.mp (cause.resolve_left fun h => other (beq_iff_eq.mpr h))
      rw [hc]
      exact isolated latched

/-- The states that feedback leads into WELDED from. -/
theorem welded_afterFeedback {r : StringRec} {closed confirmed : Bool} {ends : PartTime} (before : r.state ≠ .welded)
    (h : (r.afterFeedback closed confirmed ends).state = .welded) :
    closed = false ∧ r.retained = .welded ∧ (r.state = .awaiting ∨ r.state = .isolating) := by
  unfold StringRec.afterFeedback at h
  cases state : r.state <;> cases closed <;> simp only [state, Bool.false_eq_true, if_true, if_false] at h
  case awaiting.false =>
    simp only [StringRec.afterFirst, Bool.false_eq_true, if_false] at h
    split at h
    · rename_i welded
      exact ⟨rfl, beq_iff_eq.mp welded, .inl rfl⟩
    · split at h <;> nomatch h
  case awaiting.true =>
    simp only [StringRec.afterFirst, if_true] at h
    split at h
    · nomatch h
    · split at h <;> nomatch h
  case isolating.false =>
    unfold StringRec.atRest at h
    split at h
    · rename_i welded
      exact ⟨rfl, beq_iff_eq.mp welded, .inr rfl⟩
    · split at h <;> nomatch h
  case isolating.true =>
    split at h
    · nomatch h
    · nomatch state.symm.trans h
  case welded.false | welded.true => exact absurd state before
  all_goals nomatch h

/-- A string in use that becomes WELDED trips a connected breaker (R36, R110). -/
theorem conn_of_actOnFeedback_welded {i : Nat} {closed : Bool} (h : i < s.strings.length)
    (before : (s.stringAt i).state ≠ .welded) (welded : ((s.actOnFeedback i closed).stringAt i).state = .welded)
    (connected : s.conn.state = .connected) :
    let c := (s.actOnFeedback i closed).conn
    c.state = .opening ∧ c.tripCause = some .welded ∧ c.target = some .openLocked := by
  have read := welded
  rw [stringAt_modify (actOnFeedback_strings s i closed) h] at welded
  obtain ⟨rfl, retained, state⟩ := welded_afterFeedback before welded
  have moved : ∀ {u : State} {old : StringState}, u.conn = s.conn → ((u.stringMoved i old).stringAt i).state = .welded →
      let c := (u.stringMoved i old).conn
      c.state = .opening ∧ c.tripCause = some .welded ∧ c.target = some .openLocked := fun {u old} conn state => by
    rw [stringAt_of_strings (stringMoved_strings u i old)] at state
    exact conn_of_stringMoved_welded state ((congrArg ConnRec.state conn).trans connected)
  rcases state with state | state
  · rw [actOnFeedback_awaiting state] at read ⊢
    unfold State.leaveAwaiting at read ⊢
    simp only [retained, Bool.false_eq_true, if_false, beq_self_eq_true, if_true] at read ⊢
    exact moved (u := State.modString _ i _) (latchRetained_frame s _ .conn (by decide)) read
  · rw [actOnFeedback_opened state] at read ⊢
    exact moved (u := State.raise _ _ _) (raise_frame _ _ _ .conn (by decide)) read

/-- A string in use whose contactor closes in ISOLATED has its masks cleared (R41). -/
theorem mask_actOnFeedback_isolated {m : Nat} (h : i < s.strings.length) (state : (s.stringAt i).state = .isolated)
    (hi : i < 4) (hm : m ∈ slotsOf i) : ((s.actOnFeedback i true).moduleAt m).mask = [] := by
  rw [actOnFeedback_isolated state]
  have opening : (((s.contactorCommand i false).modString i fun r =>
      r.isolating (some .external) (s.contactorCommand i false).contactorEnd).stringAt i).state = .isolating := by
    rw [stringAt_modify (s := s.contactorCommand i false) rfl (by simpa using h)]
    rfl
  refine mask_stringMoved ?_ hi hm
  rw [state, stringAt_of_strings (raise_strings _ _ _)]
  exact congrArg (clearsMasks .isolated) opening

theorem afterFeedback_awaiting {r : StringRec} (h : r.state = .awaiting) (closed confirmed : Bool) (ends : PartTime) :
    r.afterFeedback closed confirmed ends = r.afterFirst closed confirmed ends := by
  simp only [StringRec.afterFeedback, h]

theorem afterFeedback_isolating {r : StringRec} (h : r.state = .isolating) (closed confirmed : Bool) (ends : PartTime) :
    r.afterFeedback closed confirmed ends =
      if closed then (if r.timer.isNone then { r with timer := some ends } else r) else r.atRest := by
  simp only [StringRec.afterFeedback, h]

theorem afterFeedback_restoring {r : StringRec} {closed confirmed : Bool} {ends : PartTime} (h : r.state = .restoring) :
    r.afterFeedback closed confirmed ends =
      if closed then { r with state := .inService, cause := none, timer := none } else r := by
  simp only [StringRec.afterFeedback, h]

theorem afterFeedback_inService {r : StringRec} {closed confirmed : Bool} {ends : PartTime} (h : r.state = .inService) :
    r.afterFeedback closed confirmed ends = if closed then r else { r with state := .isolated, cause := some .external } := by
  simp only [StringRec.afterFeedback, h]

theorem afterFeedback_isolated {r : StringRec} {closed confirmed : Bool} {ends : PartTime} (h : r.state = .isolated) :
    r.afterFeedback closed confirmed ends = if closed then r.isolating (some .external) ends else r := by
  simp only [StringRec.afterFeedback, h]

theorem afterFeedback_lockedOut {r : StringRec} {closed confirmed : Bool} {ends : PartTime} (h : r.state = .lockedOut) :
    r.afterFeedback closed confirmed ends = if closed then r.isolating r.cause ends else r := by
  simp only [StringRec.afterFeedback, h]

theorem afterFeedback_welded {r : StringRec} {closed confirmed : Bool} {ends : PartTime} (h : r.state = .welded) :
    r.afterFeedback closed confirmed ends = r := by
  simp only [StringRec.afterFeedback, h]

theorem keeps_of_changesOnly {L K : List Part} (h : s.changesOnly t L) (hK : ∀ p ∈ K, p ∉ L) : s.keeps t K :=
  fun p hp => h p (hK p hp)

/-- Settles O20, from the record, the frame, the masks and the trip that a string's feedback leaves. -/
theorem stringFeedbackMovesItsString : Obligations.StringFeedbackMovesItsString := by
  intro s i x h inUse t r u isolating locks kept fire
  let v := (s.reportMasked i x).countReport i x
  have frame : s.changesOnly v _ := reportCounted_frame s i x
  have acted : t = v.actOnFeedback i x.closed := by
    show s.takeStringReport i x = _
    rw [takeStringReport_eq]
    dsimp only
    rw [stringEntry_of_config (frame .config (by decide)), if_pos inUse]
  have vRange : i < v.strings.length := by
    have strings : v.strings = _ := reportCounted_strings (x := x) h
    rw [strings, List.length_modify]
    exact h
  have charge : (t.stringAt i).charge = s.countedCharge i x := (chargeOf_takeStringReport h).2.2.2
  have read : v.stringAt i = u := by
    rw [stringAt_modify (reportCounted_strings (x := x) h) h]
    show (s.stringAt i).reported x (s.countedCharge i x) = _
    rw [← charge]
    rfl
  have record : t.stringAt i = u.afterFeedback x.closed s.anyConfirmed s.contactorEnd := by
    rw [acted, stringAt_modify (actOnFeedback_strings v i x.closed) vRange, read,
      anyConfirmed_of_fire (frame .fire (by decide)),
      contactorEnd_of (frame .time (by decide)) (frame .config (by decide))]
  have locks_eq : locks = locking := funext fun c => (locking_eq c).symm
  clear_value locks
  subst locks_eq
  have moved : ∀ {w : StringRec}, u.afterFeedback x.closed s.anyConfirmed s.contactorEnd = w → t.stringAt i = w := record.trans
  refine ⟨fun state closed => moved ?_, fun state closed => moved ?_, fun state welded => ?_, fun state opened => moved ?_,
    fun state closed => moved ?_, fun state => moved ?_, fun state => moved ?_, fun state => moved ?_,
    fun state => moved ?_, fun state => moved ?_, fun a monitor opening => ?_, fun hi before after m hm => ?_,
    fun before welded connected => ?_, ?_⟩
  · rw [closed, afterFeedback_awaiting (r := u) state]
    exact ite_of_iff beq_iff_eq rfl rfl
  · rw [closed, afterFeedback_awaiting (r := u) state]
    exact ite_of_iff beq_iff_eq rfl rfl
  · have vState : (v.stringAt i).state = .awaiting := (congrArg StringRec.state read).trans state
    have vRetained : (v.stringAt i).retained = .welded := (congrArg StringRec.retained read).trans welded
    rw [acted, actOnFeedback_awaiting vState]
    refine (stringMoves_isLatched .contactorFail).leaveAwaiting ?_
    rw [vRetained]
    exact isLatched_latch_self v _
  · rw [opened, afterFeedback_isolating (r := u) state, if_neg Bool.false_ne_true]
    exact ite_of_iff beq_iff_eq rfl rfl
  · rw [closed, afterFeedback_isolating (r := u) state, if_pos rfl]
    exact ite_of_iff Option.isNone_iff_eq_none rfl rfl
  · exact afterFeedback_restoring state
  · exact afterFeedback_inService state
  · exact afterFeedback_isolated state
  · exact afterFeedback_lockedOut state
  · exact afterFeedback_welded state
  · have before : (v.stringAt i).state ≠ .isolating ∨ (v.stringAt i).timer = none := by
      rw [read]
      exact opening.2
    have commanded := mem_urgent_actOnFeedback (closed := x.closed) vRange
      ((addressOf_of_config (frame .config (by decide)) _ _).trans monitor) (by rw [← acted]; exact opening.1) before
    have sys : t.sys = s.sys := frame_of (fun h => h.takeStringReport (List.Subset.refl _)) .sys (by decide)
    rw [acted] at sys
    rw [ownFrame_of_sys (frame .sys (by decide))] at commanded
    rw [acted, ownFrame_of_sys sys]
    exact commanded
  · rcases before with state | state
    · rw [record, afterFeedback_inService (r := u) state] at after
      exfalso
      split at after
      · simp [u, state] at after
      · simp at after
    · by_cases closed : x.closed = true
      · rw [acted, closed]
        exact mask_actOnFeedback_isolated vRange ((congrArg StringRec.state read).trans state) hi hm
      · rw [record, afterFeedback_isolated (r := u) state, if_neg closed] at after
        exfalso
        simp [u, state] at after
  · rw [acted]
    refine conn_of_actOnFeedback_welded vRange ?_ (by rw [← acted]; exact welded) ?_
    · rw [read]
      exact before
    · exact (congrArg ConnRec.state (frame .conn (by decide))).trans connected
  · exact keeps_of_changesOnly (frame_of fun h => h.takeStringReport (List.Subset.refl _)) (by decide)

end Sys2Proof.Machine
end

section
/-! PROOFS of O21 and O22: a GRID SAMPLE is repeated or taken, and one taken moves the stages, the connection and the
Gate (R95, R102, R103, R105, R106, R109, R115). -/

namespace Sys2Proof.Machine

variable {s t : State}

/-! ### Samples (R102, R103) -/

/-- The latest-sample record with a given history. -/
def GridRec.takeWith (g : GridRec) (p : Params) (now : PartTime) (x : GridSample) (history : List Int) : GridRec :=
  let a := capNat 2000 x.vA
  let b := capNat 2000 x.vB
  let d := capNat 2000 x.vC
  let f : Int := clampInt 40000 70000 x.f
  { g with
    lastSeq := some x.seq, vA := some a, vB := some b, vC := some d
    vMin := some (min a (min b d)), vMax := some (max a (max b d))
    f := some f, arrival := some now, stale := false, history
    rocof := rocofOf history f p.rocofWindow p.gridSampleInterval }

theorem take_eq_takeWith (g : GridRec) (p : Params) (now : PartTime) (c : SampleClass) (x : GridSample) :
    g.take p now c x = g.takeWith p now x (historyAfter g c) := rfl

/-- A sample whose sequence is the last one's is repeated, and one that follows it is in step (R102). -/
theorem classifySample_some {l seq : Nat} (hl : l < 256) (hseq : seq < 256) :
    classifySample (some l) seq =
      if l = seq then .duplicate else if (l + 1) % 256 = seq then .inStep else .gap := by
  unfold classifySample seqDistance
  simp only [beq_iff_eq, Nat.mod_eq_of_lt hl]
  by_cases same : l = seq
  · rw [if_pos same, if_pos (by omega)]
  · rw [if_neg same, if_neg (by omega)]
    by_cases step : (l + 1) % 256 = seq
    · rw [if_pos step, if_pos (by omega)]
    · rw [if_neg step, if_neg (by omega)]

/-- Settles O21, from the class of the sample. -/
theorem gridSampleIsTakenOrRepeated : Obligations.GridSampleIsTakenOrRepeated := by
  intro s x hx hlast v
  have taken : s.takeGridSample x = v.gridSampleWith x (Config.gateFirst s.choices) := rfl
  refine ⟨fun same => ?_, ?_⟩
  · have class_ : classifySample v.grid.lastSeq x.seq = .duplicate := by
      show classifySample s.grid.lastSeq x.seq = _
      rw [same, classifySample_some hx hx, if_pos rfl]
    rw [taken, State.gridSampleWith, class_]
    rfl
  · intro new inStep f history n g w
    have record : ∀ c : SampleClass, historyAfter s.grid c = history → s.grid.take s.params s.time c x = g := fun c h =>
      (take_eq_takeWith ..).trans (congrArg (s.grid.takeWith s.params s.time x) h)
    have unstepped : ∀ c, c ≠ .inStep → inStep = false → historyAfter s.grid c = history := fun c hc no => by
      have none : history = [] := by
        show (match inStep && !s.grid.stale, s.grid.f with
          | true, some last => lastEntries 10 (s.grid.history ++ [last])
          | _, _ => []) = []
        rw [no]
        rfl
      rw [none]
      unfold historyAfter
      cases c <;> first | exact absurd rfl hc | rfl
    have stepped : inStep = true → historyAfter s.grid .inStep = history := fun yes => by
      show _ = (match inStep && !s.grid.stale, s.grid.f with
        | true, some last => lastEntries 10 (s.grid.history ++ [last])
        | _, _ => [])
      rw [yes]
      unfold historyAfter
      cases s.grid.stale <;> cases s.grid.f <;> rfl
    have handed : ∀ (c : SampleClass) (k : Counters), historyAfter s.grid c = history →
        k = (if s.grid.lastSeq = none ∨ inStep = true then s.counters else
          { s.counters with gridGaps := inc16 s.counters.gridGaps }) →
        ((v.setCounters k).setGrid (s.grid.take s.params s.time c x)).handSample (Config.gateFirst s.choices) =
          w.handSample (Config.gateFirst s.choices) := fun c k hc hk => by
      rw [record c hc, hk]
    rw [taken, State.gridSampleWith]
    change (match classifySample s.grid.lastSeq x.seq with
      | .duplicate => _
      | .gap => _
      | c => _) = w.handSample (Config.gateFirst s.choices)
    cases hl : s.grid.lastSeq with
    | none =>
      have no : inStep = false := by
        show s.grid.lastSeq.any _ = false
        rw [hl]
        rfl
      exact handed .first s.counters (unstepped _ SampleClass.noConfusion no) (by rw [if_pos (.inl hl)])
    | some l =>
      have distinct : l ≠ x.seq := fun h => new (hl.trans (congrArg some h))
      have inStep_eq : inStep = ((l + 1) % 256 == x.seq) := by
        show s.grid.lastSeq.any _ = _
        rw [hl]
        rfl
      rw [classifySample_some (hlast l hl) hx, if_neg distinct]
      by_cases step : (l + 1) % 256 = x.seq
      · rw [if_pos step]
        have yes : inStep = true := inStep_eq.trans (beq_iff_eq.mpr step)
        exact handed .inStep s.counters (stepped yes) (by rw [if_pos (.inr yes)])
      · rw [if_neg step]
        have no : inStep = false := inStep_eq.trans (beq_eq_false_iff_ne.mpr step)
        refine handed .gap _ (unstepped _ SampleClass.noConfusion no) ?_
        rw [if_neg (by simp [hl, no])]
        rfl

/-! ### The protection stages (R105, R106) -/

theorem stageAt_modStage_same {i : Nat} (f : StageRec → StageRec) (h : i < s.grid.stages.length) :
    (s.modStage i f).stageAt i = f (s.stageAt i) := by
  simp [State.stageAt, State.modStage, h]

theorem stageAt_modStage_other {i j : Nat} (f : StageRec → StageRec) (h : j ≠ i) :
    (s.modStage i f).stageAt j = s.stageAt j := by
  simp [State.stageAt, State.modStage, List.getElem?_modify, Ne.symm h]

theorem evaluateStage_of_held {i : Nat} (h : (s.stageEntry i).inUse = false ∨ s.grid.value (s.stageEntry i).quantity = none) :
    s.evaluateStage i = s := by
  unfold State.evaluateStage
  dsimp only
  rcases h with h | h
  · rw [h]
  · rw [h]
    cases (s.stageEntry i).inUse <;> rfl

theorem evaluateStage_of_value {i : Nat} {x : Int} (inUse : (s.stageEntry i).inUse = true)
    (value : s.grid.value (s.stageEntry i).quantity = some x) :
    s.evaluateStage i = s.modStage i fun r => r.evaluated (s.stageEntry i) x s.time := by
  unfold State.evaluateStage
  dsimp only
  rw [inUse, value]

theorem beyondTrip_iff (e : StageEntry) (x : Int) :
    e.beyondTrip x = true ↔ match e.direction with
      | .under => x < e.trip
      | .over => (e.trip : Int) < x := by
  unfold StageEntry.beyondTrip
  cases e.direction <;> simp

theorem pastRestore_iff (e : StageEntry) (x : Int) :
    e.pastRestore x = true ↔ match e.direction with
      | .under => (e.restore : Int) ≤ x
      | .over => x ≤ e.restore := by
  unfold StageEntry.pastRestore
  cases e.direction <;> simp

/-- A CLEAR stage picks up beyond its trip level, and any other clears past its restore level (R105). -/
theorem evaluated_of_clear {r : StageRec} (e : StageEntry) (x : Int) (now : PartTime) (h : r.state = .clear) :
    r.evaluated e x now = if e.beyondTrip x then
      (if e.delay = 0 then ⟨.operated, none, some now⟩
      else ⟨.pickedUp, some (now + BitVec.ofNat 32 e.delay), some now⟩) else r := by
  simp only [StageRec.evaluated, h, beq_iff_eq]

theorem evaluated_of_not_clear {r : StageRec} (e : StageEntry) (x : Int) (now : PartTime) (h : r.state ≠ .clear) :
    r.evaluated e x now = if e.pastRestore x then ⟨.clear, none, none⟩ else r := by
  unfold StageRec.evaluated
  cases state : r.state with
  | clear => exact absurd state h
  | pickedUp | operated => rfl

/-! ### The conditions that the Connection Controller reads (R109, R115) -/

theorem tripStages_isEmpty_iff (s : State) (x : StageState) : (s.tripStages x).isEmpty = false ↔
    ∃ i < 8, (s.stageEntry i).inUse = true ∧ (s.stageEntry i).action = .trip ∧ (s.stageAt i).state = x := by
  rw [State.tripStages, List.isEmpty_eq_false_iff_exists_mem]
  simp [and_assoc]

theorem anyTripPickedUp_iff (s : State) : s.anyTripPickedUp = true ↔
    ∃ i < 8, (s.stageEntry i).inUse = true ∧ (s.stageEntry i).action = .trip ∧ (s.stageAt i).state = .pickedUp := by
  rw [State.anyTripPickedUp, Bool.not_eq_true', tripStages_isEmpty_iff]

theorem connTo_conn (s : State) (c : ConnState) : (s.connTo c).conn = { s.conn with state := c } :=
  changeEval_frame _ .conn (by decide)

/-- The reconnection conditions, one by one (R115). -/
theorem reconnect_iff (s : State) : (s.reconnectAllowed && s.inWindow) = true ↔
    (s.conn.request = .connect ∨ (s.conn.request = .none ∧ s.tables.t9.autoReconnect = true)) ∧
      s.nodeStateOf .meter 0 = .live ∧ s.lineIsActive .eStop = false ∧
      (∀ z ∈ s.fire.zones, z.stage ≠ .preAlarm ∧ z.stage.confirmed = false) ∧ s.anyTripPickedUp = false ∧
      (s.tripStages .operated).isEmpty = true ∧ s.conn.feedback = .isOpen ∧ s.conn.startAdopted = true ∧
      ∃ lo hi f, s.grid.vMin = some lo ∧ s.grid.vMax = some hi ∧ s.grid.f = some f ∧
        s.tables.t9.vWindowLow ≤ lo ∧ hi ≤ s.tables.t9.vWindowHigh ∧ (s.tables.t9.fWindowLow : Int) ≤ f ∧
        f ≤ s.tables.t9.fWindowHigh := by
  have calm : s.anyPreAlarm = false ↔ ∀ z ∈ s.fire.zones, z.stage ≠ .preAlarm ∧ z.stage.confirmed = false := by
    simp [State.anyPreAlarm]
  have window : s.inWindow = true ↔ ∃ lo hi f, s.grid.vMin = some lo ∧ s.grid.vMax = some hi ∧ s.grid.f = some f ∧
      s.tables.t9.vWindowLow ≤ lo ∧ hi ≤ s.tables.t9.vWindowHigh ∧ (s.tables.t9.fWindowLow : Int) ≤ f ∧
      f ≤ s.tables.t9.fWindowHigh := by
    unfold State.inWindow
    cases s.grid.vMin <;> cases s.grid.vMax <;> cases s.grid.f <;> simp [and_assoc]
  simp only [State.reconnectAllowed, Bool.and_eq_true, Bool.or_eq_true, beq_iff_eq, Bool.not_eq_true', calm, window,
    and_assoc]

/-! ### The counters that a making leaves alone (R92, R96, R160) -/

/-- The counters but for those that a dispatch frame's making, its placing and a lost notice may advance. -/
def Counters.unmade (c : Counters) : Counters :=
  { c with
    noticesLost := 0, fieldSuperseded := 0, dispatchSuperseded := 0, fieldNormalRefused := 0, dispatchFramesLost := 0
    dispatchUnaddressed := 0 }

theorem raise_unmade (s : State) (k : NoticeKind) (x : Option Nat) :
    (s.raise k x).counters.unmade = s.counters.unmade := by
  rw [raise_counters]
  split <;> rfl

theorem placeNormal_unmade (s : State) (p : Placed) : (s.placeNormal p).counters.unmade = s.counters.unmade := by
  unfold State.placeNormal
  repeat' split
  all_goals rfl

theorem placeDispatch_unmade (s : State) (type : FrameType) (dest : Nat) (m : Making) :
    (s.placeDispatch type dest m).counters.unmade = s.counters.unmade := by
  unfold State.placeDispatch
  dsimp only
  split
  · rfl
  · split <;> exact placeNormal_unmade s _

theorem makeFrame_unmade (s : State) (type : FrameType) :
    (s.makeFrame type).counters.unmade = s.counters.unmade := by
  unfold State.makeFrame
  dsimp only
  split
  · rfl
  · exact placeDispatch_unmade s.evaluate type _ _

theorem correct_unmade (s : State) : s.correct.counters.unmade = s.counters.unmade := by
  unfold State.correct
  dsimp only
  split
  · exact (raise_unmade ..).trans (makeFrame_unmade ..)
  · exact makeFrame_unmade ..

theorem changeEval_unmade (s : State) : s.changeEval.counters.unmade = s.counters.unmade := by
  unfold State.changeEval
  dsimp only
  split
  · exact correct_unmade s.evaluate
  · rfl

/-- A connection taken to another state keeps the rest of its record through the evaluation. -/
theorem connTo_setConn (s : State) (c : ConnRec) (x : ConnState) : ((s.setConn c).connTo x).conn = { c with state := x } :=
  connTo_conn (s.setConn c) x

/-- The Connection Controller rides through a TRIP stage that is PICKED_UP while none is OPERATED (R109). -/
theorem followStages_of_connected (state : s.conn.state = .connected) :
    s.followStages = if s.anyTripPickedUp && (s.tripStages .operated).isEmpty then
      (((s.setConn { s.conn with state := .rideThrough }).count
        fun c => { c with rideThroughs := inc16 c.rideThroughs }).raise .rideThrough none).changeEval
    else s := by
  simp only [State.followStages, state]

theorem followStages_of_rideThrough (state : s.conn.state = .rideThrough) :
    s.followStages = if s.anyTripPickedUp then s else s.connTo .connected := by
  simp only [State.followStages, state]

theorem followStages_of_open (h1 : s.conn.state ≠ .connected) (h2 : s.conn.state ≠ .rideThrough) :
    s.followStages = s := by
  unfold State.followStages
  split
  · exact absurd ‹_› h1
  · exact absurd ‹_› h2
  all_goals rfl

theorem reconnectSample_of_openWait (state : s.conn.state = .openWait) :
    s.reconnectSample = if s.reconnectAllowed && s.inWindow then
      (s.setConn { s.conn with reconnectEnd := some (s.after (s.tables.t9.reconnectTime * 1000)) }).connTo
        .reconnectTiming
    else s := by
  simp only [State.reconnectSample, state]

theorem reconnectSample_of_timing (state : s.conn.state = .reconnectTiming) :
    s.reconnectSample = if s.reconnectAllowed && s.inWindow then s else s.stopReconnect := by
  simp only [State.reconnectSample, state]

theorem reconnectSample_of_other (h1 : s.conn.state ≠ .openWait) (h2 : s.conn.state ≠ .reconnectTiming) :
    s.reconnectSample = s := by
  unfold State.reconnectSample
  dsimp only
  split
  · exact absurd ‹_› h1
  · exact absurd ‹_› h2
  all_goals rfl

theorem frApplies_iff (s : State) : s.frApplies = true ↔
    (s.gate.state = .passing ∧ s.gate.frParticipation = true) ∨
      (s.gate.state = .failsafe ∧ s.params.failsafeFr = true) := by
  unfold State.frApplies
  cases s.gate.state <;> simp

/-- Settles O22, from the evaluation of one stage and the conditions that the Connection Controller reads. -/
theorem stagesAndConnectionFollowTheSample : Obligations.StagesAndConnectionFollowTheSample := by
  intro s
  refine ⟨fun i _ hi => ?_, rfl, ?_, ?_⟩
  · intro e r held
    refine ⟨evaluateStage_of_held, fun x inUse value => ?_⟩
    intro beyond past t
    have moved : t = s.modStage i fun r => r.evaluated e x s.time := evaluateStage_of_value inUse value
    have record : t.stageAt i = r.evaluated e x s.time := by rw [moved, stageAt_modStage_same _ hi]
    refine ⟨fun clear => ?_, fun other => ?_, fun j hj => ?_, ?_⟩
    · rw [record, evaluated_of_clear e x s.time clear]
      exact ⟨fun h => if_pos ((beyondTrip_iff e x).mpr h), fun h => if_neg fun k => h ((beyondTrip_iff e x).mp k)⟩
    · rw [record, evaluated_of_not_clear e x s.time other]
      exact ⟨fun h => if_pos ((pastRestore_iff e x).mpr h), fun h => if_neg fun k => h ((pastRestore_iff e x).mp k)⟩
    · rw [moved, stageAt_modStage_other _ hj]
    · rw [moved]
      exact setGrid_frame s _
  · intro picked operated t
    have picks : picked ↔ s.anyTripPickedUp = true := (anyTripPickedUp_iff s).symm
    have operates : operated ↔ (s.tripStages .operated).isEmpty = false := (tripStages_isEmpty_iff s .operated).symm
    clear_value picked operated
    refine ⟨fun state hp ho => ?_, fun state h => ?_, fun state hp => ?_, fun state hp => ?_, followStages_of_open, ?_⟩
    · have rides : (s.anyTripPickedUp && (s.tripStages .operated).isEmpty) = true := by
        rw [picks.mp hp, Bool.true_and, ← Bool.not_eq_false]
        exact fun no => ho (operates.mpr no)
      have moved : t = (((s.setConn { s.conn with state := .rideThrough }).count
          fun c => { c with rideThroughs := inc16 c.rideThroughs }).raise .rideThrough none).changeEval :=
        (followStages_of_connected state).trans (if_pos rides)
      rw [moved]
      refine ⟨(changeEval_frame _ .conn (by decide)).trans (Steady.raise_conn ..), ?_⟩
      exact congrArg Counters.rideThroughs ((changeEval_unmade _).trans (raise_unmade ..))
    · refine (followStages_of_connected state).trans (if_neg fun rides => ?_)
      obtain ⟨hp, ho⟩ := Bool.and_eq_true_iff.mp rides
      exact h.elim (fun no => no (picks.mpr hp)) fun yes => Bool.noConfusion ((operates.mp yes).symm.trans ho)
    · exact (followStages_of_rideThrough state).trans (if_pos (picks.mp hp))
    · exact (followStages_of_rideThrough state).trans (if_neg fun yes => hp (picks.mpr yes))
    · intro c allowed
      have holds : (s.reconnectAllowed && s.inWindow) = true ↔ allowed := by
        have calm : ¬operated ↔ (s.tripStages .operated).isEmpty = true := by
          rw [operates, Bool.not_eq_false]
        rw [reconnect_iff]
        simp only [allowed, picks, calm, Bool.not_eq_true]
        exact Iff.rfl
      refine ⟨fun state yes => ?_, fun state no => ?_, ?_⟩
      · rw [reconnectSample_of_openWait state, if_pos (holds.mpr yes)]
        exact connTo_setConn ..
      · rw [reconnectSample_of_timing state, if_neg fun yes => no (holds.mp yes)]
        exact connTo_setConn ..
      · rintro (⟨state, no⟩ | ⟨state, yes⟩ | ⟨h1, h2⟩)
        · exact (reconnectSample_of_openWait state).trans (if_neg fun yes => no (holds.mp yes))
        · exact (reconnectSample_of_timing state).trans (if_pos (holds.mpr yes))
        · exact reconnectSample_of_other h1 h2
  · intro applies moved
    have due : (s.frApplies && decide (s.params.frStep ≤ (s.frTerm - s.gate.pFrApplied).natAbs)) = true ↔
        applies ∧ moved := by
      rw [Bool.and_eq_true, frApplies_iff, decide_eq_true_iff]
    exact ⟨fun h1 h2 => if_pos (due.mpr ⟨h1, h2⟩), fun h => if_neg fun yes =>
      h.elim (fun no => no (due.mp yes).1) fun no => no (due.mp yes).2⟩

end Sys2Proof.Machine
end

section
/-! PROOFS of O25 and O26: a detector pair steps its detector (R137 to R140), and the frames of the Station Port are
sorted (R153, R159). -/

namespace Sys2Proof.Machine

variable {s t : State}

/-! ### The loop step and the grade step (R138 to R140) -/

theorem gradeStep_loop (d : DetectorRec) (e : DetectorEntry) (r : Int) : (d.gradeStep e r).loop = d.loop := by
  unfold DetectorRec.gradeStep
  repeat' split
  all_goals rfl

/-- What a loop step tells of the loop state `was` before it and `now` after it. -/
def LoopNews.tells (was now : LoopState) : LoopNews → Prop
  | .nothing | .standing => now = was
  | .fault => (now = .isOpen ∨ now = .short) ∧ now ≠ was
  | .restored => (was = .isOpen ∨ was = .short) ∧ now = .normal

/-- A detector whose OPEN or SHORT run a loop code counts (R139). -/
def DetectorRec.counting (d : DetectorRec) (l : LoopState) : DetectorRec :=
  match l with
  | .isOpen => { d.zeroGradeRuns with openRun := inc8 d.openRun, shortRun := 0, normalRun := 0 }
  | .short | .normal | .silent => { d.zeroGradeRuns with shortRun := inc8 d.shortRun, openRun := 0, normalRun := 0 }

def DetectorRec.runOf (d : DetectorRec) (l : LoopState) : Nat := if l == .isOpen then d.openRun else d.shortRun

theorem counting_loop (d : DetectorRec) (l : LoopState) : (d.counting l).loop = d.loop := by
  cases l <;> rfl

theorem loopCode_eq (d : DetectorRec) (e : DetectorEntry) (l : LoopState) :
    d.loopCode e l = if d.loop = l then (d.counting l, .standing)
      else if e.persist ≤ (d.counting l).runOf l then ((d.counting l).faulted l, .fault)
      else (d.counting l, .nothing) :=
  ite_of_iff (by rw [beq_iff_eq, ← counting_loop d l]; rfl) rfl rfl

theorem loopCode_tells (d : DetectorRec) (e : DetectorEntry) {l : LoopState} (hl : l = .isOpen ∨ l = .short) :
    (d.loopCode e l).2.tells d.loop (d.loopCode e l).1.loop := by
  rw [loopCode_eq]
  split
  · exact counting_loop d l
  · split
    · exact ⟨hl, fun h => absurd h.symm ‹_›⟩
    · exact counting_loop d l

/-- A loop code counts its run, and at persist the loop enters its state, with no grade (R139). -/
theorem loopCode_fst (d : DetectorRec) (e : DetectorEntry) (l : LoopState) :
    (d.loopCode e l).1 = if d.loop ≠ l ∧ e.persist ≤ (d.counting l).runOf l then (d.counting l).faulted l
      else d.counting l := by
  rw [loopCode_eq]
  split
  · rw [if_neg fun h => h.1 ‹_›]
  · split
    · rw [if_pos ⟨‹_›, ‹_›⟩]
    · rw [if_neg fun h => ‹¬_ ≤ _› h.2]

theorem readingCode_tells (d : DetectorRec) (e : DetectorEntry) (code : Nat) :
    (d.readingCode e code).2.tells d.loop (d.readingCode e code).1.loop := by
  simp only [DetectorRec.readingCode, Bool.or_eq_true, beq_iff_eq]
  split
  · split
    · exact ⟨‹_›, gradeStep_loop ..⟩
    · exact rfl
  · exact gradeStep_loop ..

/-- A reading of a NORMAL loop takes the grade step (R139). -/
theorem readingCode_of_normal {d : DetectorRec} (e : DetectorEntry) (code : Nat) (h : d.loop = .normal) :
    (d.readingCode e code).1 =
      ({ d with reading := some (e.type.reading code), openRun := 0, shortRun := 0 } : DetectorRec).gradeStep e
        (e.type.reading code) := by
  simp [DetectorRec.readingCode, h]

/-- A reading of a faulted loop counts the normal run, and at persist restores the loop (R139). -/
theorem readingCode_of_faulted {d : DetectorRec} (e : DetectorEntry) (code : Nat) (h1 : d.loop ≠ .normal)
    (h2 : d.loop ≠ .silent) :
    (d.readingCode e code).1 =
      let w := { d with reading := some (e.type.reading code), openRun := 0, shortRun := 0 }
      if e.persist ≤ inc8 d.normalRun then { w with loop := .normal, normalRun := 0 }.gradeStep e (e.type.reading code)
      else { w with normalRun := inc8 d.normalRun } := by
  have faulted : (d.loop == .isOpen || d.loop == .short) = true := by
    cases hl : d.loop <;> simp_all
  simp only [DetectorRec.readingCode, faulted, if_true]
  split <;> rfl

/-- A detector that takes a pair, before the pair's code is looked at (R138): a SILENT loop is NORMAL again. -/
def DetectorRec.heard (d : DetectorRec) (node slot : Nat) (now : PartTime) : DetectorRec :=
  let d := { d with node := some node, slot := some slot, lastTime := some now, reports := inc16 d.reports }
  if d.loop = .silent then { d.zeroRuns with loop := .normal } else d

theorem heard_loop (d : DetectorRec) (node slot : Nat) (now : PartTime) :
    (d.heard node slot now).loop = if d.loop = .silent then .normal else d.loop := by
  unfold DetectorRec.heard
  exact apply_ite DetectorRec.loop ..

theorem heard_loop_ne_silent (d : DetectorRec) (node slot : Nat) (now : PartTime) :
    (d.heard node slot now).loop ≠ .silent := by
  rw [heard_loop]
  split
  · exact LoopState.noConfusion
  · assumption

theorem takePair_eq (d : DetectorRec) (e : DetectorEntry) (node slot code : Nat) (now : PartTime) :
    d.takePair e node slot code now =
      if code = 65535 then (d.heard node slot now).loopCode e .isOpen
      else if code = 65534 then (d.heard node slot now).loopCode e .short
      else (d.heard node slot now).readingCode e code := by
  simp only [DetectorRec.takePair, DetectorRec.heard, beq_iff_eq]

theorem takePair_tells (d : DetectorRec) (e : DetectorEntry) (node slot code : Nat) (now : PartTime) :
    (d.takePair e node slot code now).2.tells (if d.loop = .silent then .normal else d.loop)
      (d.takePair e node slot code now).1.loop := by
  rw [takePair_eq, ← heard_loop d node slot now]
  split
  · exact loopCode_tells _ e (.inl rfl)
  · split
    · exact loopCode_tells _ e (.inr rfl)
    · exact readingCode_tells ..

/-! ### What a pair does to the part (R138, R139) -/

theorem detectorAt_modDetector_same {i : Nat} (f : DetectorRec → DetectorRec) (h : i < s.fire.detectors.length) :
    (s.modDetector i f).detectorAt i = f (s.detectorAt i) := by
  simp [State.detectorAt, State.modDetector, h]

theorem detectorAt_modDetector_other {i j : Nat} (f : DetectorRec → DetectorRec) (h : j ≠ i) :
    (s.modDetector i f).detectorAt j = s.detectorAt j := by
  simp [State.detectorAt, State.modDetector, List.getElem?_modify, Ne.symm h]

/-- What the news of a loop step brings: nothing of a masked detector (log 35), else the flag or the notice (R139). -/
def State.tellLoop (s : State) (i : Nat) (masked : Bool) (news : LoopNews) : State :=
  match news with
  | .nothing => s
  | .restored => if masked then s else s.raise .detectorRestored (some i)
  | .standing => if masked then s else s.latch .detectorFault
  | .fault => if masked then s else (s.latch .detectorFault).raise .detectorFault (some i)

theorem detectorOf_of_unmapped {first slot : Nat} (h : 15 < first + slot ∨ (s.detectorEntry (first + slot)).inUse = false) :
    s.detectorOf first slot = none := by
  unfold State.detectorOf
  dsimp only
  rw [if_neg]
  simp only [Bool.and_eq_true, decide_eq_true_iff]
  rintro ⟨le, inUse⟩
  rcases h with h | h
  · omega
  · exact Bool.noConfusion (inUse.symm.trans h)

theorem detectorOf_of_inUse {first slot : Nat} (le : first + slot ≤ 15)
    (inUse : (s.detectorEntry (first + slot)).inUse = true) : s.detectorOf first slot = some (first + slot) := by
  unfold State.detectorOf
  dsimp only
  rw [if_pos (by simp [le, inUse])]

theorem takeDetectorPair_of_unmapped {first slot : Nat} (node code : Nat)
    (h : 15 < first + slot ∨ (s.detectorEntry (first + slot)).inUse = false) :
    s.takeDetectorPair first node (slot, code) =
      s.setCounters { s.counters with detectorPairsUnmapped := inc16 s.counters.detectorPairsUnmapped } := by
  simp only [State.takeDetectorPair, detectorOf_of_unmapped h]
  rfl

theorem takeDetectorPair_of_inUse {first slot : Nat} (node code : Nat) (le : first + slot ≤ 15)
    (inUse : (s.detectorEntry (first + slot)).inUse = true) :
    s.takeDetectorPair first node (slot, code) =
      let p := (s.detectorAt (first + slot)).takePair (s.detectorEntry (first + slot)) node slot code s.time
      (s.modDetector (first + slot) fun _ => p.1).tellLoop (first + slot) (s.detectorEntry (first + slot)).mask p.2 := by
  simp only [State.takeDetectorPair, detectorOf_of_inUse le inUse]
  rfl

theorem tellLoop_frame (s : State) (i : Nat) (m : Bool) (n : LoopNews) :
    s.changesOnly (s.tellLoop i m n) [.flags, .notices, .counters] := by
  have raised : ∀ k x, s.changesOnly (s.raise k x) [.flags, .notices, .counters] := fun k x =>
    frame_of fun h => h.raise (by decide)
  have latched : ∀ f, s.changesOnly (s.latch f) [.flags, .notices, .counters] := fun f =>
    frame_of fun h => h.latch (by decide)
  cases m
  case true => cases n <;> exact State.changesOnly_refl s _
  cases n with
  | nothing => exact State.changesOnly_refl s _
  | restored => exact raised _ _
  | standing => exact latched _
  | fault => exact State.changesOnly_trans (latched _) (frame_of fun h => h.raise (by decide))

/-- The notice of a change of the loop of an unmasked detector (R139, log 35). -/
theorem tellLoop_notices {was now : LoopState} {n : LoopNews} (i : Nat) (m : Bool) (h : n.tells was now) :
    (s.tellLoop i m n).notices =
      if ((now = .isOpen ∨ now = .short) ∧ now ≠ was) ∧ m = false then
        enterNotice s.notices ⟨.detectorFault, some i, 1, s.time⟩
      else if ((was = .isOpen ∨ was = .short) ∧ now = .normal) ∧ m = false then
        enterNotice s.notices ⟨.detectorRestored, some i, 1, s.time⟩
      else s.notices := by
  have raised : ∀ (u : State) k x, (u.raise k x).notices = enterNotice u.notices ⟨k, x, 1, u.time⟩ := fun u k x => by
    simp [State.raise_eq]
  have unchanged : now = was → ¬((now = .isOpen ∨ now = .short) ∧ now ≠ was) ∧
      ¬((was = .isOpen ∨ was = .short) ∧ now = .normal) := by
    rintro rfl
    exact ⟨fun h => h.2 rfl, by rintro ⟨rfl | rfl, h⟩ <;> exact LoopState.noConfusion h⟩
  cases m with
  | true =>
    rw [if_neg (by simp), if_neg (by simp)]
    cases n <;> rfl
  | false =>
    simp only [and_true]
    cases n with
    | nothing =>
      rw [if_neg (unchanged h).1, if_neg (unchanged h).2]
      rfl
    | standing =>
      rw [if_neg (unchanged h).1, if_neg (unchanged h).2]
      rfl
    | fault =>
      have entered : (now = .isOpen ∨ now = .short) ∧ now ≠ was := h
      rw [if_pos entered]
      exact raised (s.latch .detectorFault) ..
    | restored =>
      have returned : (was = .isOpen ∨ was = .short) ∧ now = .normal := h
      rw [if_neg (by simp [returned.2]), if_pos returned]
      exact raised _ _ _

theorem tellLoop_isLatched {was now : LoopState} {n : LoopNews} (i : Nat) (h : n.tells was now)
    (entered : (now = .isOpen ∨ now = .short) ∧ now ≠ was) : (s.tellLoop i false n).isLatched .detectorFault = true := by
  cases n with
  | nothing => exact absurd h entered.2
  | standing => exact absurd h entered.2
  | restored =>
    obtain ⟨_, rfl⟩ := h
    rcases entered.1 with h | h <;> exact LoopState.noConfusion h
  | fault => exact isLatched_of_flags (raise_frame _ _ _ .flags (by decide)) (isLatched_latch_self s _)

theorem tellLoop_masked (i : Nat) (n : LoopNews) : s.tellLoop i true n = s := by
  cases n <;> rfl

/-- The grade that the runs give (R140). -/
theorem graded_grade (d : DetectorRec) (persist : Nat) :
    (d.graded persist).grade = if persist ≤ d.alarmRun then .alarm
      else if d.grade = .none ∧ persist ≤ d.preRun then .pre
      else if d.grade ≠ .none ∧ persist ≤ d.clearRun then .none
      else d.grade := by
  have known : (d.grade = .pre ∨ d.grade = .alarm) ↔ d.grade ≠ .none := by
    cases d.grade <;> simp
  simp only [DetectorRec.graded, Bool.and_eq_true, Bool.or_eq_true, beq_iff_eq, decide_eq_true_iff, known]

/-- The grade step of a detector that is not masked (R140): the runs that the level moves, and the grade they give. -/
theorem gradeStep_of_unmasked (d : DetectorRec) (e : DetectorEntry) (r : Int) (h : e.mask = false) :
    d.gradeStep e r = ({ d with
      alarmRun := if e.alarmLevel ≤ r then inc8 d.alarmRun else 0
      preRun := if e.alarmLevel ≤ r ∨ e.preLevel ≤ r then inc8 d.preRun else 0
      clearRun := if e.alarmLevel ≤ r ∨ e.preLevel ≤ r then 0 else inc8 d.clearRun } : DetectorRec).graded e.persist := by
  unfold DetectorRec.gradeStep
  rw [h, if_neg Bool.false_ne_true]
  by_cases alarm : e.alarmLevel ≤ r
  · simp only [alarm, if_true, true_or]
  · by_cases pre : e.preLevel ≤ r
    · simp only [alarm, pre, if_true, if_false, or_true]
    · simp only [alarm, pre, if_false, or_self]

/-- Settles O25, from the loop step, the grade step and what the news of a loop step brings. -/
theorem detectorPairMovesItsDetector : Obligations.DetectorPairMovesItsDetector := by
  refine ⟨?_, ?_, ?_⟩
  · intro s first node slot code t
    refine ⟨takeDetectorPair_of_unmapped node code, fun le inUse present => ?_⟩
    have told : t = _ := takeDetectorPair_of_inUse node code le inUse
    dsimp only at told
    have news := takePair_tells (s.detectorAt (first + slot)) (s.detectorEntry (first + slot)) node slot code s.time
    generalize hp : (s.detectorAt (first + slot)).takePair (s.detectorEntry (first + slot)) node slot code s.time = p
      at told news
    obtain ⟨d, n⟩ := p
    have fire : t.fire = (s.modDetector (first + slot) fun _ => d).fire := by
      rw [told]
      exact tellLoop_frame _ _ _ _ .fire (by decide)
    have record : t.detectorAt (first + slot) = d :=
      (congrArg (fun f : FireUnit => f.detectors.getD (first + slot) .atReset) fire).trans
        (detectorAt_modDetector_same (fun _ => d) present)
    refine ⟨record, fun j hj => ?_, (congrArg FireUnit.zones fire).trans rfl, ?_, ?_⟩
    · exact (congrArg (fun f : FireUnit => f.detectors.getD j .atReset) fire).trans
        (detectorAt_modDetector_other (fun _ => d) hj)
    · intro i was now masked entered returned
      have now_eq : now = d.loop := congrArg DetectorRec.loop record
      clear_value now
      subst now_eq
      refine ⟨?_, fun h unmasked => ?_, fun yes => ?_⟩
      · rw [told]
        exact tellLoop_notices i masked news
      · rw [told]
        change ((s.modDetector i fun _ => d).tellLoop i masked n).isLatched _ = true
        rw [unmasked]
        exact tellLoop_isLatched i news h
      · rw [told]
        change ((s.modDetector i fun _ => d).tellLoop i masked n).flags = s.flags
        rw [yes, tellLoop_masked]
        rfl
    · rw [told]
      have moved : s.changesOnly (s.modDetector (first + slot) fun _ => d) [.fire, .flags, .notices, .counters] :=
        frame_of fun h => h.modDetector (by decide)
      exact State.changesOnly_trans moved (State.changesOnly_mono (tellLoop_frame _ _ _ _) (by decide))
  · intro d e node slot code now taken v r entering faulty w n t
    have taken_eq : t = _ := congrArg Prod.fst (takePair_eq d e node slot code now)
    have heard : d.heard node slot now = v := rfl
    have awake : v.loop ≠ .silent := heard_loop_ne_silent d node slot now
    rw [heard] at taken_eq
    clear_value v
    refine ⟨fun h => ?_, fun h => ?_, fun h1 h2 => ?_⟩
    · rw [taken_eq, if_pos h]
      exact loopCode_fst v e .isOpen
    · rw [taken_eq, if_neg (by omega), if_pos h]
      exact loopCode_fst v e .short
    · rw [if_neg h1, if_neg h2] at taken_eq
      have reading : e.type.reading code = r := rfl
      refine ⟨fun normal => ?_, fun faulted enough => ?_, fun faulted few => ?_⟩
      · rw [taken_eq, readingCode_of_normal e code normal, reading]
      · rw [taken_eq, readingCode_of_faulted e code faulted awake, if_pos enough, reading]
      · rw [taken_eq, readingCode_of_faulted e code faulted awake, if_neg (by omega), reading]
  · intro d e r
    refine ⟨fun masked => if_pos masked, ?_⟩
    intro unmasked alarm pre t
    have stepped : t = _ := gradeStep_of_unmasked d e r unmasked
    rw [stepped]
    exact ⟨rfl, rfl, rfl, graded_grade _ _, rfl, rfl, rfl⟩

/-! ### Station frames (R153, R159) -/

/-- A station frame received whole leaves the receive side hunting, and is counted where it is malformed, but for a
request that the Management Engine judges (R153, log 16). -/
theorem receiveWhole_station {f : Frame}
    (h : f.src ≠ 0 ∨ f.dest ≠ s.sys.address ∨ f.kind ≠ kindManagementRequest) :
    s.receiveWhole .station f = (s.setSlot .station none).setCounters
      (if payloadFits f.kind f.payload then s.counters else
        { s.counters with stationPort := { s.counters.stationPort with
            malformedFrames := inc16 s.counters.stationPort.malformedFrames } }) := by
  have unjudged : (s.setSlot .station none).engineJudges .station f = false := by
    rw [Bool.eq_false_iff]
    intro judged
    simp only [State.engineJudges, State.setSlot, Bool.and_eq_true, beq_iff_eq] at judged
    obtain ⟨⟨⟨_, src⟩, dest⟩, kind⟩ := judged
    rcases h with h | h | h
    · exact h src
    · exact h dest
    · exact h kind
  cases fits : payloadFits f.kind f.payload <;>
    simp [State.receiveWhole, isMalformed, fits, unjudged, State.countPort, State.count]
  all_goals rfl

theorem stationHeard_frame (s : State) : s.changesOnly s.stationHeard [.gate, .notices, .counters] :=
  frame_of fun h => h.stationHeard (List.Subset.refl _)

theorem stationSteps_of_partOwned {f : Frame} (h : isPartOwned f.kind = true) :
    s.stationSteps f = (s.count fun c => { c with usurpedFrames := inc16 c.usurpedFrames }).raise .usurpedKind
      (some f.kind) := if_pos h

theorem stationSteps_of_addressed {f : Frame} (h : isPartOwned f.kind = false) (dest : f.dest = s.sys.address)
    (kind : f.kind ≠ kindManagementRequest) :
    s.stationSteps f = s.count fun c => { c with stationMisaddressed := inc16 c.stationMisaddressed } := by
  simp [State.stationSteps, h, dest, kind]

theorem stationSteps_of_dispatch {f : Frame} (dest : f.dest ≠ s.sys.address) (kind : f.kind = kindDispatch) :
    s.stationSteps f = s.dispatchArrives f := by
  have h : isPartOwned kindDispatch = false := by decide
  simp [State.stationSteps, h, dest, kind]

theorem stationSteps_of_forwarded {f : Frame} (h : isPartOwned f.kind = false) (dest : f.dest ≠ s.sys.address)
    (kind : f.kind ≠ kindDispatch) : s.stationSteps f = s.forwardToField f := by
  simp [State.stationSteps, h, dest, kind]

/-- A row of the Station Port that is no request is its frame received whole there (R159). -/
theorem exec_of_stationRow {c : Instr} {f : Frame} (runs : s.runs)
    (h : c = .stationFrame f ∨ (f.kind = kindDispatch ∧ c = .dispatch f.dest f.src f.payload)) :
    exec c s = .next (s.stationReceive f) := by
  have received := State.whileRunning_of_runs runs fun s => s.stationReceive f
  rcases h with rfl | ⟨kind, rfl⟩
  · exact received
  · obtain ⟨dest, src, k, payload⟩ := f
    cases kind
    exact received

theorem stationReceive_of_foreign {f : Frame} (src : f.src ≠ 0) :
    s.stationReceive f =
      (s.receiveWhole .station f).count fun c => { c with stationForeignSrc := inc16 c.stationForeignSrc } :=
  if_pos (bne_iff_ne.mpr src)

theorem stationReceive_of_station {f : Frame} (src : f.src = 0) :
    s.stationReceive f = (s.receiveWhole .station f).stationHeard.stationSteps f :=
  if_neg (by simp [src])

/-- Settles O26, from the steps of station receive. -/
theorem stationFramesAreSorted : Obligations.StationFramesAreSorted := by
  intro c f s row runs other fits k r
  have received : s.receiveWhole .station f = r := receiveWhole_station other
  have address : r.stationHeard.sys.address = s.sys.address := congrArg Sys.address (stationHeard_frame r .sys (by decide))
  have port : r.stationHeard.fieldPort = s.fieldPort := stationHeard_frame r .fieldPort (by decide)
  rw [exec_of_stationRow runs row]
  refine ⟨fun src => ?_, ?_⟩
  · rw [stationReceive_of_foreign src, received]
    rfl
  · intro src h
    rw [stationReceive_of_station src, received]
    refine ⟨fun owned => ?_, fun free dest => ?_, fun free dest kind => ?_, fun dest kind bad => ?_⟩
    · rw [stationSteps_of_partOwned owned]
      rfl
    · have kind : f.kind ≠ kindManagementRequest :=
        other.elim (fun no => absurd src no) fun no => no.elim (fun no => absurd dest no) id
      rw [stationSteps_of_addressed free (dest.trans address.symm) kind]
      rfl
    · rw [stationSteps_of_forwarded free (address ▸ dest) kind, State.forwardToField, port]
      rfl
    · have malformed : isMalformed f = true := by
        rw [isMalformed, show payloadFits f.kind f.payload = false from bad]
        rfl
      rw [stationSteps_of_dispatch (address ▸ dest) kind, State.dispatchArrives, if_pos malformed]

end Sys2Proof.Machine
end

section
/-! PROOFS of O27 and O28: a DISPATCH is made and answered (R92 to R94, R162), and every dispatch frame keeps to the
envelope that it is made on (R87 to R92). -/

namespace Sys2Proof.Machine

variable {s t : State}

/-! ### The DISPATCH RESULT (R162) -/

theorem placeResult_of_free {r : DispatchResult} (h : s.stationPort.used < 32) :
    s.placeResult r = s.setStationPort { s.stationPort with queue := s.stationPort.queue ++ [.result r] } := if_pos h

theorem placeResult_of_full {r : DispatchResult} (h : 32 ≤ s.stationPort.used) :
    s.placeResult r = if s.stationPort.queue.any StationFrame.isResult then
      (s.setStationPort { s.stationPort with
        queue := s.stationPort.queue.eraseP StationFrame.isResult ++ [.result r] }).setCounters
        { s.counters with resultsEvicted := inc16 s.counters.resultsEvicted }
      else s.setCounters { s.counters with resultsLost := inc16 s.counters.resultsLost } := if_neg (Nat.not_lt.mpr h)

theorem placeNormal_dispatchFramesLost (s : State) (p : Placed) :
    (s.placeNormal p).counters.dispatchFramesLost = s.counters.dispatchFramesLost := by
  unfold State.placeNormal
  repeat' split
  all_goals rfl

theorem setSlot_station_frame (s : State) (x : Option (List Byte)) :
    s.changesOnly (s.setSlot .station x) [.stationPort] := by
  intro p hp
  cases p <;> first | exact absurd (List.mem_singleton.mpr rfl) hp | rfl

/-! ### The way of a DISPATCH (R92 to R94, R159) -/

/-- The request of a DISPATCH in force, on a fresh envelope (R93). -/
def State.ordered (s : State) (o : DispatchOrder) : State :=
  (s.setGate { s.gate with
    pReqLast := clampInt (-4000) 4000 o.p, qReqLast := clampInt (-4000) 4000 o.q
    frParticipation := o.fr, number := o.number }).evaluate

theorem takeDispatch_of_pcs {dest : Nat} (o : DispatchOrder) (h : s.pcsAddress = some dest) :
    s.takeDispatch dest o =
      let e := s.ordered o
      let m := e.making .station e.gate.pReqLast e.gate.qReqLast
      (e.placeDispatch .station dest m).placeResult
        ⟨o.number, m.p, m.q, m.flags.word, e.gate.state, e.fieldPort.admits (e.dispatchFrame dest m)⟩ :=
  if_pos (beq_iff_eq.mpr h)

theorem takeDispatch_of_other {dest : Nat} (o : DispatchOrder) (h : s.pcsAddress ≠ some dest) :
    s.takeDispatch dest o =
      s.setCounters { s.counters with dispatchMisdirected := inc16 s.counters.dispatchMisdirected } :=
  if_neg fun same => h (beq_iff_eq.mp same)

theorem pcsAddress_stationHeard (s : State) : s.stationHeard.pcsAddress = s.pcsAddress :=
  addressOf_of_config (stationHeard_frame s .config (by decide)) .pcs 0

/-- A DISPATCH of the station controller that fits its layout is heard and taken by the Gate. -/
theorem exec_dispatch {dest : Nat} {payload rest : List Byte} {o : DispatchOrder} (runs : s.runs)
    (away : dest ≠ s.sys.address) (fits : payloadFits kindDispatch payload = true)
    (read : DispatchOrder.read payload = some (o, rest)) :
    exec (.dispatch dest 0 payload) s = .next ((s.setSlot .station none).stationHeard.takeDispatch dest o) := by
  have received : s.receiveWhole .station ⟨dest, 0, kindDispatch, payload⟩ = s.setSlot .station none := by
    rw [receiveWhole_station (.inr (.inl away)), if_pos fits]
    rfl
  have address : (s.setSlot .station none).stationHeard.sys.address = s.sys.address :=
    congrArg Sys.address (stationHeard_frame (s.setSlot .station none) .sys (by decide))
  have sound : isMalformed ⟨dest, 0, kindDispatch, payload⟩ = false := by
    rw [isMalformed, fits]
    rfl
  rw [exec_of_stationRow (f := ⟨dest, 0, kindDispatch, payload⟩) runs (.inr ⟨rfl, rfl⟩), stationReceive_of_station rfl,
    received, stationSteps_of_dispatch (address ▸ away) rfl, State.dispatchArrives, sound, read]
  rfl

theorem placeDispatch_station (dest : Nat) (m : Making) :
    s.placeDispatch .station dest m =
      if s.fieldPort.admits (s.dispatchFrame dest m) then
        (s.placeNormal (s.dispatchFrame dest m)).setGate (s.gate.made m s.time)
      else (s.placeNormal (s.dispatchFrame dest m)).count fun c =>
        { c with dispatchFramesLost := inc16 c.dispatchFramesLost } := rfl

/-- Settles O27, from the way of a DISPATCH and the placing of its result. -/
theorem dispatchIsMadeAndAnswered : Obligations.DispatchIsMadeAndAnswered := by
  refine ⟨?_, ?_⟩
  · intro s dest payload o rest runs away fits read h
    have arrives := exec_dispatch runs away fits read
    have pcs : h.pcsAddress = s.pcsAddress := pcsAddress_stationHeard (s.setSlot .station none)
    refine ⟨fun other => ?_, ?_, fun mine free => ?_⟩
    · rw [arrives, takeDispatch_of_other o (pcs ▸ other)]
    · intro e m mine
      rw [arrives, takeDispatch_of_pcs o (pcs.trans mine)]
      rfl
    · refine ⟨_, arrives, ?_⟩
      intro e m placed queued
      have taken : h.takeDispatch dest o = (e.placeDispatch .station dest m).placeResult
          ⟨o.number, m.p, m.q, m.flags.word, e.gate.state, queued⟩ := takeDispatch_of_pcs o (pcs.trans mine)
      have whole : s.changesOnly (h.takeDispatch dest o)
          [.gate, .envelope, .fieldPort, .stationPort, .notices, .counters] := by
        have slot : s.changesOnly (s.setSlot .station none) [.gate, .envelope, .fieldPort, .stationPort, .notices, .counters] :=
          State.changesOnly_mono (setSlot_station_frame s none) (by decide)
        exact State.changesOnly_trans (State.changesOnly_trans slot (frame_of fun h => h.stationHeard (by decide)))
          (frame_of fun h => h.takeDispatch (by decide))
      have port : h.stationPort = { s.stationPort with slot := none } :=
        stationHeard_frame (s.setSlot .station none) .stationPort (by decide)
      have frame : e.changesOnly (e.placeDispatch .station dest m) [.gate, .fieldPort, .counters] :=
        frame_of fun h => h.placeDispatch (by decide)
      have samePort : (e.placeDispatch .station dest m).stationPort = h.stationPort := frame .stationPort (by decide)
      have room : (e.placeDispatch .station dest m).stationPort.used < 32 := by
        rw [samePort, port]
        exact free
      have time : e.time = s.time := stationHeard_frame (s.setSlot .station none) .time (by decide)
      refine ⟨?_, ?_, ?_, ?_, ?_, whole⟩
      · rw [taken, placeResult_of_free room, samePort, port]
        rfl
      · rw [taken, placeResult_of_free room, placeDispatch_station, time]
        change State.gate (ite _ _ _) = _
        rw [apply_ite State.gate]
        exact ite_of_iff Iff.rfl rfl (placeNormal_frame e _ .gate (by decide))
      · rw [taken, placeResult_of_free room]
        exact frame .envelope (by decide)
      · rw [taken, placeResult_of_free room, placeDispatch_station]
        change State.fieldPort (ite _ _ _) = _
        rw [apply_ite State.fieldPort]
        exact ite_self _
      · rw [taken, placeResult_of_free room, placeDispatch_station]
        change State.counters (ite _ _ _) = _
        rw [apply_ite State.counters]
        rfl
  · intro s r p
    refine ⟨placeResult_of_free, fun before old after full queue earlier => ?_, fun full none => ?_⟩
    · have here : s.stationPort.queue.any StationFrame.isResult = true := by
        rw [show s.stationPort.queue = _ from queue]
        simp [StationFrame.isResult]
      have erased : s.stationPort.queue.eraseP StationFrame.isResult = before ++ after := by
        rw [show s.stationPort.queue = _ from queue, List.eraseP_append_right _ (by simpa using earlier),
          List.eraseP_cons_of_pos rfl]
      rw [placeResult_of_full full, if_pos here, erased]
    · have none_ : s.stationPort.queue.any StationFrame.isResult = false := List.any_eq_false.mpr fun f hf => by
        simp [none f hf]
      rw [placeResult_of_full full, none_]
      rfl

/-! ### Clamp and ramp (R88, R89) -/

theorem clampInt_bounds {lo hi : Int} (h : lo ≤ hi) (x : Int) : lo ≤ clampInt lo hi x ∧ clampInt lo hi x ≤ hi := by
  unfold clampInt
  split
  · omega
  · split <;> omega

/-- The ramp never passes the clamped target, nor crosses zero (R89). -/
theorem ramped_between (prev t : Int) {a : Int} (ha : 0 ≤ a) :
    (0 ≤ t → 0 ≤ ramped prev t a ∧ ramped prev t a ≤ t) ∧ (t ≤ 0 → t ≤ ramped prev t a ∧ ramped prev t a ≤ 0) := by
  simp only [ramped, beq_iff_eq]
  rcases Int.lt_trichotomy t 0 with neg | zero | pos
  · rw [Int.sign_eq_neg_one_of_neg neg, if_neg (by omega)]
    by_cases same : prev.sign = -1
    · have prevNeg := Int.sign_eq_neg_one_iff_neg.mp same
      rw [if_pos same]
      split <;> omega
    · rw [if_neg same]
      omega
  · rw [if_pos zero]
    omega
  · rw [Int.sign_eq_one_of_pos pos, if_neg (by omega)]
    by_cases same : prev.sign = 1
    · have prevPos := Int.sign_eq_one_iff_pos.mp same
      rw [if_pos same]
      split <;> omega
    · rw [if_neg same]
      omega

/-- The ramp reaches a target on the side of the last output that is no further from zero (R89). -/
theorem ramped_of_nearer {prev t : Int} (a : Int) (same : t.sign = prev.sign) (nearer : t.natAbs ≤ prev.natAbs) :
    ramped prev t a = t := by
  simp only [ramped, beq_iff_eq, same, if_true, nearer]
  split
  · exact ‹t = 0›.symm
  · rfl

/-- Beyond the last output the ramp moves by the allowance (R89). -/
theorem ramped_of_further {prev t a : Int} (ha : 0 ≤ a) (same : t.sign = prev.sign) (further : prev.natAbs ≤ t.natAbs) :
    ramped prev t a = t.sign * min (t.natAbs : Int) (prev.natAbs + a) := by
  simp only [ramped, beq_iff_eq, ← same, if_true]
  rcases Int.lt_trichotomy t 0 with neg | zero | pos
  · rw [Int.sign_eq_neg_one_of_neg neg] at same ⊢
    have prevNeg := Int.sign_eq_neg_one_iff_neg.mp same.symm
    rw [if_neg (by omega)]
    split <;> omega
  · rw [if_pos zero, zero, Int.sign_zero, Int.zero_mul]
  · rw [Int.sign_eq_one_of_pos pos] at same ⊢
    have prevPos := Int.sign_eq_one_iff_pos.mp same.symm
    rw [if_neg (by omega)]
    split <;> omega

/-- From the other side the ramp starts at zero (R89). -/
theorem ramped_of_crossing {prev t : Int} (a : Int) (other : t.sign ≠ prev.sign) :
    ramped prev t a = t.sign * min (t.natAbs : Int) a := by
  simp only [ramped, beq_iff_eq, Ne.symm other, if_false]
  split
  · rw [‹t = 0›, Int.sign_zero, Int.zero_mul]
  · rfl

theorem carries_iff (c : ConnState) : c.carries = true ↔ c = .connected ∨ c = .rideThrough := by
  cases c <;> decide

/-! ### The making (R87 to R91) -/

theorem making_of_held (type : FrameType) (pReq qReq : Int) (h : s.gate.state = .held) :
    s.making type pReq qReq = ⟨0, 0, s.frTerm,
      { held := true, autonomous := type == .autonomous, corrective := type == .corrective || type == .initialZero }⟩ := by
  simp only [State.making, h, beq_self_eq_true, if_true]
  rfl

/-- The active power that a type of frame is ramped to, on the envelope record as it stands (R87 to R89). -/
def State.rampedPower (s : State) (type : FrameType) (pReq : Int) : Int :=
  ramped s.gate.pPrev (clampInt (-(s.envelope.record.pChgLim : Int)) s.envelope.record.pDisLim (pReq + s.frTerm))
    (s.rampAllowance (s.rampRate type))

/-- The reactive power of a request (R90). -/
def State.heldReactive (s : State) (qReq : Int) : Int :=
  if s.conn.state = .connected ∨ s.conn.state = .rideThrough then clampInt (-(s.params.qMax : Int)) s.params.qMax qReq else 0

theorem making_of_not_held (type : FrameType) (pReq qReq : Int) (h : s.gate.state ≠ .held) :
    s.making type pReq qReq =
      let target := pReq + s.frTerm
      let clamped := clampInt (-(s.envelope.record.pChgLim : Int)) s.envelope.record.pDisLim target
      let p := s.rampedPower type pReq
      let q := s.heldReactive qReq
      ⟨p, q, s.frTerm,
        { failsafe := s.gate.state == .failsafe
          autonomous := type == .autonomous
          corrective := type == .corrective || type == .initialZero
          clampDis := decide ((s.envelope.record.pDisLim : Int) < target)
          clampChg := decide (target < -(s.envelope.record.pChgLim : Int))
          ramp := p != clamped && s.conn.state != .rideThrough
          rideFreeze := p != clamped && s.conn.state == .rideThrough
          frAdded := s.frTerm != 0
          qClamp := q != qReq }⟩ := by
  have free : (s.gate.state == .held) = false := beq_eq_false_iff_ne.mpr h
  simp only [State.making, free, Bool.false_eq_true, if_false, carries_iff]
  rfl

theorem heldReactive_bounds (s : State) (qReq : Int) :
    -(s.params.qMax : Int) ≤ s.heldReactive qReq ∧ s.heldReactive qReq ≤ s.params.qMax := by
  unfold State.heldReactive
  split
  · exact clampInt_bounds (by omega) qReq
  · omega

/-- The frequency-response term where a frequency is available (R87, R101). -/
theorem frTerm_eq (s : State) : s.frTerm =
    if s.frApplies = true ∧ s.nodeStateOf .meter 0 = .live ∧ s.grid.stale = false then
      (s.grid.f.map fun f => (s.curve 7 s.tables.t7 Curve.frequencyDefault).at (clampInt (-5000) 5000 (f - s.params.fNom))).getD 0
    else 0 := by
  simp only [State.frTerm, Bool.and_eq_true, beq_iff_eq, Bool.not_eq_true', and_assoc]
  split
  · cases s.grid.f <;> rfl
  · rfl

/-- Settles O28, from the clamp, the ramp and the making. -/
theorem dispatchFramesKeepToTheEnvelope : Obligations.DispatchFramesKeepToTheEnvelope := by
  refine ⟨?_, ?_, ?_, ?_⟩
  · intro s type pReq qReq m env target clamped prev rate elapsed allowance carries
    have target_bounds := clampInt_bounds (lo := -(env.pChgLim : Int)) (hi := env.pDisLim) (by omega) target
    have allowed : s.rampAllowance (s.rampRate type) = allowance := by
      have rate_eq : s.rampRate type = rate := by cases type <;> rfl
      rw [rate_eq]
      simp only [State.rampAllowance, beq_iff_eq, allowance]
      split <;> rfl
    have nonneg : 0 ≤ (allowance : Int) := Int.natCast_nonneg _
    have power : s.rampedPower type pReq = ramped prev clamped allowance := by rw [State.rampedPower, allowed]
    obtain ⟨above, below⟩ := ramped_between prev clamped nonneg
    by_cases held : s.gate.state = .held
    · have made : m = _ := making_of_held type pReq qReq held
      rw [made, held]
      refine ⟨?_, ?_, ?_, ?_, ?_, ?_, rfl, fun _ => ⟨rfl, rfl, rfl, rfl, rfl, rfl, rfl, rfl⟩, fun no => absurd rfl no, ?_⟩
      · exact Int.natCast_nonneg _
      · show -(env.pChgLim : Int) ≤ 0
        omega
      · show -(s.params.qMax : Int) ≤ 0
        omega
      · exact Int.natCast_nonneg _
      · exact Nat.zero_le _
      · exact Int.le_of_eq (Int.zero_mul _).symm
      · simp
    · have made : m = _ := making_of_not_held type pReq qReq held
      obtain ⟨qLow, qHigh⟩ := heldReactive_bounds s qReq
      rw [made, power]
      dsimp only
      refine ⟨?_, ?_, qLow, qHigh, ?_, ?_, rfl, fun no => absurd no held, fun _ => ⟨rfl, ramped_of_nearer _,
        ramped_of_further nonneg, ramped_of_crossing _, ?_⟩, ?_⟩
      · show ramped prev clamped allowance ≤ env.pDisLim
        omega
      · show -(env.pChgLim : Int) ≤ ramped prev clamped allowance
        omega
      · omega
      · rcases Int.le_total 0 clamped with h | h
        · exact Int.mul_nonneg (above h).1 h
        · exact Int.mul_nonneg_of_nonpos_of_nonpos (below h).2 h
      · simp [env, target, clamped]
      · simp [held]
  · intro s type a m f made urgent t
    have away : (s.placeNormal f).counters.dispatchFramesLost = s.counters.dispatchFramesLost :=
      placeNormal_dispatchFramesLost s f
    have goes : type.urgent = true ↔ urgent := by
      show _ ↔ type = .corrective ∨ type = .initialZero
      cases type <;> decide
    refine ⟨fun yes => if_pos (goes.mpr yes), fun no admits => ?_, fun no refused => ?_⟩
    · exact (if_neg fun yes => no (goes.mp yes)).trans (if_pos admits)
    · refine (if_neg fun yes => no (goes.mp yes)).trans ((if_neg (Bool.eq_false_iff.mp refused)).trans ?_)
      rw [← away]
      rfl
  · intro s type e
    refine ⟨fun none_ => ?_, fun a some_ => ?_⟩
    · have here : s.evaluate.pcsAddress = none := none_
      simp only [State.makeFrame, here]
      rfl
    · have here : s.evaluate.pcsAddress = some a := some_
      simp only [State.makeFrame, here]
      rfl
  · intro s applies available t7
    have curve : s.curve 7 s.tables.t7 Curve.frequencyDefault = t7 := rfl
    rw [frTerm_eq, curve]
    refine ⟨fun f yes meter freq => ?_, fun h => ?_⟩
    · rw [if_pos ⟨(frApplies_iff s).mpr yes, meter⟩, freq]
      rfl
    · rcases h with no | no | no
      · exact if_neg fun h => no ((frApplies_iff s).mp h.1)
      · exact if_neg fun h => no h.2
      · rw [no]
        exact ite_self _

end Sys2Proof.Machine
end

section
/-! PROOFS of O29 to O32: the receive slot (R152, R153), the Field queues (R160), the Notice Queue (R163, R172) and the
transmitters (R161, R162). -/

namespace Sys2Proof.Machine

variable {s t : State}

/-- A command of a running part is its effect. -/
theorem whileRunning_to {f : State → State} (runs : s.runs) (h : f s = t) : s.whileRunning f = .next t :=
  (State.whileRunning_of_runs runs f).trans (congrArg _ h)

/-! ### The receive slot (R152, R153) -/

theorem syncArrives_of_hunting {p : Port} (h : s.slot p = none) : s.syncArrives p = s.setSlot p (some []) := by
  simp only [State.syncArrives, h]

theorem syncArrives_of_taking {p : Port} {l : List Byte} (h : s.slot p = some l) : s.syncArrives p = s := by
  simp only [State.syncArrives, h]

theorem headerArrives_of_hunting {p : Port} (x : FrameHeader) (h : s.slot p = none) : s.headerArrives p x = s := by
  simp only [State.headerArrives, h]

theorem headerArrives_of_taking {p : Port} {l : List Byte} (x : FrameHeader) (h : s.slot p = some l) :
    s.headerArrives p x = if x.len.toNat ≤ 64 then s.setSlot p (some [x.dest, x.src, x.kind, x.len])
      else (s.setSlot p none).countPort p fun c => { c with lengthErrors := inc16 c.lengthErrors } := by
  simp only [State.headerArrives, h, ← Nat.not_lt, ite_not]

theorem bytesThenGap_of_hunting {p : Port} (x : FramePart) (h : s.slot p = none) : s.bytesThenGap p x = s := by
  simp only [State.bytesThenGap, h]

theorem bytesThenGap_of_taking {p : Port} {l : List Byte} (x : FramePart) (h : s.slot p = some l) :
    s.bytesThenGap p x = if x.gap ≤ 5 then s.setSlot p (some (l ++ x.bytes))
      else (s.setSlot p none).countPort p fun c => { c with truncatedFrames := inc16 c.truncatedFrames } := by
  simp only [State.bytesThenGap, h, ← Nat.not_lt, ite_not]

/-- The last byte of a frame counts each fault it finds, and a frame without one is received whole (R153). -/
theorem frameEnds_eq (s : State) (p : Port) (dest src kind : Byte) (payload : List Byte) (crc : BitVec 16) :
    s.frameEnds p dest src kind payload crc =
      if frameCrc dest src kind payload = crc ∧ dest.toNat ≤ 127 ∧ src.toNat ≤ 127 then
        s.portReceive p ⟨dest.toNat, src.toNat, kind.toNat, payload⟩
      else (s.setSlot p none).countPort p fun c =>
        { c with
          addressErrors := if dest.toNat ≤ 127 ∧ src.toNat ≤ 127 then c.addressErrors else inc16 c.addressErrors
          crcErrors := if frameCrc dest src kind payload = crc then c.crcErrors else inc16 c.crcErrors } := by
  have address : (decide (127 < dest.toNat) || decide (127 < src.toNat)) = true ↔ ¬(dest.toNat ≤ 127 ∧ src.toNat ≤ 127) := by
    simp only [Bool.or_eq_true, decide_eq_true_iff]
    omega
  simp only [State.frameEnds, Bool.or_eq_true (_ || _), address, bne_iff_ne, ne_eq, ite_not]
  by_cases good : frameCrc dest src kind payload = crc <;> by_cases named : dest.toNat ≤ 127 ∧ src.toNat ≤ 127 <;>
    simp [good, named]

/-- A port's error counters, in a state whose slot alone has changed. -/
theorem countPort_setSlot (s : State) (p : Port) (f : PortCounters → PortCounters) :
    (s.setSlot p none).countPort p f = (s.setSlot p none).setCounters (match p with
      | .field => { s.counters with fieldPort := f s.counters.fieldPort }
      | .station => { s.counters with stationPort := f s.counters.stationPort }) := by
  cases p <;> rfl

/-- Settles O29, from what each event does to the slot. -/
theorem receiveSlotFollowsItsEvents : Obligations.ReceiveSlotFollowsItsEvents := by
  intro s port dest src kind len bytes payload gap crc runs good named counted free
  refine ⟨fun h => ⟨?_, ?_, ?_⟩, fun taken h => ⟨?_, ?_, ?_⟩, fun bad => ?_, fun sound => ?_⟩
  · exact whileRunning_to (f := fun s => s.syncArrives port) runs (syncArrives_of_hunting h)
  · exact whileRunning_to (f := fun s => s.headerArrives port _) runs (headerArrives_of_hunting _ h)
  · exact whileRunning_to (f := fun s => s.bytesThenGap port _) runs (bytesThenGap_of_hunting _ h)
  · exact whileRunning_to (f := fun s => s.syncArrives port) runs (syncArrives_of_taking h)
  · exact whileRunning_to (f := fun s => s.headerArrives port _) runs
      ((headerArrives_of_taking _ h).trans (ite_of_iff Iff.rfl rfl (countPort_setSlot s port _)))
  · exact whileRunning_to (f := fun s => s.bytesThenGap port _) runs
      ((bytesThenGap_of_taking _ h).trans (ite_of_iff Iff.rfl rfl (countPort_setSlot s port _)))
  · exact whileRunning_to (f := fun s => s.frameEnds port dest src kind payload crc) runs
      ((frameEnds_eq ..).trans ((if_neg bad).trans (countPort_setSlot s port _)))
  · have ends : s.frameEnds port dest src kind payload crc = s.portReceive port ⟨dest.toNat, src.toNat, kind.toNat, payload⟩ :=
      (frameEnds_eq ..).trans (if_pos sound)
    refine (whileRunning_to (f := fun s => s.frameEnds port dest src kind payload crc) runs ends).trans ?_
    cases port with
    | field => exact (State.whileRunning_of_runs runs fun s => s.fieldReceive _).symm
    | station => exact (State.whileRunning_of_runs runs fun s => s.stationReceive _).symm

/-! ### The Field queues (R160) -/

theorem countSuperseded_counters (s : State) (kind n : Nat) :
    (s.countSuperseded kind n).counters = { s.counters with
      fieldSuperseded := capNat 65535 (s.counters.fieldSuperseded + n)
      dispatchSuperseded := if kind = kindDispatch then capNat 65535 (s.counters.dispatchSuperseded + n)
        else s.counters.dispatchSuperseded } := by
  simp only [State.countSuperseded, State.count, State.setCounters_counters, beq_iff_eq]
  rfl

/-- A placed frame that replaces one of its kind and destination is among the waiting ones (R160). -/
theorem mem_replaceIn {p : Placed} {q : List Placed} (h : q.any p.matches = true) : p ∈ replaceIn p q := by
  obtain ⟨w, hw, same⟩ := List.any_eq_true.mp h
  exact List.mem_map.mpr ⟨w, hw, if_pos same⟩

theorem placeNormal_of_replaces {p : Placed} (h : supersedable p.frame.kind = true ∧ s.fieldPort.normal.any p.matches = true) :
    s.placeNormal p =
      (s.setFieldPort { s.fieldPort with normal := replaceIn p s.fieldPort.normal }).countSuperseded p.frame.kind 1 :=
  if_pos (Bool.and_eq_true_iff.mpr h)

theorem placeNormal_of_joins {p : Placed}
    (h : ¬(supersedable p.frame.kind = true ∧ s.fieldPort.normal.any p.matches = true)) (free : s.fieldPort.normalUsed < 32) :
    s.placeNormal p = s.setFieldPort { s.fieldPort with normal := s.fieldPort.normal ++ [p] } :=
  (if_neg fun yes => h (Bool.and_eq_true_iff.mp yes)).trans (if_pos free)

theorem placeNormal_of_refused {p : Placed}
    (h : ¬(supersedable p.frame.kind = true ∧ s.fieldPort.normal.any p.matches = true)) (full : 32 ≤ s.fieldPort.normalUsed) :
    s.placeNormal p = s.setCounters { s.counters with fieldNormalRefused := inc16 s.counters.fieldNormalRefused } :=
  (if_neg fun yes => h (Bool.and_eq_true_iff.mp yes)).trans (if_neg (Nat.not_lt.mpr full))

theorem admits_iff (port : FieldPort) (p : Placed) : port.admits p = true ↔
    (supersedable p.frame.kind = true ∧ port.normal.any p.matches = true) ∨ port.normalUsed < 32 := by
  rw [FieldPort.admits, Bool.or_eq_true, Bool.and_eq_true, decide_eq_true_iff]

/-- Settles O30, from the three ways of a frame placed in NORMAL and the one of a frame placed in URGENT. -/
theorem placedFramesJoinReplaceOrAreRefused : Obligations.PlacedFramesJoinReplaceOrAreRefused := by
  intro s p
  refine ⟨?_, ?_⟩
  · intro same removed n t
    refine ⟨rfl, rfl, rfl, countSuperseded_counters _ _ _, ?_, fun w hw => ?_, placeUrgent_frame s p⟩
    · change p ∈ if same then replaceIn p s.fieldPort.urgent else s.fieldPort.urgent ++ [p]
      split
      · exact mem_replaceIn ‹_›
      · exact List.mem_append_right _ (List.mem_singleton.mpr rfl)
    · obtain ⟨_, other⟩ := List.mem_filter.mp hw
      exact (Bool.not_eq_true' _).mp other
  · intro replaces t
    have kept : t.fieldPort.urgent = s.fieldPort.urgent ∧ t.fieldPort.sending = s.fieldPort.sending := by
      by_cases yes : replaces
      · rw [show t = _ from placeNormal_of_replaces yes]
        exact ⟨rfl, rfl⟩
      · rcases Nat.lt_or_ge s.fieldPort.normalUsed 32 with free | full
        · rw [show t = _ from placeNormal_of_joins yes free]
          exact ⟨rfl, rfl⟩
        · rw [show t = _ from placeNormal_of_refused yes full]
          exact ⟨rfl, rfl⟩
    refine ⟨kept.1, kept.2, fun yes => ?_, placeNormal_of_joins, placeNormal_of_refused, admits_iff _ p,
      placeNormal_frame s p⟩
    rw [show t = _ from placeNormal_of_replaces yes]
    exact ⟨rfl, countSuperseded_counters _ _ _⟩

/-! ### The Notice Queue (R172) -/

theorem lowestRank_le_rank {q : List Notice} {n : Notice} (h : n ∈ q) : lowestRank q ≤ n.rank := by
  have below : ∀ (q : List Notice) (r : Nat), n ∈ q → q.foldl (fun r n => min r n.rank) r ≤ n.rank := by
    intro q
    induction q with
    | nil => exact fun _ h => nomatch h
    | cons w q ih =>
      intro r h
      rcases List.mem_cons.mp h with rfl | h
      · exact Nat.le_trans (lowestRank_le (q := q)) (Nat.min_le_right ..)
      · exact ih _ h
  exact below q 4 h

/-- The least rank present is that of a notice that none stands below (R172). -/
theorem lowestRank_eq {q : List Notice} {w : Notice} (hw : w ∈ q) (least : ∀ v ∈ q, w.rank ≤ v.rank) :
    lowestRank q = w.rank := by
  obtain ⟨v, hv, rank⟩ := exists_lowest (List.ne_nil_of_mem hw)
  exact Nat.le_antisymm (lowestRank_le_rank hw) (Nat.le_trans (least v hv) (Nat.le_of_eq (beq_iff_eq.mp rank)))

/-- The greatest rank present is that of a notice that none stands above (R172). -/
theorem highestRank_eq {q : List Notice} {w : Notice} (hw : w ∈ q) (greatest : ∀ v ∈ q, v.rank ≤ w.rank) :
    highestRank q = w.rank := by
  have above : ∀ (q : List Notice) (r : Nat), r ≤ q.foldl (fun r n => max r n.rank) r := by
    intro q
    induction q with
    | nil => exact fun r => Nat.le_refl r
    | cons v q ih => exact fun r => Nat.le_trans (Nat.le_max_left ..) (ih _)
  have bounded : ∀ (q : List Notice) (r : Nat), r ≤ w.rank → (∀ v ∈ q, v.rank ≤ w.rank) →
      q.foldl (fun r n => max r n.rank) r ≤ w.rank := by
    intro q
    induction q with
    | nil => exact fun r h _ => h
    | cons v q ih =>
      exact fun r h hq => ih _ (Nat.max_le.mpr ⟨h, hq v (List.mem_cons_self ..)⟩) fun u hu => hq u (List.mem_cons_of_mem _ hu)
  have reached : ∀ (q : List Notice) (r : Nat), w ∈ q → w.rank ≤ q.foldl (fun r n => max r n.rank) r := by
    intro q
    induction q with
    | nil => exact fun _ h => nomatch h
    | cons v q ih =>
      intro r h
      rcases List.mem_cons.mp h with rfl | h
      · exact Nat.le_trans (Nat.le_max_right ..) (above q _)
      · exact ih _ h
  exact Nat.le_antisymm (bounded q 0 (Nat.zero_le _) greatest) (reached q 0 hw)

/-- The first entry that meets a condition leaves the list. -/
theorem eraseP_of_first {α : Type} {p : α → Bool} {before after : List α} {a : α} (ha : p a = true)
    (h : ∀ b ∈ before, p b = false) : (before ++ a :: after).eraseP p = before ++ after := by
  rw [List.eraseP_append_right _ (by simpa using h), List.eraseP_cons_of_pos ha]

theorem isOf_iff (k : NoticeKind) (x : Option Nat) (w : Notice) : w.isOf k x = true ↔ w.kind = k ∧ w.subject = x := by
  simp [Notice.isOf]

theorem raise_notices (s : State) (k : NoticeKind) (x : Option Nat) :
    (s.raise k x).notices = enterNotice s.notices ⟨k, x, 1, s.time⟩ := by
  simp [State.raise_eq]

/-- A notice that loses none changes the queue alone (R172). -/
theorem raise_of_kept {k : NoticeKind} {x : Option Nat} (h : losesNotice s.notices ⟨k, x, 1, s.time⟩ = false) :
    s.raise k x = s.setNotices (enterNotice s.notices ⟨k, x, 1, s.time⟩) := by
  simp [State.raise, h]

/-- Settles O31, from the greatest and the least rank present. -/
theorem noticesEnterAndLeaveTheQueue : Obligations.NoticesEnterAndLeaveTheQueue := by
  refine ⟨?_, ?_⟩
  · intro s k x n same t
    have waits : (s.notices.any (Notice.isOf k x) = true) ↔ ∃ w ∈ s.notices, same w := by
      simp only [List.any_eq_true, isOf_iff, same]
    refine ⟨fun there => ?_, fun none_ few => ?_, fun none_ full => ⟨fun before after w split least others => ?_, ?_⟩,
      raise_frame s k x⟩
    · have here := waits.mpr there
      have kept : losesNotice s.notices n = false := by simp [losesNotice, n, here]
      refine (raise_of_kept kept).trans (congrArg _ ?_)
      simp only [enterNotice, n, here, if_true, isOf_iff, same]
    all_goals
      have absent : s.notices.any (Notice.isOf k x) = false :=
        Bool.eq_false_iff.mpr fun yes => (waits.mp yes).elim fun w hw => none_ w hw.1 hw.2
    · have kept : losesNotice s.notices n = false := by simp [losesNotice, n, absent, few]
      refine (raise_of_kept kept).trans (congrArg _ ?_)
      simp [enterNotice, n, absent, few]
    · have rank : lowestRank s.notices = w.rank := by
        refine lowestRank_eq (split ▸ List.mem_append_right _ (List.mem_cons_self ..)) fun v hv => ?_
        rw [split] at hv
        rcases List.mem_append.mp hv with h | h
        · exact Nat.le_of_lt (least v h)
        · rcases List.mem_cons.mp h with rfl | h
          · exact Nat.le_refl _
          · exact others v h
      have erased : s.notices.eraseP (fun v => v.rank == w.rank) = before ++ after := by
        rw [split]
        exact eraseP_of_first (beq_self_eq_true _) fun v hv => beq_eq_false_iff_ne.mpr (Nat.ne_of_gt (least v hv))
      rw [show t.notices = _ from raise_notices s k x]
      simp only [enterNotice, absent, Bool.false_eq_true, if_false, Nat.not_lt.mpr full, rank, erased]
      rfl
    · have lost : losesNotice s.notices n = true := by simp [losesNotice, n, absent, full]
      exact (raise_counters s k x).trans (if_pos lost)
  · intro s before after n runs split least others places
    have rank : highestRank s.notices = n.rank := by
      refine highestRank_eq (split ▸ List.mem_append_right _ (List.mem_cons_self ..)) fun v hv => ?_
      rw [split] at hv
      rcases List.mem_append.mp hv with h | h
      · exact Nat.le_of_lt (least v h)
      · rcases List.mem_cons.mp h with rfl | h
        · exact Nat.le_refl _
        · exact others v h
    have before_ : ∀ v ∈ before, (v.rank == n.rank) = false := fun v hv => beq_eq_false_iff_ne.mpr (Nat.ne_of_lt (least v hv))
    have first : offered s.notices = some n := by
      rw [offered, rank, split, List.find?_append, List.find?_eq_none.mpr (by simpa using before_)]
      simp
    have rest : withoutOffered s.notices = before ++ after := by
      rw [withoutOffered, rank, split]
      exact eraseP_of_first (beq_self_eq_true _) before_
    refine whileRunning_to runs ?_
    simp only [State.moveNotice, first, if_pos places, rest]
    rfl

/-! ### The transmitters (R161, R162) -/

/-- A frame that the open round did not place is no business of the Round Controller (R8). -/
theorem roundFrameSent_of_other {p : Placed} (h : ∀ o, s.rounds.openRound = some o → p.round ≠ some o.serial) :
    s.roundFrameSent p = s := by
  unfold State.roundFrameSent
  split
  · rw [if_neg fun same => h _ ‹_› (beq_iff_eq.mp same)]
  · rfl

/-- The open round's own frame starts the timer of its phase (R6 to R8). -/
theorem roundFrameSent_of_own {p : Placed} {o : OpenRound} {ms : Nat} (h : s.rounds.openRound = some o)
    (own : p.round = some o.serial) (settle : s.settleTime p.frame.kind = some ms) :
    s.roundFrameSent p =
      s.setRounds { s.rounds with openRound := some { o with phaseTimer := some (s.after ms) } } := by
  simp only [State.roundFrameSent, h, settle, own, beq_self_eq_true, if_true]

theorem fieldSent_of_sending {p : Placed} {q : FieldQueue} (h : s.fieldPort.sending = some (p, q)) :
    s.fieldSent = (s.setFieldPort { s.fieldPort with sending := none }).roundFrameSent p := by
  simp only [State.fieldSent, h]

theorem isRestart_response (r : Response) :
    (StationFrame.response r).isRestart = true ↔ r.code = 12 ∧ r.status = .ok := by
  simp [StationFrame.isRestart]

theorem stationSent_of_sending {f : StationFrame} (h : s.stationPort.sending = some f)
    (other : (f.isRestart && s.engine.restartPending) = false) :
    s.stationSent = s.setStationPort { s.stationPort with sending := none } := by
  have restart : (f.isRestart && (s.setStationPort { s.stationPort with sending := none }).engine.restartPending) = false :=
    other
  simp only [State.stationSent, h, restart, Bool.false_eq_true, if_false]

/-- Settles O32, from the start and the end of a transmission on each port. -/
theorem transmittersSendInOrderAndFreePlaces : Obligations.TransmittersSendInOrderAndFreePlaces := by
  intro s runs
  refine ⟨fun p rest idle urgent => ?_, fun p rest idle none_ normal => ?_, fun p busy => ?_, fun f rest idle queue => ?_,
    fun f busy => ?_, fun p q sending other => ?_, fun p q o ms sending openRound own phase => ?_, fun f sending other => ?_⟩
  · refine whileRunning_to (f := fun s => s.setFieldPort s.fieldPort.start) runs ?_
    simp only [FieldPort.start, idle, urgent]
  · refine whileRunning_to (f := fun s => s.setFieldPort s.fieldPort.start) runs ?_
    simp only [FieldPort.start, idle, none_, normal]
  · refine whileRunning_to (f := fun s => s.setFieldPort s.fieldPort.start) runs ?_
    simp only [FieldPort.start, busy]
    rfl
  · refine whileRunning_to (f := fun s => s.setStationPort s.stationPort.start) runs ?_
    simp only [StationPort.start, idle, queue]
  · refine whileRunning_to (f := fun s => s.setStationPort s.stationPort.start) runs ?_
    simp only [StationPort.start, busy]
    rfl
  · refine whileRunning_to runs ?_
    rw [fieldSent_of_sending sending]
    exact roundFrameSent_of_other other
  · have settle : s.settleTime p.frame.kind = some ms := by
      rcases phase with ⟨phase, kind, rfl⟩ | ⟨phase, kind, rfl⟩ | ⟨phase, kind, rfl⟩ <;>
        simp [State.settleTime, phase, kind]
    refine whileRunning_to runs ?_
    rw [fieldSent_of_sending sending]
    exact roundFrameSent_of_own openRound own settle
  · refine whileRunning_to runs (stationSent_of_sending sending ?_)
    rcases other with no | other
    · rw [no, Bool.and_false]
    · have plain : f.isRestart = false := by
        cases f with
        | response r => exact Bool.eq_false_iff.mpr fun yes => other r rfl ((isRestart_response r).mp yes)
        | forwarded | result | notice => rfl
      rw [plain, Bool.false_and]

end Sys2Proof.Machine
end

section
/-! PROOFS of O33, O34 and O39 to O41: a request row is served with one response (R163, R165), the MAINT check (R165),
the store (R170), the clears and the restart (R171). -/

namespace Sys2Proof.Machine

variable {s t : State}

/-! ### Answers (R163) -/

/-- The state on which a request's body runs: a place of the Station queue is reserved for the response (R163). -/
def State.reserving (s : State) : State :=
  s.setStationPort { s.stationPort with reserved := s.stationPort.reserved + 1 }

theorem answer_eq (s : State) (code : Nat) (body : State → Answer) :
    s.answer code body =
      let (t, status, d) := body s.reserving
      t.setStationPort { t.stationPort with
        reserved := t.stationPort.reserved - 1, queue := t.stationPort.queue ++ [.response ⟨code, status, d⟩] } := rfl

/-- A body that leaves the Station queue alone is answered by its response in that queue. -/
theorem answer_of {code : Nat} {body : State → Answer} {status : Status} {d : ResultData}
    (hb : body s.reserving = (t.setStationPort s.reserving.stationPort, status, d)) (ht : t.stationPort = s.stationPort) :
    s.answer code body = t.withResponse code status d := by
  rw [answer_eq, hb, State.withResponse, State.stationJoin, ht]
  rfl

/-- A body that changes nothing. -/
theorem answer_of_same {code : Nat} {body : State → Answer} {status : Status} {d : ResultData}
    (hb : body s.reserving = (s.reserving, status, d)) : s.answer code body = s.withResponse code status d :=
  answer_of (t := s) hb rfl

theorem answer_congr {code : Nat} {body body' : State → Answer} (h : body s.reserving = body' s.reserving) :
    s.answer code body = s.answer code body' := by
  rw [answer_eq, h]
  rfl

/-! ### The rows (R159, R165) -/

theorem requestArrives_frame (s : State) : s.changesOnly s.requestArrives [.stationPort, .gate, .notices, .counters] :=
  State.changesOnly_trans (State.changesOnly_mono (setSlot_station_frame s none) (by decide))
    (State.changesOnly_mono (stationHeard_frame _) (by decide))

theorem requestArrives_stationPort (s : State) : s.requestArrives.stationPort = { s.stationPort with slot := none } :=
  stationHeard_frame (s.setSlot .station none) .stationPort (by decide)

theorem requestOf_of_row {c : Instr} {code : Nat} {args : List Byte} (h : requestRow c = some (code, args)) :
    ∃ body, requestOf code args = some body := by
  cases c <;> first | cases Option.some.inj h; exact ⟨_, rfl⟩ | exact nomatch h

theorem exec_row {c : Instr} {code : Nat} {args : List Byte} {body : State → Answer} (runs : s.runs)
    (row : requestRow c = some (code, args)) (known : requestOf code args = some body) :
    exec c s = .next (s.requestArrives.serve code body) := by
  rw [exec_of_requestRow row, known]
  exact State.whileRunning_of_runs runs _

theorem serve_of_taken {code : Nat} (body : State → Answer) (h1 : s.engine.restartPending = false)
    (h2 : s.stationPort.used < 32) : s.serve code body = s.answer code body :=
  if_neg (by simp [h1, h2])

theorem serve_of_discarded {code : Nat} (body : State → Answer)
    (h : s.engine.restartPending = true ∨ 32 ≤ s.stationPort.used) :
    s.serve code body = s.setCounters { s.counters with requestsDiscarded := inc16 s.counters.requestsDiscarded } :=
  if_pos (by simpa using h)

theorem takesRequests_serve {code : Nat} (body : State → Answer) (h : s.takesRequests) :
    s.requestArrives.serve code body = s.requestArrives.answer code body := by
  obtain ⟨_, free, place⟩ := h
  have engine : s.requestArrives.engine = s.engine := requestArrives_frame s .engine (by decide)
  refine serve_of_taken body (engine ▸ free) ?_
  rw [requestArrives_stationPort]
  exact place

/-- A request that the part executes is answered. -/
theorem exec_answer {c : Instr} {code : Nat} {args : List Byte} {body : State → Answer} (takes : s.takesRequests)
    (row : requestRow c = some (code, args)) (known : requestOf code args = some body) :
    exec c s = .next (s.requestArrives.answer code body) :=
  (exec_row takes.1 row known).trans (congrArg _ (takesRequests_serve body takes))

/-- Settles O33, from what the body of a known request leaves alone. -/
theorem requestRowsAreServedWithOneResponse : Obligations.RequestRowsAreServedWithOneResponse := by
  refine ⟨fun c s code args row runs => ?_, fun s code args body known => ⟨fun h1 h2 => ?_, serve_of_discarded body⟩⟩
  · obtain ⟨body, known⟩ := requestOf_of_row row
    exact ⟨body, known, exec_row runs row known⟩
  · have frame : s.reserving.changesOnly (body s.reserving).1 requestParts :=
      frame_of fun h => h.requestOf (List.Subset.refl _) known
    have port : (body s.reserving).1.stationPort = s.reserving.stationPort := frame .stationPort (by decide)
    refine ⟨⟨code, (body s.reserving).2.1, (body s.reserving).2.2⟩, rfl, ?_, ?_⟩
    · rw [serve_of_taken body h1 h2, answer_eq]
      dsimp only [State.setStationPort_stationPort]
      rw [port]
      rfl
    · rw [serve_of_taken body h1 h2, answer_eq]
      intro p hp
      have kept := frame p fun h => by revert hp h; cases p <;> decide
      cases p <;> first | exact kept | exact absurd hp (by decide)

/-! ### The MAINT check (R165) -/

theorem checked_of_noMaint (fits : Bool) (body : State → Answer) (h : s.lines.maint.active = false) :
    s.checked true fits body = s.refuse .refusedMaint := by
  simp [State.checked, h]

theorem checked_of_fits {needsMaint fits : Bool} (body : State → Answer)
    (maint : needsMaint = true → s.lines.maint.active = true) (h : fits = true) : s.checked needsMaint fits body = body s := by
  have passes : (needsMaint && !s.lines.maint.active) = false := by
    cases hn : needsMaint with
    | false => rfl
    | true => rw [maint hn]; rfl
  rw [State.checked, passes, h]
  rfl

theorem isTable_of_protected {n : Nat} (h : isProtectedTable n = true) : isTable n = true := by
  simp only [isProtectedTable, isTable, Bool.and_eq_true] at *
  exact h.1

theorem loadTable_of_noMaint {b : Byte} (bytes : List Byte) (h : s.lines.maint.active = false)
    (protected_ : isProtectedTable b.toNat = true) : s.loadTable (b :: bytes) = s.refuse .refusedMaint := by
  simp only [State.loadTable, isTable_of_protected protected_, protected_, if_true]
  exact checked_of_noMaint _ _ h

theorem loadEntry_of_noMaint {b : Byte} (bytes : List Byte) (h : s.lines.maint.active = false)
    (protected_ : isProtectedTable b.toNat = true) : s.loadEntry (b :: bytes) = s.refuse .refusedMaint := by
  cases bytes <;>
    (simp only [State.loadEntry, isTable_of_protected protected_, protected_, if_true]
     exact checked_of_noMaint _ _ h)

/-- Settles O34: the MAINT check comes before any other of a protected request. -/
theorem protectedRequestsNeedMaint : Obligations.ProtectedRequestsNeedMaint := by
  intro c s code args row takes inactive named
  obtain ⟨body, known⟩ := requestOf_of_row row
  rw [exec_answer takes row known]
  have maint : s.requestArrives.reserving.lines.maint.active = false := by
    rw [show s.requestArrives.reserving.lines = s.lines from requestArrives_frame s .lines (by decide)]
    exact inactive
  refine congrArg _ (answer_of_same ?_)
  rcases named with rfl | rfl | rfl | rfl | ⟨rfl | rfl, b, rest, rfl, protected_⟩ <;> cases known
  · rw [State.restartRequest, State.plain, checked_of_noMaint _ _ maint]
    rfl
  · rw [State.resetStringRequest, State.byString, State.byByte, checked_of_noMaint _ _ maint]
    rfl
  · rw [State.resetLockoutRequest, State.plain, checked_of_noMaint _ _ maint]
    rfl
  · rw [State.resetFireRequest, State.byByte, checked_of_noMaint _ _ maint]
    rfl
  · exact loadTable_of_noMaint _ maint protected_
  · exact loadEntry_of_noMaint _ maint protected_

/-! ### The store (R170) -/

theorem onExpiry_of_due {timer : Option PartTime} (f : State → State) (h : s.due timer = true) : s.onExpiry timer f = f s :=
  if_pos h

theorem recordWritten_of_store {w : StoreWrite} (correct : Bool) (h : s.engine.store = some w) :
    s.recordWritten correct =
      let failed := w.failed.or (if correct then none else some w.record)
      let m := s.setImage (s.image.written w correct)
      if w.record < 18 then
        m.setEngine { s.engine with store := some { w with record := w.record + 1, due := s.after recordTime, failed } }
      else
        match failed with
        | none => (m.setEngine { s.engine with store := none }).raise .storeDone none
        | some n => (m.setEngine { s.engine with store := none, dirty := true }).raise .storeFailed (some n) := by
  simp only [State.recordWritten, h]
  rfl

theorem failed_eq (w : StoreWrite) (correct : Bool) :
    w.failed.or (if correct then none else some w.record) =
      if w.failed = none ∧ correct = false then some w.record else w.failed := by
  cases w.failed <;> cases correct <;> rfl

/-- Settles O39, from the answers of STORE IMAGE and the writing of one record. -/
theorem storeWritesTheSnapshot : Obligations.StoreWritesTheSnapshot := by
  intro s
  have same := requestArrives_frame s
  have engine : s.requestArrives.reserving.engine = s.engine := same .engine (by decide)
  refine ⟨fun takes idle => ?_, fun w takes busy => ?_, ?_⟩
  · rw [exec_answer takes rfl rfl]
    refine congrArg _ (answer_of ?_ rfl)
    have config : s.requestArrives.config = s.config := same .config (by decide)
    have strings : s.requestArrives.strings = s.strings := same .strings (by decide)
    have time : s.requestArrives.time = s.time := same .time (by decide)
    have free : s.requestArrives.reserving.engine.store.isSome = false := by rw [engine, idle]; rfl
    simp only [State.storeImage, State.plain, State.checked, List.isEmpty_nil, free, Bool.false_and, Bool.not_true,
      Bool.false_eq_true, if_false, State.ok]
    rw [engine]
    simp only [State.reserving, State.tables, State.params, State.after, State.setStationPort_config,
      State.setStationPort_strings, State.setStationPort_time, config, strings, time, recordTime]
    rfl
  · rw [exec_answer takes rfl rfl]
    refine congrArg _ (answer_of_same ?_)
    have taken : s.requestArrives.reserving.engine.store.isSome = true := by rw [engine, busy]; rfl
    simp only [State.storeImage, State.plain, State.checked, List.isEmpty_nil, taken, Bool.false_and, Bool.not_true,
      Bool.false_eq_true, if_false, if_true]
    rfl
  · intro w correct runs store due failed m
    have due_ : s.due (s.engine.store.map (·.due)) = true := by
      rw [store]
      exact due
    have written : exec (.storeRecordWritten correct) s = .next (s.recordWritten correct) :=
      whileRunning_to (f := fun s => s.onExpiry (s.engine.store.map StoreWrite.due) fun s => s.recordWritten correct) runs
        (onExpiry_of_due _ due_)
    have last : 18 ≤ w.record → s.recordWritten correct = match failed with
        | none => (m.setEngine { s.engine with store := none }).raise .storeDone none
        | some n => (m.setEngine { s.engine with store := none, dirty := true }).raise .storeFailed (some n) := fun h => by
      rw [recordWritten_of_store correct store]
      dsimp only
      rw [if_neg (Nat.not_lt.mpr h), failed_eq]
    rw [written]
    refine ⟨fun more => ?_, fun h none_ => ?_, fun h n some_ => ?_⟩
    · rw [recordWritten_of_store correct store]
      dsimp only
      rw [if_pos more, failed_eq]
      rfl
    · rw [last h, none_]
    · rw [last h, some_]

/-! ### The clears and the restart (R171) -/

theorem answer_clearCounters (s : State) :
    s.answer 11 (State.clearCountersRequest []) = s.zeroCounters.withResponse 11 .ok .none :=
  answer_of rfl rfl

theorem clearCounters_frame (s : State) :
    s.changesOnly (s.zeroCounters.withResponse 11 .ok .none) [.counters, .strings, .fire, .stationPort] := by
  intro p hp
  cases p <;> first | exact absurd (by decide) hp | rfl

/-- Settles O40, from the bodies of CLEAR FLAGS and CLEAR COUNTERS. -/
theorem clearRequestsClearWhatTheyName : Obligations.ClearRequestsClearWhatTheyName := by
  intro s hi lo takes a kept
  have same := requestArrives_frame s
  have flags : a.flags = s.flags := same .flags (by decide)
  have strings : a.strings = s.strings := same .strings (by decide)
  have fire : a.fire = s.fire := same .fire (by decide)
  refine ⟨?_, ?_⟩
  · rw [exec_answer takes rfl rfl]
    refine congrArg _ (answer_of (t := a.setFlags ⟨kept, alertOf kept⟩) ?_ rfl)
    have cleared : a.reserving.flags.latched &&& ~~~(BitVec.ofNat 16 (hi.toNat * 256 + lo.toNat)) = kept :=
      congrArg (fun f : FlagRec => f.latched &&& ~~~(BitVec.ofNat 16 (hi.toNat * 256 + lo.toNat))) flags
    rw [← cleared]
    rfl
  · refine ⟨_, (exec_answer takes rfl rfl).trans (congrArg _ (answer_clearCounters a)), rfl, ?_, ?_, rfl, ?_⟩
    · rw [← strings]
      rfl
    · rw [← fire]
      rfl
    · exact clearCounters_frame a

/-- RELEASE_OUT is kept by a reset other than a brown-out, as is the rest of the Fire Supervisor (R151). -/
theorem beginReset_fire_of_kept (s : State) (resetn : Bool) : (s.beginReset false resetn).fire = s.fire := by
  have cut : s.cutStore.fire = s.fire := cutStore_frame s .fire (by decide)
  show { s.cutStore.fire with releaseOut := s.cutStore.fire.releaseOut && !false } = s.fire
  rw [cut, Bool.not_false, Bool.and_true]

/-- Settles O41, from the body of RESTART and the beginning of a reset. -/
theorem restartEndsInAReset : Obligations.RestartEndsInAReset := by
  intro s
  refine ⟨fun takes maint => ?_, fun r runs pending sending code ok => ?_⟩
  · rw [exec_answer takes rfl rfl]
    have lines : s.requestArrives.reserving.lines = s.lines := requestArrives_frame s .lines (by decide)
    have engine : s.requestArrives.reserving.engine = s.engine := requestArrives_frame s .engine (by decide)
    refine congrArg _ (answer_of (t := s.requestArrives.setEngine { s.engine with restartPending := true }) ?_ rfl)
    have active : s.requestArrives.reserving.lines.maint.active = true := (congrArg (fun l : Lines => l.maint.active) lines).trans maint
    rw [State.restartRequest, State.plain, checked_of_fits (fits := List.isEmpty []) _ (fun _ => active) rfl, engine]
    rfl
  · have restart : (StationFrame.response r).isRestart = true := (isRestart_response r).mpr ⟨code, ok⟩
    have sent : s.stationSent = (s.setStationPort { s.stationPort with sending := none }).beginReset false false := by
      have both : ((StationFrame.response r).isRestart &&
          (s.setStationPort { s.stationPort with sending := none }).engine.restartPending) = true := by
        rw [restart]
        exact pending
      simp only [State.stationSent, sending, both, if_true]
    have gone : s.restartSent = s.stationSent := if_pos (by rw [sending, pending]; simp [restart])
    refine ⟨s.stationSent, whileRunning_to (f := State.restartSent) runs gone,
      whileRunning_to (f := State.stationSent) runs rfl, ?_⟩
    rw [sent]
    have frame := beginReset_frame (s.setStationPort { s.stationPort with sending := none }) false false
    refine ⟨?_, ?_, rfl, rfl, rfl, ?_⟩
    · have free : s.sys.hold.getD ⟨false, false⟩ = ⟨false, false⟩ := by rw [runs]; rfl
      show some (⟨(s.sys.hold.getD ⟨false, false⟩).brownOut || false, (s.sys.hold.getD ⟨false, false⟩).resetn || false⟩ :
        ResetHold) = _
      rw [free]
      rfl
    · exact beginReset_fire_of_kept _ _
    · intro p hp
      by_cases fire : p = .fire
      · rw [fire]
        exact beginReset_fire_of_kept _ _
      · refine State.changesOnly_trans (t := s.setStationPort { s.stationPort with sending := none }) ?_ frame p ?_
        · intro q hq
          cases q <;> first | rfl | exact absurd (by decide) hq
        · revert hp fire
          cases p <;> decide

end Sys2Proof.Machine
end

section
/-! PROOFS of O35 and O36: the reads of status, envelope and tables (R166, R169), of records (R167), and the scan of cells
(R168). -/

namespace Sys2Proof.Machine

variable {s t : State}

/-! ### The snapshot (R166) -/

/-- The string states in the order in which the snapshot names the worst of them (R166). -/
def stringStateOrder : List StringState :=
  [.welded, .lockedOut, .isolating, .restoring, .isolated, .awaiting, .inService]

theorem worstState_eq (states : List StringState) :
    worstState states = (stringStateOrder.find? states.contains).getD .inService := by
  simp only [worstState, stringStateOrder, List.find?]
  repeat' split
  all_goals simp_all

/-- The worst state is the first in the order that some string has. -/
theorem worstState_of_first {states : List StringState} {before after : List StringState} {x : StringState}
    (order : stringStateOrder = before ++ x :: after) (none_ : ∀ r ∈ states, r ∉ before) (some_ : x ∈ states) :
    worstState states = x := by
  have skipped : before.find? states.contains = none :=
    List.find?_eq_none.mpr fun r hr hc => none_ r (List.contains_iff_mem.mp hc) hr
  rw [worstState_eq, order, List.find?_append, skipped, List.find?_cons_of_pos (List.contains_iff_mem.mpr some_)]
  rfl

theorem rank_max (a b : FireStage) : (a.max b).rank = max a.rank b.rank := by
  unfold FireStage.max
  split <;> omega

/-- The worst stage is reached by a zone, or is NORMAL, and no zone stands above it (R166). -/
theorem worstStage_spec (stages : List FireStage) (first : FireStage) :
    (first.rank ≤ (stages.foldl FireStage.max first).rank ∧
      ∀ x ∈ stages, x.rank ≤ (stages.foldl FireStage.max first).rank) ∧
    (stages.foldl FireStage.max first = first ∨ stages.foldl FireStage.max first ∈ stages) := by
  induction stages generalizing first with
  | nil => simp
  | cons x stages ih =>
    obtain ⟨⟨above, all⟩, reached⟩ := ih (first.max x)
    rw [rank_max] at above
    refine ⟨⟨by simp only [List.foldl_cons]; omega, fun y hy => ?_⟩, ?_⟩
    · rcases List.mem_cons.mp hy with rfl | hy
      · simp only [List.foldl_cons]
        omega
      · exact all y hy
    · rcases reached with same | inside
      · have one : first.max x = first ∨ first.max x = x := by
          unfold FireStage.max
          split
          · exact .inr rfl
          · exact .inl rfl
        rw [List.foldl_cons, same]
        rcases one with h | h
        · exact .inl h
        · exact .inr (List.mem_cons.mpr (.inl h))
      · exact .inr (List.mem_cons_of_mem _ inside)

theorem answer_readStatus (s : State) :
    s.answer 1 (State.readStatus []) = s.withResponse 1 .ok (.status s.statusView) := answer_of_same rfl

theorem answer_readEnvelope (s : State) :
    s.answer 4 (State.readEnvelope []) = s.evaluate.withResponse 4 .ok (.envelope s.evaluation) := answer_of rfl rfl

theorem answer_readTable {b : Byte} {c : TableContents} (h : s.tables.get b.toNat = some c) :
    s.answer 5 (State.readTable [b]) = s.withResponse 5 .ok
      (.table c (s.config.crcs.getD (b.toNat - 1) 0) (s.config.faulted.getD (b.toNat - 1) false)) := by
  refine answer_of_same ?_
  have here : s.reserving.tables.get b.toNat = some c := h
  have body : State.readTable [b] s.reserving = match s.reserving.tables.get b.toNat with
    | some c => s.reserving.ok (.table c (s.reserving.config.crcs.getD (b.toNat - 1) 0) (s.reserving.isFaulted b.toNat))
    | none => s.reserving.refuse .refusedInvalid := rfl
  rw [body, here]
  rfl

/-- Settles O35, from the snapshot's worst state and stage. -/
theorem plainReadsAnswerWithTheirRecords : Obligations.PlainReadsAnswerWithTheirRecords := by
  intro s b c takes a v order
  have same := requestArrives_frame s
  have strings : a.strings = s.strings := same .strings (by decide)
  have fire : a.fire = s.fire := same .fire (by decide)
  have time : a.time = s.time := same .time (by decide)
  have conn : a.conn = s.conn := same .conn (by decide)
  have config : a.config = s.config := same .config (by decide)
  have thermal : a.thermal = s.thermal := same .thermal (by decide)
  have engine : a.engine = s.engine := same .engine (by decide)
  have stages := worstStage_spec (a.fire.zones.map (·.stage)) .normal
  refine ⟨?_, ⟨?_, time, ?_, ?_, ?_, ?_, rfl, ?_, ?_, ?_, ?_, ?_, ?_, ?_, ?_, ?_, ?_, ?_, ?_, ?_, ?_, rfl, rfl, ?_, ?_⟩,
    fun before after x split none_ some_ => ?_, fun z hz => ?_, ?_, ?_, fun h => ?_⟩
  · exact (exec_answer takes rfl rfl).trans (congrArg _ (answer_readStatus a))
  · exact congrArg Sys.cause (same .sys (by decide))
  · exact congrArg Supply.mode (same .supply (by decide))
  · exact congrArg Supply.holdupLow (same .supply (by decide))
  · exact congrArg Rounds.phase (same .rounds (by decide))
  · exact congrArg Rounds.tag (same .rounds (by decide))
  · exact same .grid (by decide)
  · exact congrArg ConnRec.state conn
  · exact congrArg ConnRec.tripCause conn
  · exact congrArg ConnRec.target conn
  · exact congrArg ConnRec.lockout conn
  · exact congrArg ConnRec.request conn
  · exact congrArg ConnRec.feedback conn
  · show a.conn.history.map (fun t => ((a.time - t.time).toNat / 1000, t.cause)) = _
    rw [conn, time]
  · exact congrArg Thermal.coolant thermal
  · exact congrArg Thermal.command thermal
  · exact congrArg Thermal.lastStatus thermal
  · exact congrArg (fun e : Engine => e.store.isSome) engine
  · exact congrArg Engine.dirty engine
  · exact congrArg FlagRec.latched (same .flags (by decide))
  · exact congrArg (fun l : Lines => l.maint.active) (same .lines (by decide))
  · intro i
    show i ∈ (List.range 4).filter (fun i => (a.stringAt i).charge.uncalibrated) ↔ _
    rw [List.mem_filter, List.mem_range, stringAt_of_strings strings]
  · refine worstState_of_first split (fun r hr => ?_) ?_
    · obtain ⟨k, hk, rfl⟩ := List.mem_map.mp hr
      exact none_ k (strings ▸ hk)
    · obtain ⟨k, hk, rfl⟩ := some_
      exact List.mem_map.mpr ⟨k, strings.symm ▸ hk, rfl⟩
  · exact stages.1.2 _ (List.mem_map.mpr ⟨z, fire.symm ▸ hz, rfl⟩)
  · rcases stages.2 with normal | reached
    · exact .inl normal
    · obtain ⟨z, hz, stage⟩ := List.mem_map.mp reached
      exact .inr ⟨z, fire ▸ hz, stage⟩
  · exact (exec_answer takes rfl rfl).trans (congrArg _ (answer_readEnvelope a))
  · have here : a.tables.get b.toNat = some c := by
      rw [State.tables, config]
      exact h
    rw [exec_answer takes rfl rfl, ← config]
    exact congrArg _ (answer_readTable here)

/-! ### The records (R167) -/

/-- A turned group begins at the first index that is not below the start, or at the first where all are below (R167). -/
theorem turned_spec {group : List Nat} (start : Nat) (h : group ≠ []) :
    ∃ j < group.length, (∀ i < j, group.getD i 0 < start) ∧
      (start ≤ group.getD j 0 ∨ (j = 0 ∧ ∀ g ∈ group, g < start)) ∧ turned group start = group.drop j ++ group.take j := by
  cases found : group.findIdx? (start ≤ ·) with
  | none =>
    have below : ∀ g ∈ group, g < start := by simpa using found
    exact ⟨0, List.length_pos_iff.mpr h, fun i hi => absurd hi (Nat.not_lt_zero i), .inr ⟨rfl, below⟩, by
      simp only [turned, found, Option.getD_none]⟩
  | some j =>
    obtain ⟨lt, reached, before⟩ := List.findIdx?_eq_some_iff_getElem.mp found
    refine ⟨j, lt, fun i hi => ?_, .inl ?_, by simp only [turned, found, Option.getD_some]⟩
    · have inside : i < group.length := Nat.lt_trans hi lt
      rw [← List.getElem_eq_getD (h := inside)]
      exact Nat.lt_of_not_le (by simpa using before i hi)
    · rw [← List.getElem_eq_getD (h := lt)]
      exact of_decide_eq_true reached

/-- The entries of a turned list, by their place in the group. -/
theorem getD_rotated {group : List Nat} {j k : Nat} (hj : j < group.length) (hk : k < group.length) (d : Nat) :
    (group.drop j ++ group.take j).getD k d = group.getD ((j + k) % group.length) 0 := by
  have inside : (j + k) % group.length < group.length := Nat.mod_lt _ (Nat.zero_lt_of_lt hj)
  rw [← List.getElem_eq_getD (h := inside), List.getD_eq_getElem?_getD, List.getElem?_append]
  rcases Nat.lt_or_ge (j + k) group.length with h | h
  · rw [if_pos (by rw [List.length_drop]; omega), List.getElem?_drop, List.getElem?_eq_getElem h]
    simp [Nat.mod_eq_of_lt h]
  · have wrapped : (j + k) % group.length = j + k - group.length := by
      rw [Nat.mod_eq_sub_mod h, Nat.mod_eq_of_lt (by omega)]
    rw [if_neg (by rw [List.length_drop]; omega), List.length_drop, List.getElem?_take_of_lt (by omega),
      List.getElem?_eq_getElem (by omega), Option.getD_some]
    congr 1
    omega

theorem take_rotated {group : List Nat} {j n : Nat} (hj : j < group.length) (hn : n ≤ group.length) :
    (group.drop j ++ group.take j).take n = (List.range n).map fun i => group.getD ((j + i) % group.length) 0 := by
  have whole : (group.drop j ++ group.take j).length = group.length := by simp; omega
  refine List.ext_getElem (by simp; omega) fun i h1 h2 => ?_
  have hi : i < n := by simpa using h2
  rw [List.getElem_take, List.getElem_eq_getD (fallback := 0), getD_rotated hj (by omega), List.getElem_map,
    List.getElem_range]

/-- The records of a class, the number returned and the index that follows, by the place of the first in its group. -/
theorem records_of_turned {c : RecordClass} {string start count j : Nat} (hj : j < (s.recordGroup c string).length)
    (order : turned (s.recordGroup c string) start = (s.recordGroup c string).drop j ++ (s.recordGroup c string).take j) :
    s.records c string start count =
      let group := s.recordGroup c string
      let n := min (min (max count 1) c.largest) group.length
      .records ((List.range n).map fun i =>
          let g := group.getD ((j + i) % group.length) 0
          (g, s.recordView c string g))
        n (group.getD ((j + n) % group.length) 0)
        (if c = .zone then some (s.thermal.command, s.thermal.lastStatus) else none) := by
  generalize hg : s.recordGroup c string = group at *
  have whole : (group.drop j ++ group.take j).length = group.length := by simp; omega
  have next : ∀ n ≤ group.length, (group.drop j ++ group.take j).getD n ((group.drop j ++ group.take j).headD 0) =
      group.getD ((j + n) % group.length) 0 := by
    intro n hn
    rcases Nat.lt_or_eq_of_le hn with lt | rfl
    · exact getD_rotated hj lt _
    · have first : (group.drop j ++ group.take j).headD 0 = group.getD ((j + 0) % group.length) 0 := by
        rw [← getD_rotated hj (by omega) 0]
        cases group.drop j ++ group.take j <;> rfl
      rw [List.getD_eq_getElem?_getD, List.getElem?_eq_none (by omega), Option.getD_none, first, Nat.add_mod_right, Nat.add_zero]
  simp only [State.records, hg, order, whole, beq_iff_eq]
  rw [next _ (Nat.min_le_right ..), take_rotated hj (Nat.min_le_right ..), List.map_map]
  rfl

theorem records_of_empty {c : RecordClass} {string start count : Nat} (h : s.recordGroup c string = []) :
    s.records c string start count =
      .records [] 0 0 (if c = .zone then some (s.thermal.command, s.thermal.lastStatus) else none) := by
  simp [State.records, h, turned]

theorem mem_cellGroup (s : State) (string i : Nat) : i ∈ s.cellGroup string ↔
    ∃ p q, p < (s.stringEntry string).modules ∧ q < (s.stringEntry string).cells ∧ i = 16 * p + q := by
  simp only [State.cellGroup, List.mem_flatten, List.mem_map, List.mem_range]
  constructor
  · rintro ⟨l, ⟨p, hp, rfl⟩, hi⟩
    obtain ⟨q, hq, rfl⟩ := List.mem_map.mp hi
    exact ⟨p, q, hp, List.mem_range.mp hq, rfl⟩
  · rintro ⟨p, q, hp, hq, rfl⟩
    exact ⟨_, ⟨p, hp, rfl⟩, List.mem_map.mpr ⟨q, List.mem_range.mpr hq, rfl⟩⟩

theorem answer_readRecords {k string start count : Byte} {c : RecordClass} (class_ : RecordClass.named k.toNat = some c)
    (there : string.toNat ≤ 3) (used : c = .cell → (s.stringEntry string.toNat).inUse = true)
    (within : start.toNat < c.size) :
    s.answer 2 (State.readRecords [k, string, start, count]) =
      s.withResponse 2 .ok (s.records c string.toNat start.toNat count.toNat) := by
  refine answer_of_same ?_
  have passes : (decide (3 < string.toNat) || (c == .cell && !(s.stringEntry string.toNat).inUse) ||
      decide (c.size ≤ start.toNat)) = false := by
    simp only [Bool.or_eq_false_iff, decide_eq_false_iff_not, Bool.and_eq_false_iff, beq_eq_false_iff_ne,
      Bool.not_eq_false']
    refine ⟨⟨by omega, ?_⟩, by omega⟩
    by_cases cell : c = .cell
    · exact .inr (used cell)
    · exact .inl cell
  have body : State.readRecords [k, string, start, count] s.reserving = match RecordClass.named k.toNat with
    | none => s.reserving.refuse .refusedInvalid
    | some c => if decide (3 < string.toNat) || (c == .cell && !(s.stringEntry string.toNat).inUse) ||
        decide (c.size ≤ start.toNat) then s.reserving.refuse .refusedInvalid
      else s.reserving.ok (s.reserving.records c string.toNat start.toNat count.toNat) := rfl
  rw [body, class_]
  dsimp only
  rw [passes]
  rfl

/-! ### The scan of cells (R168) -/

theorem scanFrom_of_stop {stops : Nat → Bool} {before after : List Nat} {i : Nat} (h : ∀ j ∈ before, stops j = false)
    (hi : stops i = true) : scanFrom stops (before ++ i :: after) = (some i, before.length + 1) := by
  induction before with
  | nil => simp [scanFrom, hi]
  | cons j before ih =>
    have step := ih fun j hj => h j (List.mem_cons_of_mem _ hj)
    simp [scanFrom, h j (List.mem_cons_self ..), step]

theorem scanFrom_of_none {stops : Nat → Bool} {l : List Nat} (h : ∀ j ∈ l, stops j = false) :
    scanFrom stops l = (none, l.length) := by
  induction l with
  | nil => rfl
  | cons j l ih =>
    have step := ih fun j hj => h j (List.mem_cons_of_mem _ hj)
    simp [scanFrom, h j (List.mem_cons_self ..), step]

theorem passes_iff (test : CellTest) (k : CellRec) (bleed : Bool) (threshold : Nat) :
    test.passes k bleed threshold = true ↔ match test with
      | .vGe => ∃ v, k.latest = some v ∧ threshold ≤ v
      | .vLe => ∃ v, k.latest = some v ∧ v ≤ threshold
      | .bandNotNormal => k.band ≠ .normal
      | .bleedOn => bleed = true
      | .unknown => k.band = .unknown := by
  cases test <;> simp [CellTest.passes, Option.any_eq_true]

/-- The cells that a scan may examine, in its order (R168). -/
def State.scanned (s : State) (string start dir count : Nat) : List Nat :=
  (if scanUp dir then (s.cellGroup string).filter (start ≤ ·)
    else ((s.cellGroup string).filter (· ≤ start)).reverse).take (min (max count 1) 192)

/-- Whether a cell stops a scan (R168). -/
def State.stopsScan (s : State) (string : Nat) (test : CellTest) (threshold : Nat) (untilPass : Bool) (i : Nat) : Bool :=
  test.passes (s.cellAt string i) (s.bleeds string i) threshold == untilPass

theorem answer_scanCells {string start dir count t hi lo mode : Byte} {test : CellTest} {untilPass : Bool}
    (there : string.toNat ≤ 3) (used : (s.stringEntry string.toNat).inUse = true)
    (cell : start.toNat ∈ s.cellGroup string.toNat) (named : CellTest.named t.toNat = some test)
    (moded : scanMode mode.toNat = some untilPass) {stop : Option Nat} {examined : Nat}
    (found : scanFrom (s.stopsScan string.toNat test (hi.toNat * 256 + lo.toNat) untilPass)
      (s.scanned string.toNat start.toNat dir.toNat count.toNat) = (stop, examined)) :
    s.answer 3 (State.scanCells [string, start, dir, count, t, hi, lo, mode]) =
      s.withResponse 3 .ok (.scan stop examined (min (max count.toNat 1) 192 - examined)) := by
  refine answer_of_same ?_
  have passes : (decide (3 < string.toNat) || !(s.stringEntry string.toNat).inUse ||
      !((s.cellGroup string.toNat).contains start.toNat)) = false := by
    simp [used, cell]
    omega
  have body : State.scanCells [string, start, dir, count, t, hi, lo, mode] s.reserving =
      if decide (3 < string.toNat) || !(s.stringEntry string.toNat).inUse ||
        !((s.cellGroup string.toNat).contains start.toNat) then s.reserving.refuse .refusedInvalid
      else match CellTest.named t.toNat, scanMode mode.toNat with
        | some test, some untilPass => s.reserving.ok (s.scan string.toNat start.toNat (scanUp dir.toNat) count.toNat test
            (hi.toNat * 256 + lo.toNat) untilPass)
        | _, _ => s.reserving.refuse .refusedInvalid := rfl
  have scan : s.scan string.toNat start.toNat (scanUp dir.toNat) count.toNat test (hi.toNat * 256 + lo.toNat) untilPass =
      .scan stop examined (min (max count.toNat 1) 192 - examined) := by
    unfold State.scan
    change (match scanFrom (s.stopsScan string.toNat test (hi.toNat * 256 + lo.toNat) untilPass)
      (s.scanned string.toNat start.toNat dir.toNat count.toNat) with
      | (stop, examined) => ResultData.scan stop examined (min (max count.toNat 1) 192 - examined)) = _
    rw [found]
  rw [body, passes, named, moded]
  exact congrArg (fun d => (s.reserving, Status.ok, d)) scan

theorem cellGroup_of_config (h : t.config = s.config) (i : Nat) : t.cellGroup i = s.cellGroup i := by
  simp only [State.cellGroup, State.stringEntry, State.tables, h]

theorem recordGroup_of_config (h : t.config = s.config) (c : RecordClass) (i : Nat) :
    t.recordGroup c i = s.recordGroup c i := by
  cases c with
  | cell => exact cellGroup_of_config h i
  | _ => rfl

/-- Settles O36, from the turned group and the scan's first stop. -/
theorem recordReadsAnswerAndChangeNothing : Obligations.RecordReadsAnswerAndChangeNothing := by
  intro s takes a
  have same := requestArrives_frame s
  have config : a.config = s.config := same .config (by decide)
  have thermal : a.thermal = s.thermal := same .thermal (by decide)
  have modules : a.modules = s.modules := same .modules (by decide)
  refine ⟨?_, ?_⟩
  · intro k string start count c class_ there used within group n
    have groups : a.recordGroup c string.toNat = group := recordGroup_of_config config _ _
    have used_ : c = .cell → (a.stringEntry string.toNat).inUse = true := fun h => by
      rw [stringEntry_of_config config]
      exact used h
    have answered := (exec_answer (c := .readRecords [k, string, start, count]) takes rfl rfl).trans
      (congrArg _ (answer_readRecords class_ there used_ within))
    refine ⟨fun some_ => ?_, fun none_ => ?_, fun i => ?_⟩
    · obtain ⟨j, lt, before, reached, order⟩ := turned_spec start.toNat some_
      refine ⟨j, lt, before, reached, answered.trans ?_⟩
      rw [records_of_turned (j := j) (by rw [groups]; exact lt) (by rw [groups]; exact order), groups, thermal]
    · rw [answered, records_of_empty (groups.trans none_), thermal]
    · cases c with
      | cell => exact (mem_cellGroup s _ i).trans (if_pos rfl).symm.to_iff
      | _ => exact List.mem_range
  · intro string start dir count t hi lo mode test untilPass there used cell named moded group ahead wanted stops answers
    have cells : a.cellGroup string.toNat = group := cellGroup_of_config config _
    have scanned : a.scanned string.toNat start.toNat dir.toNat count.toNat = ahead.take wanted := by
      rw [State.scanned, cells]
    have at_ : ∀ m, a.moduleAt m = s.moduleAt m := fun m => moduleAt_of_modules modules m
    have stops_iff : ∀ i, a.stopsScan string.toNat test (hi.toNat * 256 + lo.toNat) untilPass i = true ↔ stops i := by
      intro i
      have cell_ : a.cellAt string.toNat i = s.cellAt string.toNat i := by simp only [State.cellAt, at_]
      have bleed : a.bleeds string.toNat i = s.bleeds string.toNat i := by simp only [State.bleeds, at_]
      have test_ := passes_iff test (s.cellAt string.toNat i) (s.bleeds string.toNat i) (hi.toNat * 256 + lo.toNat)
      have unfolded : a.stopsScan string.toNat test (hi.toNat * 256 + lo.toNat) untilPass i = true ↔
          (test.passes (s.cellAt string.toNat i) (s.bleeds string.toNat i) (hi.toNat * 256 + lo.toNat) = true ↔
            untilPass = true) := by
        rw [State.stopsScan, cell_, bleed, beq_iff_eq, Bool.eq_iff_iff]
      cases test <;> exact unfolded.trans (iff_congr test_ Iff.rfl)
    have answer : ∀ stop examined, scanFrom (a.stopsScan string.toNat test (hi.toNat * 256 + lo.toNat) untilPass)
        (ahead.take wanted) = (stop, examined) → answers stop examined := fun stop examined found =>
      (exec_answer takes rfl rfl).trans (congrArg _ (answer_scanCells there
        (by rw [stringEntry_of_config config]; exact used) (by rw [cells]; exact cell) named moded (scanned.symm ▸ found)))
    refine ⟨fun before i after split none_ some_ => answer _ _ ?_, fun none_ => answer _ _ ?_⟩
    · rw [split]
      exact scanFrom_of_stop (fun j hj => Bool.eq_false_iff.mpr fun h => none_ j hj ((stops_iff j).mp h))
        ((stops_iff i).mpr some_)
    · exact scanFrom_of_none fun j hj => Bool.eq_false_iff.mpr fun h => none_ j hj ((stops_iff j).mp h)

end Sys2Proof.Machine
end

section
/-! PROOF of O38: SET PARAMETER stores the clamped value, and a lowered max_bleed reduces the masks (R39, R165, R169). -/

namespace Sys2Proof.Machine

variable {s t : State}

/-! ### Changes made once for each index -/

/-- What the change of one index does to a view that the others leave alone, under a condition that all of them keep. -/
theorem forEach_once {β : Type} {Inv : State → Prop} {view : State → β} {want : β → β} {f : Nat → State → State} {m : Nat}
    (inv : ∀ i s, Inv s → Inv (f i s)) (here : ∀ s, Inv s → view (f m s) = want (view s))
    (other : ∀ i s, i ≠ m → Inv s → view (f i s) = view s) :
    ∀ {l : List Nat} {s : State}, l.Nodup → Inv s →
      view (s.forEach l f) = if m ∈ l then want (view s) else view s := by
  intro l
  induction l with
  | nil => exact fun _ _ => rfl
  | cons i l ih =>
    intro s nodup hs
    obtain ⟨fresh, nodup⟩ := List.nodup_cons.mp nodup
    have step : view (s.forEach (i :: l) f) = if m ∈ l then want (view (f i s)) else view (f i s) := ih nodup (inv i s hs)
    rw [step]
    by_cases same : i = m
    · subst same
      rw [if_neg fresh, if_pos (List.mem_cons_self ..), here s hs]
    · rw [other i s same hs]
      exact ite_of_iff (by simp [Ne.symm same]) rfl rfl

/-! ### The clamps and the storing (R2 to R180) -/

theorem clampValue_fullRearm (p : Params) (v : Int) :
    p.clampValue 20 v = min (clampInt 0 5000 v) (p.fullLevel - 1) := by
  simp only [Params.clampValue]
  split <;> omega

theorem clampValue_emptyRearm (p : Params) (v : Int) :
    p.clampValue 22 v = max (clampInt 0 5000 v) (p.emptyLevel + 1) := by
  simp only [Params.clampValue]
  split <;> omega

theorem clampNominal_eq (v : Int) : (v < 55000 → clampNominal v = 50000) ∧ (55000 < v → clampNominal v = 60000) ∧
    (v = 55000 → clampNominal v = 50000 ∨ clampNominal v = 60000) := by
  unfold clampNominal
  refine ⟨fun h => if_pos h, fun h => ?_, fun h => ?_⟩
  · rw [if_neg (by omega), if_neg (by simp; omega)]
  · rw [if_neg (by omega), if_pos (by simp [h])]
    split <;> simp

/-- A parameter other than the one stored stands (R169). -/
theorem get_set_other (p : Params) {id j : Nat} (x : Int) (h : j ≠ id) (h1 : 1 ≤ id) (h2 : id ≤ 39) :
    (p.set id x).get j = p.get j := by
  have trims : ∀ i k, i ≠ k → (p.trims.set i x).getD k 0 = p.trims.getD k 0 := fun i k hik => by
    simp [List.getD_eq_getElem?_getD, List.getElem?_set_ne hik]
  unfold Params.set
  dsimp only
  split <;> first
    | rfl
    | (unfold Params.get
       split <;> first | rfl | exact absurd rfl h | exact congrArg some (trims _ _ (by decide)))

/-- The identities whose parameter is stored as a natural number. -/
def naturalIds : List Nat :=
  [1, 2, 3, 4, 5, 6, 7, 8, 9, 10, 11, 13, 18, 23, 24, 26, 27, 28, 29, 30, 33, 34, 35, 36, 38, 39]

theorem clampValue_nonneg (p : Params) (v : Int) {id : Nat} (h : id ∈ naturalIds) (step : 1 ≤ p.onDelta) :
    0 ≤ p.clampValue id v := by
  have least : ∀ {lo hi : Int}, 0 ≤ lo → lo ≤ hi → 0 ≤ clampInt lo hi v := fun h1 h2 =>
    Int.le_trans h1 (clampInt_bounds h2 v).1
  have tens : 0 ≤ clampInt 100 10000 v - clampInt 100 10000 v % 100 := by
    have := (clampInt_bounds (lo := 100) (hi := 10000) (by decide) v).1
    omega
  have quiet : 0 ≤ clampQuietEvery v := by
    unfold clampQuietEvery
    repeat' split
    all_goals decide
  have delta : 0 ≤ clampInt 0 ((p.onDelta : Int) - 1) v := least (by decide) (by omega)
  simp only [naturalIds, List.mem_cons, List.not_mem_nil, or_false] at h
  rcases h with rfl | rfl | rfl | rfl | rfl | rfl | rfl | rfl | rfl | rfl | rfl | rfl | rfl | rfl | rfl | rfl | rfl | rfl |
    rfl | rfl | rfl | rfl | rfl | rfl | rfl | rfl
  case inl => exact tens
  case inr.inr.inl => exact quiet
  case inr.inr.inr.inr.inr.inr.inr.inr.inl => exact delta
  all_goals exact least (by decide) (by decide)

/-- A clamped value that is stored is read back (R169). -/
theorem get_set_same (p : Params) {id : Nat} {x : Int} (h1 : 1 ≤ id) (h2 : id ≤ 39) (four : p.trims.length = 4)
    (natural : id ∈ naturalIds → 0 ≤ x) (choice : id = 32 ∨ id = 37 → x = 0 ∨ x = 1) :
    (p.set id x).get id = some x := by
  have stored : ∀ i < 4, (p.trims.set i x).getD i 0 = x := fun i hi => by
    simp [List.getD_eq_getElem?_getD, four, hi]
  have flag : x = 0 ∨ x = 1 → flagInt (x != 0) = x := by
    rintro (rfl | rfl) <;> rfl
  have kinds : id ∈ naturalIds ∨ (id = 32 ∨ id = 37) ∨ (id = 14 ∨ id = 15 ∨ id = 16 ∨ id = 17) ∨
      (id = 12 ∨ id = 19 ∨ id = 20 ∨ id = 21 ∨ id = 22 ∨ id = 25 ∨ id = 31) := by
    simp only [naturalIds, List.mem_cons, List.not_mem_nil, or_false]
    omega
  rcases kinds with counted | flagged | trim | signed
  · have kept : (x.toNat : Int) = x := Int.toNat_of_nonneg (natural counted)
    simp only [naturalIds, List.mem_cons, List.not_mem_nil, or_false] at counted
    rcases counted with rfl | rfl | rfl | rfl | rfl | rfl | rfl | rfl | rfl | rfl | rfl | rfl | rfl | rfl | rfl | rfl | rfl |
      rfl | rfl | rfl | rfl | rfl | rfl | rfl | rfl | rfl <;> exact congrArg some kept
  · have read := flag (choice flagged)
    rcases flagged with rfl | rfl <;> exact congrArg some read
  · rcases trim with rfl | rfl | rfl | rfl
    · exact congrArg some (stored 0 (by decide))
    · exact congrArg some (stored 1 (by decide))
    · exact congrArg some (stored 2 (by decide))
    · exact congrArg some (stored 3 (by decide))
  · rcases signed with rfl | rfl | rfl | rfl | rfl | rfl | rfl <;> exact rfl

/-! ### A lowered max_bleed (R39) -/

/-- The cells of a mask that a cell does not outrank: of a higher quiet voltage, or the lower position on a tie. -/
def ModuleRec.above (r : ModuleRec) (c : Nat) : List Nat :=
  let quiet := fun c : Nat => ((r.cells[c]?).bind (·.quiet)).getD 0
  r.mask.filter fun d => decide (quiet c < quiet d) || (quiet d == quiet c && decide (d < c))

/-- The mask that a lowered max_bleed leaves (R39, log 55). -/
def ModuleRec.reduced (r : ModuleRec) (n : Nat) : List Nat :=
  if n < r.mask.length then r.mask.filter fun c => (r.above c).length < n else r.mask

theorem keepHighest_map (n : Nat) (l : List Nat) (voltage : Nat → Nat) :
    keepHighest n (l.map fun c => (c, voltage c)) = l.filter fun c =>
      (l.filter fun d => decide (voltage c < voltage d) || (voltage d == voltage c && decide (d < c))).length < n := by
  simp only [keepHighest, List.filter_map, List.map_map, List.length_map]
  exact (List.map_congr_left fun _ _ => rfl).trans (List.map_id _)

/-- A change of one module's record keeps what it keeps of each. -/
theorem moduleAt_modModule_keeps {β : Type} {view : ModuleRec → β} {f : ModuleRec → ModuleRec} (h : ∀ r, view (f r) = view r)
    (m k : Nat) : view ((s.modModule m f).moduleAt k) = view (s.moduleAt k) := by
  by_cases same : k = m
  · subst same
    rcases Nat.lt_or_ge k s.modules.length with hk | hk
    · rw [moduleAt_modModule_same f hk, h]
    · simp [State.moduleAt, State.modModule, hk]
  · rw [moduleAt_modModule_other f same]

/-- What a BLEED SET placed leaves of a module: all but its bleed resend (R40). -/
def ModuleRec.unsent (r : ModuleRec) : ModuleRec := { r with resend := false }

theorem unsent_placeBleedSet (m k : Nat) : ((s.placeBleedSet m).moduleAt k).unsent = (s.moduleAt k).unsent := by
  have placed : ∀ p, ((s.placeNormal p).moduleAt k).unsent = (s.moduleAt k).unsent := fun p =>
    congrArg _ (moduleAt_of_modules (placeNormal_frame s p .modules (by decide)) k)
  have sent : ∀ (u : State) (b : Bool), ((u.modModule m fun r => { r with resend := b }).moduleAt k).unsent =
      (u.moduleAt k).unsent := fun u b =>
    moduleAt_modModule_keeps (view := ModuleRec.unsent) (f := fun r => { r with resend := b }) (fun _ => rfl) m k
  unfold State.placeBleedSet
  split
  · rfl
  · dsimp only
    split
    · exact (sent _ _).trans (placed _)
    · exact (sent _ _).trans (placed _)

theorem placeBleedSet_frame (s : State) (m : Nat) :
    s.changesOnly (s.placeBleedSet m) [.modules, .fieldPort, .counters] :=
  frame_of fun h => h.placeBleedSet (List.Subset.refl _)

/-- The quiet voltage by which a cell of a mask is ranked (R39, log 55). -/
def ModuleRec.quietRank (r : ModuleRec) (c : Nat) : Nat := ((r.cells[c]?).bind (·.quiet)).getD 0

theorem reduceMask_of_long {m : Nat} (h : s.params.maxBleed < (s.moduleAt m).mask.length) :
    s.reduceMask m = (s.modModule m fun r =>
      { r with mask := keepHighest s.params.maxBleed (r.mask.map fun c => (c, (s.moduleAt m).quietRank c)) }).placeBleedSet m := by
  simp only [State.reduceMask, h, if_true]
  rfl

theorem reduceMask_of_short {m : Nat} (h : ¬s.params.maxBleed < (s.moduleAt m).mask.length) : s.reduceMask m = s := if_neg h

/-- The record of a module whose mask a lowered max_bleed has reduced, but for its bleed resend. -/
def ModuleRec.lowered (n : Nat) (r : ModuleRec) : ModuleRec := { r with mask := r.reduced n }

theorem unsent_reduceMask_same {m : Nat} (h : m < s.modules.length) :
    ((s.reduceMask m).moduleAt m).unsent = ((s.moduleAt m).unsent).lowered s.params.maxBleed := by
  by_cases long : s.params.maxBleed < (s.moduleAt m).mask.length
  · have kept : keepHighest s.params.maxBleed ((s.moduleAt m).mask.map fun c => (c, (s.moduleAt m).quietRank c)) =
        (s.moduleAt m).reduced s.params.maxBleed := by
      rw [keepHighest_map, ModuleRec.reduced, if_pos long]
      rfl
    rw [reduceMask_of_long long, unsent_placeBleedSet, moduleAt_modModule_same _ h, kept]
    rfl
  · have same : (s.moduleAt m).unsent.reduced s.params.maxBleed = (s.moduleAt m).unsent.mask := if_neg long
    rw [reduceMask_of_short long, ModuleRec.lowered, same]

theorem unsent_reduceMask_other {m k : Nat} (h : m ≠ k) :
    ((s.reduceMask m).moduleAt k).unsent = (s.moduleAt k).unsent := by
  by_cases long : s.params.maxBleed < (s.moduleAt m).mask.length
  · rw [reduceMask_of_long long, unsent_placeBleedSet, moduleAt_modModule_other _ (Ne.symm h)]
  · rw [reduceMask_of_short long]

theorem length_placeBleedSet (s : State) (m : Nat) : (s.placeBleedSet m).modules.length = s.modules.length := by
  have placed : ∀ p, (s.placeNormal p).modules = s.modules := fun p => placeNormal_frame s p .modules (by decide)
  unfold State.placeBleedSet
  split
  · rfl
  · dsimp only
    split <;> simp [State.modModule, State.count, placed]

theorem length_reduceMask (s : State) (m : Nat) : (s.reduceMask m).modules.length = s.modules.length := by
  by_cases long : s.params.maxBleed < (s.moduleAt m).mask.length
  · rw [reduceMask_of_long long, length_placeBleedSet]
    exact List.length_modify ..
  · rw [reduceMask_of_short long]

/-- Every mask is reduced once (R39). -/
theorem unsent_reduceMasks {m : Nat} (hm : m < 48) (there : m < s.modules.length) :
    (s.reduceMasks.moduleAt m).unsent = ((s.moduleAt m).unsent).lowered s.params.maxBleed := by
  have keeps : ∀ (i : Nat) (u : State), u.config = s.config ∧ u.modules.length = s.modules.length →
      (u.reduceMask i).config = s.config ∧ (u.reduceMask i).modules.length = s.modules.length := by
    intro i u ⟨config, length⟩
    have frame : u.changesOnly (u.reduceMask i) [.modules, .fieldPort, .counters] :=
      frame_of fun h => h.reduceMask (List.Subset.refl _)
    exact ⟨(frame .config (by decide)).trans config, (length_reduceMask u i).trans length⟩
  have once := forEach_once (view := fun u => (u.moduleAt m).unsent)
    (want := ModuleRec.lowered s.params.maxBleed) (f := State.reduceMask) (m := m) keeps
    (fun u hu => by rw [unsent_reduceMask_same (hu.2 ▸ there), State.params, hu.1]; rfl)
    (fun i u hi _ => unsent_reduceMask_other hi) (List.nodup_range (n := 48)) ⟨rfl, rfl⟩
  exact once.trans (if_pos (List.mem_range.mpr hm))

/-! ### The answer (R165) -/

/-- The state with a parameter stored (R169). -/
def State.stored (s : State) (id : Nat) (x : Int) : State :=
  (s.setConfig { s.config with params := s.config.params.set id x }).setEngine { s.engine with dirty := true }

theorem reserving_stored_modules (s : State) (id : Nat) (x : Int) : (s.reserving.stored id x).modules = s.modules := rfl

theorem reserving_stored_maxBleed (s : State) (x : Int) : (s.reserving.stored 10 x).params.maxBleed = x.toNat := rfl

theorem reserving_stored_stationPort (s : State) (id : Nat) (x : Int) :
    (s.reserving.stored id x).stationPort = s.reserving.stationPort := rfl

theorem reduceMasks_frame (s : State) : s.changesOnly s.reduceMasks [.modules, .fieldPort, .counters] :=
  frame_of fun h => h.reduceMasks (List.Subset.refl _)

theorem reserving_stored_frame (s : State) (id : Nat) (x : Int) :
    (s.stored id x).changesOnly (s.reserving.stored id x) [.stationPort] := by
  intro p hp
  cases p <;> first | exact absurd (List.mem_singleton.mpr rfl) hp | rfl

theorem storeParameter_of_other {id : Nat} (x : Int) (h : id ≠ 10) : s.storeParameter id x = s.stored id x :=
  if_neg (by simpa using h)

theorem storeParameter_maxBleed (x : Int) : s.storeParameter 10 x = (s.stored 10 x).reduceMasks := rfl

theorem setParameter_eq {id a3 a2 a1 a0 : Byte} {old : Int} (h : s.params.get id.toNat = some old) :
    s.setParameter [id, a3, a2, a1, a0] =
      let v := toSigned32 (((a3.toNat * 256 + a2.toNat) * 256 + a1.toNat) * 256 + a0.toNat)
      let x := s.params.clampValue id.toNat v
      (s.storeParameter id.toNat x, if x = v then .ok else .clamped, .parameter x) := by
  have body : s.setParameter [id, a3, a2, a1, a0] = match s.params.get id.toNat with
    | none => s.refuse .refusedInvalid
    | some _ =>
      let v := toSigned32 (((a3.toNat * 256 + a2.toNat) * 256 + a1.toNat) * 256 + a0.toNat)
      let x := s.params.clampValue id.toNat v
      (s.storeParameter id.toNat x, if x == v then .ok else .clamped, .parameter x) := rfl
  rw [body, h]
  simp only [beq_iff_eq]

/-- What an answer adds to what its body does: the response, and no more. -/
theorem answer_stationPort {code : Nat} {body : State → Answer}
    (h : (body s.reserving).1.stationPort = s.reserving.stationPort) :
    (s.answer code body).stationPort = { s.stationPort with
      queue := s.stationPort.queue ++ [.response ⟨code, (body s.reserving).2.1, (body s.reserving).2.2⟩] } := by
  rw [answer_eq]
  dsimp only [State.setStationPort_stationPort]
  rw [h]
  rfl

theorem answer_frame (s : State) (code : Nat) (body : State → Answer) :
    (body s.reserving).1.changesOnly (s.answer code body) [.stationPort] := by
  intro p hp
  rw [answer_eq]
  cases p <;> first | exact absurd (by decide) hp | rfl

/-- The answer to a max_bleed stored reduces the masks, and changes nothing else (R39). -/
theorem answer_reduceMasks {code : Nat} {body : State → Answer} {x : Int} {status : Status} {d : ResultData}
    (hb : body s.reserving = ((s.reserving.stored 10 x).reduceMasks, status, d)) :
    (s.answer code body).stationPort = ((s.stored 10 x).withResponse code status d).stationPort ∧
      (s.answer code body).modules = (s.reserving.stored 10 x).reduceMasks.modules ∧
      (s.stored 10 x).changesOnly (s.answer code body) [.modules, .fieldPort, .stationPort, .counters] := by
  have reduced : (s.reserving.stored 10 x).changesOnly (body s.reserving).1 [.modules, .fieldPort, .counters] := by
    rw [hb]
    dsimp only
    exact reduceMasks_frame _
  have before : (s.stored 10 x).changesOnly (s.reserving.stored 10 x) [.modules, .fieldPort, .stationPort, .counters] :=
    State.changesOnly_mono (reserving_stored_frame s 10 x) (by decide)
  have answered := answer_frame s code body
  refine ⟨?_, ?_, ?_⟩
  · have port : (body s.reserving).1.stationPort = (s.reserving.stored 10 x).stationPort :=
      reduced .stationPort (by decide)
    rw [reserving_stored_stationPort] at port
    rw [answer_stationPort port, hb]
    rfl
  · have after : (body s.reserving).1.modules = (s.reserving.stored 10 x).reduceMasks.modules := by rw [hb]
    rw [← after]
    exact answered .modules (by decide)
  · exact State.changesOnly_trans before (State.changesOnly_trans (State.changesOnly_mono reduced (by decide))
      (State.changesOnly_mono answered (by decide)))

/-- Settles O38, from the clamps, the storing and the reduced masks. -/
theorem setParameterStoresTheClampedValue : Obligations.SetParameterStoresTheClampedValue := by
  refine ⟨?_, ?_⟩
  · intro p v within
    refine ⟨?_, rfl, rfl, clampValue_fullRearm p v, clampValue_emptyRearm p v, (clampNominal_eq v).1,
      (clampNominal_eq v).2.1, (clampNominal_eq v).2.2, ?_⟩
    · simp only [List.forall_mem_append, List.forall_mem_cons, List.forall_mem_nil]
      repeat' apply And.intro
      all_goals first | exact fun _ h => nomatch h | rfl
    · intro id h1 h2 step four q
      refine ⟨get_set_same p h1 h2 four (fun h => clampValue_nonneg p v h step) ?_, fun j hj => get_set_other p _ hj h1 h2⟩
      have choice : clampInt 0 1 v = 0 ∨ clampInt 0 1 v = 1 := by
        have := clampInt_bounds (lo := 0) (hi := 1) (by decide) v
        omega
      rintro (rfl | rfl) <;> exact choice
  · intro s id a3 a2 a1 a0 old takes known v x stored status
    have same := requestArrives_frame s
    have config : s.requestArrives.config = s.config := same .config (by decide)
    have engine : s.requestArrives.engine = s.engine := same .engine (by decide)
    have params : s.requestArrives.reserving.params = s.params := congrArg ConfigStore.params config
    have stored_eq : s.requestArrives.stored id.toNat x = stored := by
      rw [State.stored, config, engine]
      rfl
    have body : State.setParameter [id, a3, a2, a1, a0] s.requestArrives.reserving =
        (s.requestArrives.reserving.storeParameter id.toNat x, status, .parameter x) := by
      rw [setParameter_eq (params.symm ▸ known), params]
    have answered := exec_answer (c := .setParameter [id, a3, a2, a1, a0]) takes rfl rfl
    refine ⟨fun other => ?_, fun bleed => ?_⟩
    · rw [answered, ← stored_eq]
      refine congrArg _ (answer_of ?_ rfl)
      rw [body, storeParameter_of_other _ other]
      rfl
    · have lowered : State.setParameter [id, a3, a2, a1, a0] s.requestArrives.reserving =
          ((s.requestArrives.reserving.stored 10 x).reduceMasks, status, .parameter x) := by
        rw [body, bleed, storeParameter_maxBleed]
      have stored_ : s.requestArrives.stored 10 x = stored := bleed ▸ stored_eq
      obtain ⟨port, after, frame⟩ := answer_reduceMasks (code := 8) lowered
      rw [stored_] at port frame
      refine ⟨_, answered, port, fun m hm there => ?_, frame⟩
      have modules : (s.requestArrives.reserving.stored 10 x).modules = s.modules :=
        (reserving_stored_modules ..).trans (same .modules (by decide))
      have reduced := unsent_reduceMasks (s := s.requestArrives.reserving.stored 10 x) hm (modules.symm ▸ there)
      rw [reserving_stored_maxBleed, moduleAt_of_modules modules, ← moduleAt_of_modules after] at reduced
      exact ⟨(congrArg ModuleRec.mask reduced :), (congrArg ModuleRec.cells reduced :),
        (congrArg ModuleRec.quality reduced :)⟩

end Sys2Proof.Machine
end

section
/-! PROOF of O37: a load that passes its checks replaces the table, and brings what the table's rules say (R56, R107, R113,
R150, R154, R169, R174). -/

namespace Sys2Proof.Machine

variable {s t : State}

/-! ### Records changed by index -/

/-- Entries changed one by one are those of one map by index. -/
theorem foldl_modify_eq_mapIdx {α : Type} (f : Nat → α → α) :
    ∀ {is : List Nat} (l : List α), is.Nodup →
      is.foldl (fun l i => l.modify i (f i)) l = l.mapIdx fun i a => if i ∈ is then f i a else a := by
  intro is
  induction is with
  | nil =>
    intro l _
    apply List.ext_getElem?
    simp
  | cons i is ih =>
    intro l nodup
    obtain ⟨fresh, nodup⟩ := List.nodup_cons.mp nodup
    rw [List.foldl_cons, ih _ nodup]
    apply List.ext_getElem?
    intro j
    simp only [List.getElem?_mapIdx, List.getElem?_modify]
    cases l[j]? with
    | none => rfl
    | some a =>
      by_cases same : i = j
      · subst same
        simp [fresh]
      · simp [same, Ne.symm same]

/-- A change of one piece, made for each index, is one change of the piece. -/
theorem forEach_modify {α : Type} {set : State → List α → State} {get : State → List α} {f : Nat → α → α}
    {op : Nat → State → State} (hop : ∀ i u, op i u = set u ((get u).modify i (f i)))
    (set_set : ∀ u x y, set (set u x) y = set u y) (get_set : ∀ u x, get (set u x) = x)
    (set_get : ∀ u, set u (get u) = u) {is : List Nat} (nodup : is.Nodup) :
    s.forEach is op = set s ((get s).mapIdx fun i a => if i ∈ is then f i a else a) := by
  rw [← foldl_modify_eq_mapIdx f (get s) nodup]
  clear nodup
  induction is generalizing s with
  | nil => exact (set_get s).symm
  | cons i is ih =>
    have step : s.forEach (i :: is) op = (op i s).forEach is op := rfl
    rw [step, ih, hop, get_set, set_set, List.foldl_cons]

theorem forEach_modStage (f : Nat → StageRec → StageRec) {is : List Nat} (nodup : is.Nodup) :
    (s.forEach is fun i u => u.modStage i (f i)) =
      s.setGrid { s.grid with stages := s.grid.stages.mapIdx fun i r => if i ∈ is then f i r else r } :=
  forEach_modify (set := fun u x => u.setGrid { u.grid with stages := x }) (get := fun u => u.grid.stages)
    (fun _ _ => rfl) (fun _ _ _ => rfl) (fun _ _ => rfl) (fun _ => rfl) nodup

theorem forEach_modDetector (f : Nat → DetectorRec → DetectorRec) {is : List Nat} (nodup : is.Nodup) :
    (s.forEach is fun i u => u.modDetector i (f i)) =
      s.setFire { s.fire with detectors := s.fire.detectors.mapIdx fun i r => if i ∈ is then f i r else r } :=
  forEach_modify (set := fun u x => u.setFire { u.fire with detectors := x }) (get := fun u => u.fire.detectors)
    (fun _ _ => rfl) (fun _ _ _ => rfl) (fun _ _ => rfl) (fun _ => rfl) nodup

theorem forEach_modLine (f : Nat → LineRec → LineRec) {is : List Nat} (nodup : is.Nodup) :
    (s.forEach is fun i u => u.modLine i (f i)) =
      s.setLines { s.lines with inputs := s.lines.inputs.mapIdx fun i r => if i ∈ is then f i r else r } :=
  forEach_modify (set := fun u x => u.setLines { u.lines with inputs := x }) (get := fun u => u.lines.inputs)
    (fun _ _ => rfl) (fun _ _ _ => rfl) (fun _ _ => rfl) (fun _ => rfl) nodup

theorem forEach_modModule (f : Nat → ModuleRec → ModuleRec) {is : List Nat} (nodup : is.Nodup) :
    (s.forEach is fun i u => u.modModule i (f i)) =
      s.setModules (s.modules.mapIdx fun i r => if i ∈ is then f i r else r) :=
  forEach_modify (set := fun u x => u.setModules x) (get := fun u => u.modules)
    (fun _ _ => rfl) (fun _ _ _ => rfl) (fun _ _ => rfl) (fun _ => rfl) nodup

/-- Two changes made for each element agree where they agree on every state that they keep a condition on. -/
theorem foldl_congr_of {α : Type} {Inv : State → Prop} {f g : State → α → State} (agree : ∀ u a, Inv u → f u a = g u a)
    (keeps : ∀ u a, Inv u → Inv (g u a)) : ∀ (l : List α) {s : State}, Inv s → l.foldl f s = l.foldl g s := by
  intro l
  induction l with
  | nil => exact fun _ => rfl
  | cons a l ih =>
    intro s hs
    rw [List.foldl_cons, List.foldl_cons, agree s a hs]
    exact ih (keeps s a hs)

/-! ### The taken load (R169) -/

theorem tableLoaded_frame (s old : State) (c : TableContents) (entry : Option Nat) :
    s.changesOnly (s.tableLoaded old c entry) [.modules, .strings, .envelope, .gate, .grid, .conn, .thermal, .fire,
      .nodes, .fieldPort, .notices, .flags, .lines, .counters] :=
  frame_of fun h => h.tableLoaded (List.Subset.refl _)

theorem takeTable_config (s : State) (c : TableContents) (entry : Option Nat) :
    (s.takeTable c entry).config = (s.putTable c).config ∧ (s.takeTable c entry).engine = (s.putTable c).engine := by
  have loaded := tableLoaded_frame (s.putTable c) s c entry
  have evaluated := changeEval_frame ((s.putTable c).tableLoaded s c entry)
  have config : ((s.putTable c).tableLoaded s c entry).config = _ := loaded .config (by decide)
  have engine : ((s.putTable c).tableLoaded s c entry).engine = _ := loaded .engine (by decide)
  unfold State.takeTable
  dsimp only
  split
  · exact ⟨(evaluated .config (by decide)).trans config, (evaluated .engine (by decide)).trans engine⟩
  · exact ⟨config, engine⟩

theorem answer_loadTable {b : Byte} {bytes : List Byte} {c : TableContents}
    (maint : isProtectedTable b.toNat = true → s.lines.maint.active = true) (table : isTable b.toNat = true)
    (fits : tableLengthOk b.toNat bytes = true) (parsed : parseTable b.toNat bytes = some c) (valid : c.valid = true)
    (idle : ∀ x, c = .t10 x → s.stringSettingsBusy x = false) :
    s.answer 6 (State.loadTable (b :: bytes)) = s.answer 6 fun s => (s.takeTable c none, .ok, .crc c.crc) := by
  refine answer_congr ?_
  have body : State.loadTable (b :: bytes) s.reserving =
      s.reserving.checked (isProtectedTable b.toNat) (tableLengthOk b.toNat bytes) (State.loadContents b.toNat bytes) :=
    if_pos table
  rw [body, checked_of_fits (s := s.reserving) _ maint fits]
  cases c with
  | t10 x =>
    have free : s.reserving.stringSettingsBusy x = false := idle x rfl
    simp [State.loadContents, parsed, valid, free, State.ok]
  | _ => simp [State.loadContents, parsed, valid, State.ok]

theorem answer_loadEntry {b k : Byte} {bytes : List Byte} {c : TableContents}
    (maint : isProtectedTable b.toNat = true → s.lines.maint.active = true) (table : isTable b.toNat = true)
    (fits : entryLengthOk b.toNat bytes = true) (parsed : s.entryResult b.toNat k.toNat bytes = some c) :
    s.answer 7 (State.loadEntry (b :: k :: bytes)) =
      s.answer 7 fun s => (s.takeTable c (some k.toNat), .ok, .crc c.crc) := by
  refine answer_congr ?_
  have body : State.loadEntry (b :: k :: bytes) s.reserving =
      s.reserving.checked (isProtectedTable b.toNat) (entryLengthOk b.toNat bytes) fun s =>
        match s.entryResult b.toNat k.toNat bytes with
        | some c => (s.takeTable c (some k.toNat)).ok (.crc c.crc)
        | none => s.refuse .refusedInvalid := if_pos table
  have parsed_ : s.reserving.entryResult b.toNat k.toNat bytes = some c := parsed
  rw [body, checked_of_fits (s := s.reserving) _ maint fits]
  simp only [parsed_, State.ok]

/-- The answer to a taken load keeps the stored table, its CRC and its fault (R169). -/
theorem answer_takeTable (s : State) (code : Nat) (c : TableContents) (entry : Option Nat) :
    let t := s.answer code fun s => (s.takeTable c entry, .ok, .crc c.crc)
    t.config = (s.putTable c).config ∧ t.engine = (s.putTable c).engine :=
  takeTable_config s.reserving c entry

/-! ### Stages, history and detectors (R107, R113, R150) -/

theorem nodup_filter_range (p : Nat → Bool) (n : Nat) : ((List.range n).filter p).Nodup :=
  nodup_filter p List.nodup_range

theorem clearStages_eq (entry : Option Nat) :
    s.clearStages (entry.elim (List.range 8) fun i => [i]) =
      (s.setGrid { s.grid with stages := s.grid.stages.mapIdx fun i r =>
        if (entry = none ∧ i < 8) ∨ entry = some i then ⟨.clear, none, none⟩ else r }).followStages := by
  have nodup : (entry.elim (List.range 8) fun i => [i]).Nodup := by
    cases entry with
    | none => exact List.nodup_range
    | some i => exact List.pairwise_singleton _ i
  have named : ∀ i, i ∈ (entry.elim (List.range 8) fun i => [i]) ↔ (entry = none ∧ i < 8) ∨ entry = some i := fun i => by
    cases entry <;> simp [eq_comm]
  have cleared := forEach_modStage (s := s) (fun _ _ => .atReset) nodup
  simp only [named] at cleared
  exact congrArg State.followStages cleared

theorem truncateHistory_eq (s : State) :
    s.truncateHistory = s.setConn { s.conn with
      history := if s.tables.t9.tripLimit ≤ s.conn.history.length then
        lastEntries (s.tables.t9.tripLimit - 1) s.conn.history else s.conn.history } := by
  unfold State.truncateHistory State.historyFull
  by_cases full : s.tables.t9.tripLimit ≤ s.conn.history.length
  · simp only [full, decide_true, if_true]
    rfl
  · simp only [full, decide_false, Bool.false_eq_true, if_false]
    rfl

theorem evaluateZones_all (s : State) :
    s.evaluateZones allZones = (List.range 8).foldl (fun t z => t.evaluateZone z) s := by
  unfold State.evaluateZones State.forEach allZones
  rfl

theorem detectorsLoaded_eq (s : State) (before : List DetectorEntry) :
    s.detectorsLoaded before =
      (List.range 8).foldl (fun t z => t.evaluateZone z) (s.setFire { s.fire with
        detectors := s.fire.detectors.mapIdx fun i d =>
          if i < 16 ∧ s.detectorEntry i ≠ before.getD i .builtIn then
            { d with grade := .none, preRun := 0, alarmRun := 0, clearRun := 0 } else d }) := by
  have graded := forEach_modDetector (s := s) (fun _ d => { d.zeroGradeRuns with grade := .none })
    (nodup_filter_range (fun i => s.detectorEntry i != before.getD i .builtIn) 16)
  simp only [List.mem_filter, List.mem_range, bne_iff_ne] at graded
  rw [State.detectorsLoaded, evaluateZones_all]
  exact congrArg (fun t => (List.range 8).foldl (fun t z => t.evaluateZone z) t) graded

/-! ### Nodes (R154) -/

theorem loaded_eq (r : NodeRec) (a b : Option NodeEntry) :
    r.loaded a b =
      if sameNode a b = false then { r with state := .unseen, silenceEnd := none, forwardCounter := 0 }
      else if b.map (·.timeout) = some 0 then { r with silenceEnd := none } else r := by
  unfold NodeRec.loaded
  cases sameNode a b with
  | false => rfl
  | true =>
    simp only [if_true, Bool.true_eq_false, if_false, beq_iff_eq]
    split <;> rfl

/-! ### Lines (R174) -/

theorem hasLine_eq (s : State) (f : LineFunction) :
    s.hasLine f = (List.range 8).any fun i => (s.lineEntry i).function == f := by
  rw [State.hasLine, State.lineOf, Bool.eq_iff_iff, List.find?_isSome, List.any_eq_true]

theorem hasLine_of_config (h : t.config = s.config) (f : LineFunction) : t.hasLine f = s.hasLine f := by
  simp only [State.hasLine, State.lineOf, State.lineEntry, State.tables, h]

theorem breakerLine_open (s : State) :
    s.breakerLine false = if s.conn.feedback = .isOpen then s else s.breakerMoved false := by
  unfold State.breakerLine
  cases s.conn.feedback <;> rfl

theorem breakerReleased_eq (s : State) :
    s.breakerReleased =
      if s.conn.startAdopted = false then
        (if s.hasLine .breakerClosed then s.setConn { s.conn with feedback := .isOpen }
        else s.setConn { s.conn with feedback := .isOpen, startAdopted := true })
      else if s.conn.feedback = .isOpen then s else s.breakerMoved false := by
  unfold State.breakerReleased
  cases s.conn.startAdopted with
  | false => rfl
  | true => exact breakerLine_open s

theorem lineReleased_eq (old : LineEntry) (was : LineState) (s : State) :
    s.lineReleased old was =
      match old.function with
      | .none => s
      | .manualCall | .panelFire => if was == .active then s.fireLineMoved old else s
      | .releaseHold => if was == .active || !s.hasLine .releaseHold then s.resumeCountdowns else s
      | .eStop => if was == .active then s.changeEval else s
      | .breakerClosed =>
        if s.conn.startAdopted = false then
          (if s.hasLine .breakerClosed then s.setConn { s.conn with feedback := .isOpen }
          else s.setConn { s.conn with feedback := .isOpen, startAdopted := true })
        else if s.conn.feedback = .isOpen then s else s.breakerMoved false := by
  unfold State.lineReleased
  cases old.function with
  | breakerClosed => exact breakerReleased_eq s
  | _ => rfl

/-! ### Strings and modules (R25, R41, R56) -/

/-- A clearing of one module, apart from the BLEED SET that it may place (R40, R41). -/
theorem unsent_clearMask_same {cleared : List Nat} {m : Nat} :
    ((s.clearMask cleared m).moduleAt m).unsent =
      { (s.moduleAt m).unsent with mask := if m ∈ cleared then [] else (s.moduleAt m).mask } := by
  have stands : (if m ∈ cleared then [] else (s.moduleAt m).mask) = (s.moduleAt m).mask →
      (s.moduleAt m).unsent = { (s.moduleAt m).unsent with mask := if m ∈ cleared then [] else (s.moduleAt m).mask } :=
    fun h => by rw [h]; rfl
  unfold State.clearMask
  dsimp only
  split
  · rename_i bleeds
    obtain ⟨named, mask⟩ := Bool.and_eq_true_iff.mp bleeds
    have there : m < s.modules.length := by
      refine Nat.lt_of_not_le fun beyond => ?_
      have empty : (s.moduleAt m).mask = [] := by simp [State.moduleAt, beyond, ModuleRec.atReset]
      rw [empty] at mask
      exact Bool.noConfusion mask
    rw [unsent_placeBleedSet, moduleAt_modModule_same _ there, if_pos (List.contains_iff_mem.mp named)]
    rfl
  · rename_i still
    have same : (if m ∈ cleared then [] else (s.moduleAt m).mask) = (s.moduleAt m).mask := by
      split
      · rename_i named
        exact (by simpa [named] using still : (s.moduleAt m).mask = []).symm
      · rfl
    split
    · rw [unsent_placeBleedSet]
      exact stands same
    · exact stands same

theorem unsent_clearMask_other {cleared : List Nat} {m k : Nat} (h : m ≠ k) :
    ((s.clearMask cleared m).moduleAt k).unsent = (s.moduleAt k).unsent := by
  unfold State.clearMask
  dsimp only
  split
  · rw [unsent_placeBleedSet, moduleAt_modModule_other _ (Ne.symm h)]
  · split
    · exact unsent_placeBleedSet m k
    · rfl

/-- A clearing empties the masks that it names, and no other (R41). -/
theorem unsent_clearMasks {cleared : List Nat} {m : Nat} (hm : m < 48) :
    ((s.clearMasks cleared).moduleAt m).unsent =
      { (s.moduleAt m).unsent with mask := if m ∈ cleared then [] else (s.moduleAt m).mask } := by
  have once := forEach_once (Inv := fun _ => True) (view := fun u => (u.moduleAt m).unsent)
    (want := fun r => { r with mask := if m ∈ cleared then [] else r.mask }) (f := State.clearMask cleared) (m := m)
    (fun _ _ _ => trivial) (fun _ _ => unsent_clearMask_same) (fun _ _ hi _ => unsent_clearMask_other hi)
    (s := s) (List.nodup_range (n := 48)) trivial
  exact once.trans (if_pos (List.mem_range.mpr hm))

/-- A string whose capacity a load changes (R56). -/
def StringRec.recapped (capacityAh : Nat) (r : StringRec) : StringRec :=
  { r with charge := { r.charge.recapped capacityAh with uncalibrated := true } }

theorem strings_recap {i j : Nat} (cap : Nat) :
    ((s.modCharge i fun r => r.recapped cap).uncalibrate i).strings[j]? =
      if i = j then s.strings[j]?.map (StringRec.recapped cap) else s.strings[j]? := by
  rcases Nat.lt_or_ge i s.strings.length with h | h
  · have inside : i < (s.modCharge i fun r => r.recapped cap).strings.length := by
      simpa [State.modCharge, State.modString] using h
    rw [uncalibrate_strings inside, List.getElem?_modify]
    have charged : (s.modCharge i fun r => r.recapped cap).strings[j]? = _ := List.getElem?_modify ..
    rw [charged]
    by_cases same : i = j
    · simp only [if_pos same]
      cases s.strings[j]? <;> rfl
    · simp only [if_neg same]
      cases s.strings[j]? <;> rfl
  · have charged : (s.modCharge i fun r => r.recapped cap).strings = s.strings := List.modify_eq_self h
    have frame : ((s.modCharge i fun r => r.recapped cap).uncalibrate i).strings = s.strings := by
      unfold State.uncalibrate
      split
      · exact charged
      · rw [raise_strings]
        exact (List.modify_eq_self (charged.symm ▸ h)).trans charged
    rw [frame]
    split
    · subst j
      rw [List.getElem?_eq_none h]
      rfl
    · rfl

/-- The modules whose masks a T10 load clears (R41). -/
def State.unmasked (s old : State) : List Nat :=
  (List.range 48).filter fun m =>
    ((old.stringEntry (stringOf m)).inUse && !(s.stringEntry (stringOf m)).inUse) ||
      (old.stringEntry (stringOf m)).cells != (s.stringEntry (stringOf m)).cells

/-- The modules that a T10 load takes out of use (R25). -/
def State.retired (s old : State) : List Nat :=
  (List.range 48).filter fun m => old.moduleInUse m && !s.moduleInUse m

/-- The state in which a T10 load has emptied histories (R25). -/
def State.emptied (s old : State) : State :=
  s.forEach (s.retired old) fun m s => s.modModule m fun r => { r with history := [] }

/-- The state in which a T10 load has emptied histories and masks. -/
def State.unloaded (s old : State) : State :=
  if ((s.emptied old).unmasked old).isEmpty then s.emptied old else (s.emptied old).clearMasks ((s.emptied old).unmasked old)

/-- The capacity of a string over a T10 load (R56). -/
def State.recap (i : Nat) (s : State) : State :=
  (s.modCharge i fun r => r.recapped (s.stringEntry i).capacityAh).uncalibrate i

theorem stringsLoaded_eq (s old : State) :
    s.stringsLoaded old =
      (s.unloaded old).forEach ((List.range 4).filter fun i =>
        (old.stringEntry i).capacityAh != ((s.unloaded old).stringEntry i).capacityAh) State.recap := rfl

theorem emptied_eq (s old : State) :
    s.emptied old = s.setModules (s.modules.mapIdx fun m r => if m ∈ s.retired old then { r with history := [] } else r) :=
  forEach_modModule (fun _ r => { r with history := [] }) (nodup_filter_range _ 48)

theorem emptied_config (s old : State) : (s.emptied old).config = s.config := by rw [emptied_eq]; rfl

theorem unloaded_frame (s old : State) : (s.emptied old).changesOnly (s.unloaded old) [.modules, .fieldPort, .counters] := by
  unfold State.unloaded
  split
  · exact State.changesOnly_refl _ _
  · exact clearMasks_frame _ _

theorem unloaded_config (s old : State) : (s.unloaded old).config = s.config :=
  (unloaded_frame s old .config (by decide)).trans (emptied_config s old)

theorem unloaded_strings (s old : State) : (s.unloaded old).strings = s.strings := by
  have strings : (s.emptied old).strings = s.strings := by rw [emptied_eq]; rfl
  exact (unloaded_frame s old .strings (by decide)).trans strings

theorem unsent_unloaded (s old : State) {m : Nat} (hm : m < 48) :
    ((s.unloaded old).moduleAt m).unsent = { ((s.emptied old).moduleAt m).unsent with
      mask := if m ∈ (s.emptied old).unmasked old then [] else ((s.emptied old).moduleAt m).mask } := by
  unfold State.unloaded
  split
  · rename_i none_
    rw [if_neg (by simp [List.isEmpty_iff.mp none_])]
    rfl
  · exact unsent_clearMasks hm

theorem recap_frame (i : Nat) (s : State) : s.changesOnly (s.recap i) [.strings, .notices, .counters] :=
  frame_of fun h hs => h.uncalibrate (by decide) (h.modCharge (by decide) hs)

theorem stringsLoaded_rest (s old : State) :
    (s.unloaded old).changesOnly (s.stringsLoaded old) [.strings, .notices, .counters] := by
  rw [stringsLoaded_eq]
  exact frame_of fun h hs => h.forEach (fun i u hs => h.uncalibrate (by decide) (h.modCharge (by decide) hs)) hs

/-- A string over a T10 load: one whose capacity the load changes takes its new Q_cap, Q and SOC, uncalibrated (R56). -/
theorem strings_stringsLoaded (s old : State) (i : Nat) :
    (s.stringsLoaded old).strings[i]? =
      if i < 4 ∧ (old.stringEntry i).capacityAh ≠ (s.stringEntry i).capacityAh then
        s.strings[i]?.map (StringRec.recapped (s.stringEntry i).capacityAh) else s.strings[i]? := by
  have entry : ∀ (u : State) j, u.config = s.config → (u.stringEntry j).capacityAh = (s.stringEntry j).capacityAh :=
    fun u j h => by rw [stringEntry_of_config h]
  have once := forEach_once (Inv := fun u => u.config = s.config) (view := fun u => u.strings[i]?)
    (want := fun r => r.map (StringRec.recapped (s.stringEntry i).capacityAh)) (f := State.recap) (m := i)
    (fun j u hu => (recap_frame j u .config (by decide)).trans hu)
    (fun u hu => by
      rw [← entry u i hu]
      exact (strings_recap _).trans (if_pos rfl))
    (fun j u hj _ => (strings_recap _).trans (if_neg hj))
    (l := (List.range 4).filter fun i => (old.stringEntry i).capacityAh != ((s.unloaded old).stringEntry i).capacityAh)
    (nodup_filter_range _ 4) (unloaded_config s old)
  rw [stringsLoaded_eq]
  refine once.trans ?_
  simp only [unloaded_strings, List.mem_filter, List.mem_range, bne_iff_ne, entry _ i (unloaded_config s old)]

theorem mem_retired {s old : State} {m : Nat} (hm : m < 48) :
    m ∈ s.retired old ↔ old.moduleInUse m = true ∧ s.moduleInUse m = false := by
  simp [State.retired, hm]

theorem mem_unmasked {s old : State} {m : Nat} (hm : m < 48) :
    m ∈ s.unmasked old ↔
      ((old.stringEntry (m / 12)).inUse = true ∧ (s.stringEntry (m / 12)).inUse = false) ∨
        (old.stringEntry (m / 12)).cells ≠ (s.stringEntry (m / 12)).cells := by
  simp [State.unmasked, hm, stringOf]

/-- A module over a T10 load: its mask is emptied where its string goes out of use or changes its cells, and its history
where it goes out of use itself (R25, R41). -/
theorem modules_stringsLoaded (s old : State) {m : Nat} {r k : ModuleRec} (hm : m < 48) (hr : s.modules[m]? = some r)
    (hk : (s.stringsLoaded old).modules[m]? = some k) :
    k.cells = r.cells ∧ k.quality = r.quality ∧
      k.mask = (if ((old.stringEntry (m / 12)).inUse = true ∧ (s.stringEntry (m / 12)).inUse = false) ∨
        (old.stringEntry (m / 12)).cells ≠ (s.stringEntry (m / 12)).cells then [] else r.mask) ∧
      k.history = (if old.moduleInUse m = true ∧ s.moduleInUse m = false then [] else r.history) := by
  have after : (s.stringsLoaded old).moduleAt m = k := by simp [State.moduleAt, hk]
  have before : (s.emptied old).moduleAt m = if m ∈ s.retired old then { r with history := [] } else r := by
    rw [emptied_eq]
    simp [State.moduleAt, hr]
  have unsent := unsent_unloaded s old hm
  rw [← moduleAt_of_modules (stringsLoaded_rest s old .modules (by decide)), after, before] at unsent
  have unmasked : m ∈ (s.emptied old).unmasked old ↔ _ := mem_unmasked hm
  rw [stringEntry_of_config (emptied_config s old)] at unmasked
  have mask : k.mask = if m ∈ (s.emptied old).unmasked old then [] else
      (if m ∈ s.retired old then { r with history := [] } else r).mask := congrArg ModuleRec.mask unsent
  have kept : ∀ {β : Type} (f : ModuleRec → β), (∀ r, f { r with history := [] } = f r) →
      f (if m ∈ s.retired old then { r with history := [] } else r) = f r := fun f hf => by
    split
    · exact hf r
    · rfl
  refine ⟨(congrArg ModuleRec.cells unsent).trans (kept ModuleRec.cells fun _ => rfl),
    (congrArg ModuleRec.quality unsent).trans (kept ModuleRec.quality fun _ => rfl), ?_, ?_⟩
  · rw [mask, kept ModuleRec.mask fun _ => rfl]
    exact ite_of_iff unmasked rfl rfl
  · refine (congrArg ModuleRec.history unsent).trans ?_
    show (if m ∈ s.retired old then { r with history := [] } else r).history = _
    rw [apply_ite ModuleRec.history]
    exact ite_of_iff (mem_retired hm) rfl rfl

/-! ### The theorem -/

theorem nodesLoaded_eq (s : State) (before : List (Option NodeEntry)) (kept : Nat → Bool)
    (h : ∀ i, kept i = sameNode (before.getD i none) (s.nodeEntry i)) :
    s.nodesLoaded before =
      ((List.range 64).filterMap fun i =>
        if (s.nodeAt i).state = .live ∧ kept i = false then before.getD i none else none).foldl
        (fun t e => t.silenceEffects e.role e.recordIndex)
        (s.setNodes (s.nodes.mapIdx fun i r =>
          if kept i = false then { r with state := .unseen, silenceEnd := none, forwardCounter := 0 }
          else if (s.nodeEntry i).map (·.timeout) = some 0 then { r with silenceEnd := none } else r)) := by
  unfold State.nodesLoaded
  simp only [loaded_eq, ← h, Bool.and_eq_true, beq_iff_eq, Bool.not_eq_true']

/-- The state of the lines over a T15 load (R174). -/
theorem linesLoaded_eq (s : State) (before : List LineEntry) :
    s.linesLoaded before =
      let changed := (List.range 8).filter fun i => (before.getD i .builtIn).changes (s.lineEntry i)
      changed.foldl (fun t i => t.lineReleased (before.getD i .builtIn) (s.lineAt i).state)
        (s.setLines { s.lines with inputs := s.lines.inputs.mapIdx fun i r =>
          if i ∈ changed then { r with state := .unknown, since := s.time } else r }) := by
  have afresh := forEach_modLine (s := s) (fun _ r => { r with state := .unknown, since := s.time })
    (nodup_filter_range (fun i => (before.getD i .builtIn).changes (s.lineEntry i)) 8)
  unfold State.linesLoaded
  dsimp only
  rw [afresh]
  rfl

/-- A load of T1 to T7 or T11 brings nothing more (R169). -/
theorem tableLoaded_of_plain {old : State} {c : TableContents} {entry : Option Nat} (h : c.number ≤ 7 ∨ c.number = 11) :
    s.tableLoaded old c entry = s := by
  cases c with
  | t1 | t2 | t3 | t4 | t5 | t6 | t7 | t11 => rfl
  | t8 | t9 | t10 | t12 | t13 | t14 | t15 | t16 => simp [TableContents.number] at h

theorem watchReconnect_of_calm (h : s.conn.state ≠ .reconnectTiming) : s.watchReconnect = s :=
  if_neg (by simp [h])

/-- Settles O37, from the stored table and what the new contents of each table bring. -/
theorem takenLoadReplacesTheTable : Obligations.TakenLoadReplacesTheTable := by
  refine ⟨?_, ?_⟩
  · intro s b bytes c takes crcs faulted maint table number a i stored
    have same := requestArrives_frame s
    have config : a.config = s.config := same .config (by decide)
    have engine : a.engine = s.engine := same .engine (by decide)
    have active : isProtectedTable b.toNat = true → a.lines.maint.active = true := fun h =>
      (congrArg (fun l : Lines => l.maint.active) (same .lines (by decide) : a.lines = s.lines)).trans (maint h)
    have inside : i < 16 := by
      simp only [isTable, Bool.and_eq_true, decide_eq_true_iff] at table
      omega
    have keeps : ∀ t : State, t.config = (a.putTable c).config → t.engine = (a.putTable c).engine → stored t := by
      intro t htc hte
      have table_ : t.config = { s.config with
          tables := s.config.tables.put c, crcs := s.config.crcs.set i c.crc, faulted := s.config.faulted.set i false } := by
        have put_ : (a.putTable c).config = { a.config with
            tables := a.config.tables.put c, crcs := a.config.crcs.set (c.number - 1) c.crc
            faulted := a.config.faulted.set (c.number - 1) false } := rfl
        rw [htc, put_, config, number]
      refine ⟨(congrArg ConfigStore.tables table_ :), (congrArg ConfigStore.params table_ :), ?_, ?_, fun j hj => ⟨?_, ?_⟩, ?_⟩
      · rw [table_]
        exact List.getElem?_set_self (by omega)
      · rw [table_]
        exact List.getElem?_set_self (by omega)
      · rw [table_]
        exact List.getElem?_set_ne (Ne.symm hj)
      · rw [table_]
        exact List.getElem?_set_ne (Ne.symm hj)
      · rw [hte, ← engine]
        rfl
    refine ⟨fun fits parsed valid idle => ?_, fun k fits parsed => ?_⟩
    · have idle_ : ∀ x, c = .t10 x → a.stringSettingsBusy x = false := fun x hx => by
        have strings : a.strings = s.strings := same .strings (by decide)
        simp only [State.stringSettingsBusy, stringEntry_of_config config, stringAt_of_strings strings]
        exact idle x hx
      refine ⟨_, (exec_answer takes rfl rfl).trans (congrArg _ (answer_loadTable active table fits parsed valid idle_)), rfl, ?_⟩
      exact keeps _ (answer_takeTable a 6 c none).1 (answer_takeTable a 6 c none).2
    · have parsed_ : a.entryResult b.toNat k.toNat bytes = some c := by
        simp only [State.entryResult, State.tables, config]
        exact parsed
      refine ⟨_, (exec_answer takes rfl rfl).trans (congrArg _ (answer_loadEntry active table fits parsed_)), rfl, ?_⟩
      exact keeps _ (answer_takeTable a 7 c _).1 (answer_takeTable a 7 c _).2
  · intro s c entry put u zones
    have put_eq : s.putTable c = put := rfl
    have u_eq : (s.putTable c).tableLoaded s c entry = u := rfl
    refine ⟨?_, fun h => ?_, fun x hx => ?_, fun x hx => ?_, fun x hx => ⟨fun i r k hr hk => ?_, fun m r k hm hr hk => ?_, ?_⟩,
      fun x hx => ?_, fun x hx => ?_, fun x hx => ?_, fun x hx => ?_, fun x hx => ?_⟩
    · unfold State.takeTable
      dsimp only
      simp only [Bool.and_eq_true, Bool.not_eq_true']
      rfl
    · exact tableLoaded_of_plain h
    · subst hx
      exact clearStages_eq (s := put) entry
    · subst hx
      intro kept
      have watched : u = (put.setConn { s.conn with history := kept }).watchReconnect :=
        congrArg State.watchReconnect (truncateHistory_eq put)
      refine ⟨watched, fun calm => ?_⟩
      have still : u = _ := watched.trans (watchReconnect_of_calm calm)
      rw [still]
      rfl
    · subst hx
      have string := strings_stringsLoaded put s i
      have loaded : u.strings[i]? = some k := hk
      rw [show u.strings[i]? = _ from string, show put.strings[i]? = some r from hr] at loaded
      intro cap q changed
      by_cases h : changed
      · rw [if_pos h] at loaded ⊢
        exact (Option.some.inj loaded).symm
      · rw [if_neg h] at loaded ⊢
        exact (Option.some.inj loaded).symm
    · subst hx
      exact modules_stringsLoaded put s hm hr hk
    · subst hx
      have frame : put.changesOnly (put.stringsLoaded s) [.strings, .modules, .fieldPort, .notices, .counters] :=
        frame_of fun h => h.stringsLoaded (by decide)
      exact frame
    · subst hx
      exact detectorsLoaded_eq put s.tables.t12
    · subst hx
      exact evaluateZones_all put
    · subst hx
      intro kept lost unsupervised nodes
      refine nodesLoaded_eq put s.tables.t14 kept fun i => ?_
      show (match s.nodeEntry i, put.nodeEntry i with
        | none, none => true
        | some p, some q => p.address == q.address && p.role == q.role && p.recordIndex == q.recordIndex
        | _, _ => false) = sameNode (s.nodeEntry i) (put.nodeEntry i)
      cases s.nodeEntry i <;> cases put.nodeEntry i <;> rfl
    · subst hx
      intro changed held inputs afresh released
      have lines : u = changed.foldl (fun t i => t.lineReleased (s.lineEntry i) (s.lineAt i).state) afresh :=
        linesLoaded_eq put s.tables.t15
      have agree : ∀ (t : State) (i : Nat), t.config = put.config →
          t.lineReleased (s.lineEntry i) (s.lineAt i).state = released t i := by
        intro t i ht
        have line : ∀ f, t.hasLine f = held f := fun f => (hasLine_of_config ht f).trans (hasLine_eq put f)
        have eq := lineReleased_eq (s.lineEntry i) (s.lineAt i).state t
        rw [line, line] at eq
        exact eq
      have keeps : ∀ (t : State) (i : Nat), t.config = put.config → (released t i).config = put.config := by
        intro t i ht
        have frame : t.changesOnly (t.lineReleased (s.lineEntry i) (s.lineAt i).state) [.modules, .strings, .envelope, .gate,
            .conn, .thermal, .fire, .fieldPort, .notices, .flags, .counters] :=
          frame_of fun h => h.lineReleased (List.Subset.refl _)
        rw [← agree t i ht]
        exact (frame .config (by decide)).trans ht
      rw [lines]
      exact foldl_congr_of (Inv := fun t => t.config = put.config) agree keeps changed rfl
    · subst hx
      rfl

end Sys2Proof.Machine
end

section
/-! PROOF of O42: START ROUND and STOP ROUND (R4, R5, R12, R15). -/

namespace Sys2Proof.Machine

variable {s t : State}

/-! ### START ROUND (R4, R5) -/

theorem isAtRest_iff (p : RoundPhase) : p.isAtRest = true ↔ p = .idle ∨ p = .suspended := by
  cases p <;> decide

theorem quietOption_of_le {n : Nat} (h : n ≤ 1) : quietOption n = decide (n = 1) := by
  have zeroOrOne : n = 0 ∨ n = 1 := by omega
  rcases zeroOrOne with rfl | rfl <;> rfl

/-- The checks of START ROUND, in their order (R4). -/
theorem startRound_reserving (s : State) (k i q : Byte) :
    State.startRound [k, i, q] s.reserving =
      let scope := scopeOf k.toNat i.toNat
      let quiet := quietOption q.toNat && s.supply.mode == .normal
      if ¬s.rounds.phase.isAtRest = true then s.reserving.refuse .refusedBusy
      else if s.scopeInUse scope = false then s.reserving.refuse .refusedInvalid
      else if (s.expectedSet scope).isEmpty = true then s.reserving.refuse .refusedState
      else (s.reserving.beginRound scope quiet).ok (.round scope quiet) := by
  have body : State.startRound [k, i, q] s.reserving =
      (if !s.rounds.phase.isAtRest then s.reserving.refuse .refusedBusy
      else if !s.scopeInUse (scopeOf k.toNat i.toNat) then s.reserving.refuse .refusedInvalid
      else if (s.expectedSet (scopeOf k.toNat i.toNat)).isEmpty then s.reserving.refuse .refusedState
      else (s.reserving.beginRound (scopeOf k.toNat i.toNat) (quietOption q.toNat && s.supply.mode == .normal)).ok
        (.round (scopeOf k.toNat i.toNat) (quietOption q.toNat && s.supply.mode == .normal))) := rfl
  rw [body]
  simp only [Bool.not_eq_true', Bool.not_eq_true]

theorem answer_startRound_busy {k i q : Byte} (h : ¬s.rounds.phase.isAtRest = true) :
    s.answer 13 (State.startRound [k, i, q]) = s.withResponse 13 .refusedBusy .none :=
  answer_of_same ((startRound_reserving s k i q).trans (if_pos h))

theorem answer_startRound_invalid {k i q : Byte} (rest : s.rounds.phase.isAtRest = true)
    (h : s.scopeInUse (scopeOf k.toNat i.toNat) = false) :
    s.answer 13 (State.startRound [k, i, q]) = s.withResponse 13 .refusedInvalid .none :=
  answer_of_same ((startRound_reserving s k i q).trans ((if_neg fun no => no rest).trans (if_pos h)))

theorem answer_startRound_empty {k i q : Byte} (rest : s.rounds.phase.isAtRest = true)
    (used : s.scopeInUse (scopeOf k.toNat i.toNat) = true) (h : s.expectedSet (scopeOf k.toNat i.toNat) = []) :
    s.answer 13 (State.startRound [k, i, q]) = s.withResponse 13 .refusedState .none := by
  refine answer_of_same ((startRound_reserving s k i q).trans ?_)
  dsimp only
  rw [if_neg fun no => no rest, if_neg (by rw [used]; decide), h]
  rfl

theorem answer_startRound_begins {k i q : Byte} {scope : Scope} (rest : s.rounds.phase.isAtRest = true)
    (named : scopeOf k.toNat i.toNat = scope) (used : s.scopeInUse scope = true) (some_ : s.expectedSet scope ≠ [])
    (option : q.toNat ≤ 1) :
    s.answer 13 (State.startRound [k, i, q]) = s.answer 13 fun u =>
      (u.beginRound scope (decide (q.toNat = 1) && decide (s.supply.mode = .normal)), .ok,
        .round scope (decide (q.toNat = 1) && decide (s.supply.mode = .normal))) := by
  refine answer_congr ((startRound_reserving s k i q).trans ?_)
  dsimp only
  rw [if_neg fun no => no rest, named, if_neg (by rw [used]; decide), if_neg (by simpa using some_), quietOption_of_le option]
  rfl

theorem expectedSet_all (s : State) : s.expectedSet .all = s.modulesInUse := List.filter_eq_self.mpr fun _ _ => rfl

theorem mem_modulesInUse (s : State) (m : Nat) : m ∈ s.modulesInUse ↔ m < 48 ∧ s.moduleInUse m = true := by
  rw [State.modulesInUse, List.mem_filter, List.mem_range]

theorem mem_modulesOf (s : State) (i m : Nat) : m ∈ s.modulesOf i ↔ m / 12 = i ∧ s.moduleInUse m = true := by
  rw [State.modulesOf, List.mem_filter, List.mem_map]
  refine and_congr_left fun _ => ⟨?_, fun h => ⟨m % 12, List.mem_range.mpr (Nat.mod_lt _ (by decide)), by omega⟩⟩
  rintro ⟨k, hk, rfl⟩
  have := List.mem_range.mp hk
  omega

theorem expectedSet_string_eq_nil {i : Nat} (hi : i ≤ 3) : s.expectedSet (.string i) = [] ↔ s.modulesOf i = [] := by
  simp only [List.eq_nil_iff_forall_not_mem, mem_modulesOf, State.expectedSet, List.mem_filter, mem_modulesInUse]
  refine forall_congr' fun m => not_congr ?_
  constructor
  · rintro ⟨⟨_, used⟩, covers⟩
    exact ⟨beq_iff_eq.mp covers, used⟩
  · rintro ⟨of, used⟩
    exact ⟨⟨by omega, used⟩, beq_iff_eq.mpr of⟩

theorem expectedSet_module_ne_nil {m : Nat} (hm : m ≤ 47) (used : s.moduleInUse m = true) : s.expectedSet (.module m) ≠ [] := by
  refine List.ne_nil_of_mem (a := m) (List.mem_filter.mpr ⟨(mem_modulesInUse s m).mpr ⟨by omega, used⟩, ?_⟩)
  exact beq_self_eq_true m

/-! ### STOP ROUND (R15) -/

theorem stopRound_of_rest (h : s.rounds.phase.isAtRest = true) : s.stopRound = s := by
  rcases (isAtRest_iff _).mp h with h | h <;> simp only [State.stopRound, h]

theorem stopRound_of_open {o : OpenRound} (h : s.rounds.phase = .collecting ∨ s.rounds.phase = .quietSettle)
    (open_ : s.rounds.openRound = some o) :
    s.stopRound = (s.setCounters { s.counters with roundsAborted := inc16 s.counters.roundsAborted }).closeRound o false := by
  rcases h with h | h <;> simp only [State.stopRound, h, State.abortRound, open_, State.countAborted, State.count]

theorem stopRound_of_waking (h : s.rounds.phase = .waking) : s.stopRound = s.abandonWaking := by
  simp only [State.stopRound, h]

theorem wakeWaiting_iff {o : OpenRound} (open_ : s.rounds.openRound = some o) :
    s.wakeWaiting = true ↔ ∃ p ∈ s.fieldPort.normal, p.frame.kind = kindWakeCall ∧ p.round = some o.serial := by
  simp only [State.wakeWaiting, List.any_eq_true, open_, Option.map_some, Bool.and_eq_true, beq_iff_eq]
  refine exists_congr fun p => and_congr_right fun _ => ?_
  constructor
  · rintro ⟨⟨kind, _⟩, own⟩
    exact ⟨kind, own⟩
  · rintro ⟨kind, own⟩
    exact ⟨⟨kind, by rw [own]; rfl⟩, own⟩

/-- The round context after a round abandoned in WAKING (R15). -/
def State.roundLeft (s u : State) (p : RoundPhase) (pending : Bool) : State :=
  u.setRounds { s.rounds with phase := p, openRound := none, wakePending := pending }

theorem abandonWaking_of_waiting {o : OpenRound} (open_ : s.rounds.openRound = some o) (h : s.wakeWaiting = true) :
    s.abandonWaking = s.roundLeft s.countAborted (if o.cameSuspended then .suspended else .idle) s.rounds.wakePending := by
  simp only [State.abandonWaking, h, open_, if_true, Option.map_some, Option.some_beq_some, beq_true]
  rfl

theorem abandonWaking_of_normal (h : s.wakeWaiting = false) (mode : s.supply.mode = .normal) :
    s.abandonWaking = s.roundLeft s.countAborted .idle false := by
  simp only [State.abandonWaking, h, mode, Bool.false_eq_true, if_false]
  rfl

/-- The SLEEP CALL of an open round (R12). -/
def State.sleepCall (s : State) (serial : Nat) : Placed := ⟨⟨127, s.sys.address, kindSleepCall, []⟩, some serial⟩

theorem roundFrame_sleepCall {o : OpenRound} (open_ : s.rounds.openRound = some o) :
    s.roundFrame kindSleepCall [] = s.sleepCall o.serial := by
  rw [State.roundFrame, open_]
  rfl

/-- A frame that supersedes none is admitted to NORMAL while a place is free (R160). -/
theorem admits_iff_of_plain {port : FieldPort} {p : Placed} (h : supersedable p.frame.kind = false) :
    port.admits p = true ↔ port.normalUsed < 32 := by
  rw [admits_iff, h]
  exact or_iff_right fun yes => Bool.noConfusion yes.1

theorem placeRoundFrame_of_free {p : Placed} (h : supersedable p.frame.kind = false) (free : s.fieldPort.normalUsed < 32) :
    s.placeRoundFrame p = s.setFieldPort { s.fieldPort with normal := s.fieldPort.normal ++ [p] } :=
  (if_pos ((admits_iff_of_plain h).mpr free)).trans
    (placeNormal_of_joins (fun yes => Bool.noConfusion (h.symm.trans yes.1)) free)

theorem placeRoundFrame_of_full {p : Placed} (h : supersedable p.frame.kind = false) (full : 32 ≤ s.fieldPort.normalUsed) :
    s.placeRoundFrame p = s.setCounters { s.counters with
      fieldNormalRefused := inc16 s.counters.fieldNormalRefused
      roundFramesLost := inc16 s.counters.roundFramesLost } := by
  have refused : ¬s.fieldPort.admits p = true := fun yes => Nat.not_lt.mpr full ((admits_iff_of_plain h).mp yes)
  rw [State.placeRoundFrame, if_neg refused,
    placeNormal_of_refused (fun yes => Bool.noConfusion (h.symm.trans yes.1)) full]
  rfl

theorem abandonWaking_of_holdup {o : OpenRound} (open_ : s.rounds.openRound = some o) (h : s.wakeWaiting = false)
    (mode : s.supply.mode = .holdup) :
    s.abandonWaking = (s.countAborted.placeRoundFrame (s.sleepCall o.serial)).endRound .suspended := by
  simp only [State.abandonWaking, h, mode, Bool.false_eq_true, if_false, roundFrame_sleepCall open_]

theorem abandonWaking_of_holdup_free {o : OpenRound} (open_ : s.rounds.openRound = some o) (h : s.wakeWaiting = false)
    (mode : s.supply.mode = .holdup) (free : s.fieldPort.normalUsed < 32) :
    s.abandonWaking = s.roundLeft (s.countAborted.setFieldPort { s.fieldPort with
      normal := s.fieldPort.normal ++ [s.sleepCall o.serial] }) .suspended s.rounds.wakePending := by
  have placed := placeRoundFrame_of_free (s := s.countAborted) (p := s.sleepCall o.serial) rfl free
  rw [abandonWaking_of_holdup open_ h mode, placed]
  rfl

theorem abandonWaking_of_holdup_full {o : OpenRound} (open_ : s.rounds.openRound = some o) (h : s.wakeWaiting = false)
    (mode : s.supply.mode = .holdup) (full : 32 ≤ s.fieldPort.normalUsed) :
    s.abandonWaking = s.roundLeft (s.countAborted.setCounters { s.countAborted.counters with
      fieldNormalRefused := inc16 s.counters.fieldNormalRefused
      roundFramesLost := inc16 s.counters.roundFramesLost }) .suspended s.rounds.wakePending := by
  have placed := placeRoundFrame_of_full (s := s.countAborted) (p := s.sleepCall o.serial) rfl full
  rw [abandonWaking_of_holdup open_ h mode, placed]
  rfl

/-- The answer to a STOP ROUND, from what it does to the state on which it runs. -/
theorem answer_stopRound (h : s.reserving.stopRound = t.setStationPort s.reserving.stationPort)
    (port : t.stationPort = s.stationPort) : s.answer 14 (State.stopRoundRequest []) = t.withResponse 14 .ok .none :=
  answer_of (congrArg (fun u => (u, Status.ok, ResultData.none)) h) port

theorem answer_stopRound_rest (h : s.rounds.phase.isAtRest = true) :
    s.answer 14 (State.stopRoundRequest []) = s.withResponse 14 .ok .none :=
  answer_stopRound (stopRound_of_rest (s := s.reserving) h) rfl

theorem answer_stopRound_open {o : OpenRound} (h : s.rounds.phase = .collecting ∨ s.rounds.phase = .quietSettle)
    (open_ : s.rounds.openRound = some o) :
    s.answer 14 (State.stopRoundRequest []) = s.answer 14 fun u =>
      ((u.setCounters { u.counters with roundsAborted := inc16 u.counters.roundsAborted }).closeRound o false, .ok, .none) :=
  answer_congr (congrArg (fun u => (u, Status.ok, ResultData.none)) (stopRound_of_open (s := s.reserving) h open_))

theorem answer_stopRound_waiting {o : OpenRound} (h : s.rounds.phase = .waking) (open_ : s.rounds.openRound = some o)
    (waits : s.wakeWaiting = true) :
    s.answer 14 (State.stopRoundRequest []) =
      (s.roundLeft s.countAborted (if o.cameSuspended then .suspended else .idle) s.rounds.wakePending).withResponse 14 .ok
        .none :=
  answer_stopRound ((stopRound_of_waking (s := s.reserving) h).trans
    ((abandonWaking_of_waiting (s := s.reserving) open_ waits).trans rfl)) rfl

theorem answer_stopRound_normal (h : s.rounds.phase = .waking) (waits : s.wakeWaiting = false)
    (mode : s.supply.mode = .normal) :
    s.answer 14 (State.stopRoundRequest []) = (s.roundLeft s.countAborted .idle false).withResponse 14 .ok .none :=
  answer_stopRound ((stopRound_of_waking (s := s.reserving) h).trans
    ((abandonWaking_of_normal (s := s.reserving) waits mode).trans rfl)) rfl

theorem answer_stopRound_holdup_free {o : OpenRound} (h : s.rounds.phase = .waking) (open_ : s.rounds.openRound = some o)
    (waits : s.wakeWaiting = false) (mode : s.supply.mode = .holdup) (free : s.fieldPort.normalUsed < 32) :
    s.answer 14 (State.stopRoundRequest []) =
      (s.roundLeft (s.countAborted.setFieldPort { s.fieldPort with
        normal := s.fieldPort.normal ++ [s.sleepCall o.serial] }) .suspended s.rounds.wakePending).withResponse 14 .ok .none :=
  answer_stopRound ((stopRound_of_waking (s := s.reserving) h).trans
    ((abandonWaking_of_holdup_free (s := s.reserving) open_ waits mode free).trans rfl)) rfl

theorem answer_stopRound_holdup_full {o : OpenRound} (h : s.rounds.phase = .waking) (open_ : s.rounds.openRound = some o)
    (waits : s.wakeWaiting = false) (mode : s.supply.mode = .holdup) (full : 32 ≤ s.fieldPort.normalUsed) :
    s.answer 14 (State.stopRoundRequest []) =
      (s.roundLeft (s.countAborted.setCounters { s.countAborted.counters with
        fieldNormalRefused := inc16 s.counters.fieldNormalRefused
        roundFramesLost := inc16 s.counters.roundFramesLost }) .suspended s.rounds.wakePending).withResponse 14 .ok .none :=
  answer_stopRound ((stopRound_of_waking (s := s.reserving) h).trans
    ((abandonWaking_of_holdup_full (s := s.reserving) open_ waits mode full).trans rfl)) rfl

/-- Settles O42, from the checks of START ROUND and the ends that STOP ROUND gives. -/
theorem roundRequestsBeginAndStopRounds : Obligations.RoundRequestsBeginAndStopRounds := by
  intro s takes a rest begins refused
  have same := requestArrives_frame s
  have config : a.config = s.config := same .config (by decide)
  have rounds : a.rounds = s.rounds := same .rounds (by decide)
  have supply : a.supply = s.supply := same .supply (by decide)
  have field : a.fieldPort = s.fieldPort := same .fieldPort (by decide)
  have sys : a.sys = s.sys := same .sys (by decide)
  have inUse : a.moduleInUse = s.moduleInUse := funext fun m => by
    simp only [State.moduleInUse, stringEntry_of_config config]
  have slots : a.modulesInUse = s.modulesInUse := by simp only [State.modulesInUse, inUse]
  have ofString : ∀ i, a.modulesOf i = s.modulesOf i := fun i => by simp only [State.modulesOf, inUse]
  have entry : ∀ i, a.stringEntry i = s.stringEntry i := stringEntry_of_config config
  have atRest : rest → a.rounds.phase.isAtRest = true := fun h => by
    rw [rounds]
    exact (isAtRest_iff _).mpr h
  have start := fun k i q : Byte => exec_answer (c := .startRound [k, i, q]) takes rfl rfl
  have stop := exec_answer (c := .stopRound []) takes rfl rfl
  have beginning : ∀ {k i q : Byte} {scope : Scope}, rest → scopeOf k.toNat i.toNat = scope → a.scopeInUse scope = true →
      a.expectedSet scope ≠ [] → q.toNat ≤ 1 → begins k i q scope := fun h named used some_ option => by
    refine (start _ _ _).trans (congrArg _ ?_)
    rw [answer_startRound_begins (atRest h) named used some_ option, supply]
  refine ⟨fun i q h some_ option => ?_, fun i q h hi used some_ option => ?_, fun m q h hm used option => ?_,
    fun k i q h => ?_, fun i q h no => ?_, fun m q h no => ?_, fun i q h none_ => ?_, fun i q h hi used none_ => ?_,
    fun h => ?_, fun o h open_ => ?_, ?_⟩
  · exact beginning h rfl rfl (by rw [expectedSet_all, slots]; exact some_) option
  · refine beginning h rfl ?_ (fun none_ => some_ ?_) option
    · simp [State.scopeInUse, entry, used, hi]
    · rw [← ofString]
      exact (expectedSet_string_eq_nil hi).mp none_
  · refine beginning h rfl ?_ (expectedSet_module_ne_nil hm ?_) option
    · simp [State.scopeInUse, inUse, used, hm]
    · rw [inUse]
      exact used
  · refine (start _ _ _).trans (congrArg _ (answer_startRound_busy fun yes => h ?_))
    rw [rounds] at yes
    exact (isAtRest_iff _).mp yes
  · refine (start _ _ _).trans (congrArg _ (answer_startRound_invalid (atRest h) ?_))
    show (decide (i.toNat ≤ 3) && (a.stringEntry i.toNat).inUse) = false
    rw [entry]
    rcases no with no | no
    · simp [Nat.not_le.mpr no]
    · simp [no]
  · refine (start _ _ _).trans (congrArg _ (answer_startRound_invalid (atRest h) ?_))
    show (decide (m.toNat ≤ 47) && a.moduleInUse m.toNat) = false
    rw [inUse]
    rcases no with no | no
    · simp [Nat.not_le.mpr no]
    · simp [no]
  · refine (start _ _ _).trans (congrArg _ (answer_startRound_empty (atRest h) rfl ?_))
    show a.expectedSet .all = []
    rw [expectedSet_all, slots]
    exact none_
  · refine (start _ _ _).trans (congrArg _ (answer_startRound_empty (atRest h) ?_ ?_))
    · show (decide (i.toNat ≤ 3) && (a.stringEntry i.toNat).inUse) = true
      rw [entry]
      simp [hi, used]
    · show a.expectedSet (.string i.toNat) = []
      rw [expectedSet_string_eq_nil hi, ofString]
      exact none_
  · exact stop.trans (congrArg _ (answer_stopRound_rest (atRest h)))
  · exact stop.trans (congrArg _ (answer_stopRound_open (rounds.symm ▸ h) (rounds.symm ▸ open_)))
  · intro o waking open_ aborted waits ended
    have open_a : a.rounds.openRound = some o := rounds.symm ▸ open_
    have waking_a : a.rounds.phase = .waking := rounds.symm ▸ waking
    have waiting : a.wakeWaiting = true ↔ waits := by
      rw [wakeWaiting_iff open_a, field]
    have unwaiting : ¬waits → a.wakeWaiting = false := fun no => Bool.eq_false_iff.mpr fun yes => no (waiting.mp yes)
    refine ⟨fun yes => ?_, fun no mode => ?_, fun no mode free => ?_, fun no mode full => ?_⟩
    · rw [stop, answer_stopRound_waiting waking_a open_a (waiting.mpr yes), State.roundLeft, rounds]
      rfl
    · rw [stop, answer_stopRound_normal waking_a (unwaiting no) (supply.symm ▸ mode), State.roundLeft, rounds]
      rfl
    · rw [stop, answer_stopRound_holdup_free waking_a open_a (unwaiting no) (supply.symm ▸ mode) (field.symm ▸ free),
        State.roundLeft, rounds, field, State.sleepCall, sys]
      rfl
    · rw [stop, answer_stopRound_holdup_full waking_a open_a (unwaiting no) (supply.symm ▸ mode) (field.symm ▸ full),
        State.roundLeft, rounds]
      rfl

end Sys2Proof.Machine
end

section
/-! PROOF of O43: isolation causes and the requests ISOLATE, RESTORE and RESET STRING (R29, R30, R33, R35, R41). -/

namespace Sys2Proof.Machine

variable {s t : State} {i : Nat}

/-! ### Isolation causes (R30) -/

theorem raiseCause_of_awaiting (c : IsolationCause) (state : (s.stringAt i).state = .awaiting) :
    s.raiseCause i c =
      if (s.stringAt i).pendingCause.isNone || (c.locks && (locking (s.stringAt i).pendingCause).isNone) then
        s.modString i fun r => { r with pendingCause := some c }
      else s := by simp only [State.raiseCause, state]

theorem raiseCause_of_serving (c : IsolationCause)
    (state : (s.stringAt i).state = .inService ∨ (s.stringAt i).state = .restoring) :
    s.raiseCause i c = s.isolate i (some c) none := by
  rcases state with state | state <;> simp only [State.raiseCause, state]

theorem raiseCause_of_isolating (c : IsolationCause) (state : (s.stringAt i).state = .isolating) :
    s.raiseCause i c =
      if c.locks && (locking (s.stringAt i).cause).isNone then s.modString i fun r => { r with cause := some c } else s := by
  simp only [State.raiseCause, state]

theorem raiseCause_of_isolated (c : IsolationCause) (state : (s.stringAt i).state = .isolated) :
    s.raiseCause i c =
      if c.locks then
        (s.modString i fun r => { r with state := .lockedOut, cause := some c, retained := .locked c }).stringMoved i
          .isolated
      else s := by simp only [State.raiseCause, state]

theorem raiseCause_of_out (c : IsolationCause)
    (state : (s.stringAt i).state = .lockedOut ∨ (s.stringAt i).state = .welded) : s.raiseCause i c = s := by
  rcases state with state | state <;> simp only [State.raiseCause, state]

/-- No locking cause is recorded. -/
theorem locking_isNone (c : Option IsolationCause) :
    (locking c).isNone = true ↔ c.any (fun k => k == .cellHard || k == .tempHard || k == .fire) = false := by
  cases c with
  | none => exact ⟨fun _ => rfl, fun _ => rfl⟩
  | some k => cases k <;> decide

/-- A change of one string that its state decides. -/
theorem stringAt_ite_modString {b : Bool} {P : Prop} [Decidable P] {f : StringRec → StringRec} (hb : b = true ↔ P)
    (h : i < s.strings.length) :
    (if b then s.modString i f else s).stringAt i = if P then f (s.stringAt i) else s.stringAt i := by
  by_cases p : P
  · rw [if_pos p, if_pos (hb.mpr p)]
    exact stringAt_modify (t := s.modString i f) rfl h
  · rw [if_neg p, if_neg fun x => p (hb.mp x)]

/-- A move to another state than WELDED trips nothing. -/
theorem stringMoved_frame_of_closed {old : StringState} (safe : (s.stringAt i).state ≠ .welded) :
    s.changesOnly (s.stringMoved i old) [.modules, .envelope, .gate, .fieldPort, .notices, .counters] := by
  have masked : s.changesOnly (if clearsMasks old (s.stringAt i).state then s.clearStringMasks i else s)
      [.modules, .fieldPort, .counters] := by
    split
    · exact clearMasks_frame s _
    · exact State.changesOnly_refl _ _
  unfold State.stringMoved
  dsimp only
  rw [if_neg fun h => safe (eq_of_beq h)]
  exact State.changesOnly_trans (State.changesOnly_mono masked (by decide))
    (State.changesOnly_mono (changeEval_frame _) (by decide))

/-- The pieces that an isolation cause may change. -/
abbrev causeParts : List Part := [.strings, .modules, .envelope, .gate, .fieldPort, .notices, .counters]

theorem stringAt_modString (f : StringRec → StringRec) (h : i < s.strings.length) :
    (s.modString i f).stringAt i = f (s.stringAt i) := stringAt_modify rfl h

theorem movedString_frame {old : StringState} {f : StringRec → StringRec} (h : i < s.strings.length)
    (safe : (f (s.stringAt i)).state ≠ .welded) : s.changesOnly ((s.modString i f).stringMoved i old) causeParts :=
  State.changesOnly_trans (State.changesOnly_mono (setStrings_frame s _) (by decide))
    (State.changesOnly_mono (stringMoved_frame_of_closed fun welded => safe (stringAt_modString f h ▸ welded)) (by decide))

theorem isolate_frame (cause : Option IsolationCause) (h : i < s.strings.length) :
    s.changesOnly (s.isolate i cause none) causeParts :=
  State.changesOnly_trans (State.changesOnly_mono (contactorCommand_frame s i false) (by decide))
    (movedString_frame (by rwa [contactorCommand_strings]) (by exact StringState.noConfusion))

/-- A string that has left AWAITING is one of the four. -/
theorem lt_of_left {x : StringState} (state : (s.stringAt i).state = x) (left : x ≠ .awaiting) : i < s.strings.length := by
  refine Nat.lt_of_not_le fun out => ?_
  exact left (by simp [← state, State.stringAt, List.getElem?_eq_none out, StringRec.atReset])

theorem raiseCause_frame (s : State) (i : Nat) (c : IsolationCause) : s.changesOnly (s.raiseCause i c) causeParts := by
  have one : ∀ f, s.changesOnly (s.modString i f) causeParts := fun f =>
    State.changesOnly_mono (setStrings_frame s _) (by decide)
  have none : s.changesOnly s causeParts := State.changesOnly_refl _ _
  cases state : (s.stringAt i).state with
  | awaiting =>
    rw [raiseCause_of_awaiting c state]
    split
    · exact one _
    · exact none
  | inService => exact raiseCause_of_serving c (.inl state) ▸ isolate_frame _ (lt_of_left state StringState.noConfusion)
  | restoring => exact raiseCause_of_serving c (.inr state) ▸ isolate_frame _ (lt_of_left state StringState.noConfusion)
  | isolating =>
    rw [raiseCause_of_isolating c state]
    split
    · exact one _
    · exact none
  | isolated =>
    rw [raiseCause_of_isolated c state]
    split
    · exact movedString_frame (lt_of_left state StringState.noConfusion) (by exact StringState.noConfusion)
    · exact none
  | lockedOut => rwa [raiseCause_of_out c (.inl state)]
  | welded => rwa [raiseCause_of_out c (.inr state)]

/-- An isolation cause changes the record of its string alone. -/
theorem raiseCause_strings (s : State) (i : Nat) (c : IsolationCause) :
    ∃ f, (s.raiseCause i c).strings = s.strings.modify i f := by
  have same : ∃ f, s.strings = s.strings.modify i f := ⟨_, modify_self.symm⟩
  cases state : (s.stringAt i).state with
  | awaiting =>
    rw [raiseCause_of_awaiting c state]
    split
    · exact ⟨_, rfl⟩
    · exact same
  | inService => exact ⟨_, raiseCause_of_serving c (.inl state) ▸ isolate_strings s i _ _⟩
  | restoring => exact ⟨_, raiseCause_of_serving c (.inr state) ▸ isolate_strings s i _ _⟩
  | isolating =>
    rw [raiseCause_of_isolating c state]
    split
    · exact ⟨_, rfl⟩
    · exact same
  | isolated =>
    rw [raiseCause_of_isolated c state]
    split
    · exact ⟨_, stringMoved_strings _ _ _⟩
    · exact same
  | lockedOut => rwa [raiseCause_of_out c (.inl state)]
  | welded => rwa [raiseCause_of_out c (.inr state)]

/-- A locking cause takes an isolated string to LOCKED_OUT (R30). -/
theorem stringAt_raiseCause_isolated {c : IsolationCause} (h : i < s.strings.length)
    (state : (s.stringAt i).state = .isolated) :
    (s.raiseCause i c).stringAt i =
      if c.locks = true then { s.stringAt i with state := .lockedOut, cause := some c, retained := .locked c }
      else s.stringAt i := by
  rw [raiseCause_of_isolated c state]
  split
  · exact (stringAt_of_strings (stringMoved_strings _ _ _) i).trans (stringAt_modString _ h)
  · rfl

/-- A string that an isolation cause takes from IN_SERVICE or ISOLATED has its masks cleared (R41). -/
theorem mask_raiseCause {c : IsolationCause} {m : Nat} (hi : i < 4) (h : i < s.strings.length) (hm : m ∈ slotsOf i)
    (state : (s.stringAt i).state = .inService ∨ ((s.stringAt i).state = .isolated ∧ c.locks = true)) :
    ((s.raiseCause i c).moduleAt m).mask = [] := by
  rcases state with state | ⟨state, locks⟩
  · rw [raiseCause_of_serving c (.inl state), State.isolate]
    refine mask_stringMoved ?_ hi hm
    rw [stringAt_modString _ (by rwa [contactorCommand_strings]), state]
    rfl
  · rw [raiseCause_of_isolated c state, if_pos locks]
    refine mask_stringMoved ?_ hi hm
    rw [stringAt_modString _ h]
    rfl

/-! ### What a request finds -/

/-- What a request that has reserved its place changed on its way. -/
theorem arrived_frame (s : State) : s.changesOnly s.requestArrives.reserving [.stationPort, .gate, .notices, .counters] := by
  intro p hp
  have same := requestArrives_frame s p hp
  cases p <;> first | exact absurd (by decide) hp | exact same

/-- A change of the pieces that the arrival of a request touches, written as one. -/
theorem eq_of_arrived (h : s.changesOnly t [.stationPort, .gate, .notices, .counters]) :
    t = (((s.setStationPort t.stationPort).setGate t.gate).setNotices t.notices).setCounters t.counters :=
  State.eq_of_sameIn fun p => by
    by_cases touched : p ∈ ([.stationPort, .gate, .notices, .counters] : List Part)
    · cases p <;> first | exact absurd touched (by decide) | rfl
    · have same := h p touched
      cases p <;> first | exact absurd (by decide) touched | exact same

/-- The reasons that refuse a RESTORE STRING are read from other pieces than a request's arrival touches. -/
theorem restoreRefusal_of_arrived (h : s.changesOnly t [.stationPort, .gate, .notices, .counters]) (i : Nat) :
    t.restoreRefusal i = s.restoreRefusal i := by
  rw [eq_of_arrived h]
  rfl

theorem byString_of_known {b : Byte} {needsMaint : Bool} {body : Nat → State → Answer}
    (maint : needsMaint = true → s.lines.maint.active = true) (range : b.toNat ≤ 3)
    (used : (s.stringEntry b.toNat).inUse = true) : s.byString needsMaint [b] body = body b.toNat s := by
  rw [State.byString, State.byByte, checked_of_fits (fits := [b].length == 1) _ maint rfl]
  show (if 3 < b.toNat || !(s.stringEntry b.toNat).inUse then _ else body b.toNat s) = _
  rw [used, if_neg (by simpa using range)]

theorem restoreString_of_free {b : Byte} (range : b.toNat ≤ 3) (used : (s.stringEntry b.toNat).inUse = true)
    (free : s.restoreRefusal b.toNat = none) : State.restoreString [b] s = (s.restore b.toNat, .ok, .none) := by
  refine (byString_of_known (needsMaint := false) nofun range used).trans ?_
  rw [free]
  rfl

theorem restoreString_of_refused {b : Byte} {reason : RestoreReason} (range : b.toNat ≤ 3)
    (used : (s.stringEntry b.toNat).inUse = true) (refused : s.restoreRefusal b.toNat = some reason) :
    State.restoreString [b] s = (s, .refusedState, .restore reason) := by
  refine (byString_of_known (needsMaint := false) nofun range used).trans ?_
  rw [refused]

/-! ### RESTORE and RESET STRING (R33, R35) -/

/-- A string that a RESTORE STRING takes. -/
def StringRec.restored (r : StringRec) (ends : PartTime) : StringRec :=
  { r with state := .restoring, cause := none, timer := some ends }

theorem restore_strings (s : State) (i : Nat) :
    (s.restore i).strings = s.strings.modify i fun r => r.restored s.contactorEnd := by
  unfold State.restore
  dsimp only
  rw [stringMoved_strings, ← contactorEnd_contactorCommand s i true]
  simp [State.modString, StringRec.restored]

theorem mask_restore {m : Nat} (hi : i < 4) (h : i < s.strings.length) (hm : m ∈ slotsOf i) :
    ((s.restore i).moduleAt m).mask = [] := by
  refine mask_stringMoved ?_ hi hm
  rw [stringAt_modString _ (by rwa [contactorCommand_strings])]
  rfl

theorem mem_urgent_restore {a : Nat} (h : s.addressOf .stringMonitor i = some a) :
    s.ownFrame kindContactorCommand a (contactorPayload true) ∈ (s.restore i).fieldPort.urgent :=
  mem_urgent_stringMoved (mem_urgent_contactorCommand (close := true) h) (by exact (by decide : kindContactorCommand ≠ kindDispatch))

theorem nodup_slotsOf (i : Nat) : (slotsOf i).Nodup :=
  nodup_map_of_injective (fun _ _ h => Nat.add_left_cancel h) List.nodup_range

theorem zeroHardCounts_eq (s : State) (i : Nat) :
    s.zeroHardCounts i = s.setModules (s.modules.mapIdx fun m r =>
      if m ∈ slotsOf i then { r with cells := r.cells.map fun c => { c with hardCount := 0 } } else r) :=
  forEach_modModule (fun _ r => { r with cells := r.cells.map fun c => { c with hardCount := 0 } }) (nodup_slotsOf i)

theorem hardCount_zeroHardCounts {m : Nat} (hm : m ∈ slotsOf i) {k : CellRec}
    (hk : k ∈ ((s.zeroHardCounts i).moduleAt m).cells) : k.hardCount = 0 := by
  rw [zeroHardCounts_eq] at hk
  rcases Nat.lt_or_ge m s.modules.length with inRange | beyond
  · simp only [State.moduleAt, State.setModules_modules, List.getD_eq_getElem?_getD, List.getElem?_mapIdx,
      List.getElem?_eq_getElem inRange, Option.map_some, Option.getD_some, if_pos hm, List.mem_map] at hk
    obtain ⟨c, -, rfl⟩ := hk
    rfl
  · have absent : (s.setModules (s.modules.mapIdx fun m r =>
        if m ∈ slotsOf i then { r with cells := r.cells.map fun c => { c with hardCount := 0 } } else r)).moduleAt m =
        .atReset 0 := by
      simp [State.moduleAt, beyond]
    rw [absent] at hk
    rw [List.eq_of_mem_replicate hk]
    rfl

/-- A string that a RESET STRING takes. -/
def StringRec.resetByRequest (r : StringRec) : StringRec :=
  { r with state := .isolated, cause := some .request, retained := .none }

theorem resetString_strings (s : State) (i : Nat) :
    (s.resetString i).strings = s.strings.modify i StringRec.resetByRequest := by
  unfold State.resetString
  dsimp only
  rw [stringMoved_strings, zeroHardCounts_eq]
  rfl

/-- A string taken to ISOLATED keeps the masks of its slots, and its modules are those with the hard counts at 0. -/
theorem resetString_modules (h : i < s.strings.length) : (s.resetString i).modules = (s.zeroHardCounts i).modules := by
  have inRange : i < (s.zeroHardCounts i).strings.length := by rwa [zeroHardCounts_eq]
  have moved : ((s.zeroHardCounts i).modString i StringRec.resetByRequest |>.stringAt i).state = .isolated := by
    rw [stringAt_modString _ inRange]
    rfl
  have keeps : ∀ old, clearsMasks old .isolated = false := fun old => by cases old <;> rfl
  unfold State.resetString State.stringMoved
  change (let u := (s.zeroHardCounts i).modString i StringRec.resetByRequest
    let new := (u.stringAt i).state
    let v := if clearsMasks (s.stringAt i).state new then u.clearStringMasks i else u
    if new == .welded then v.changeEval.trip .welded else v.changeEval).modules = _
  dsimp only
  rw [moved, keeps]
  exact changeEval_frame _ .modules (by decide)

theorem resettable_iff (r : StringRec) :
    r.resettable = true ↔ r.state = .lockedOut ∨ (r.state = .welded ∧ r.feedback = .isOpen) := by
  unfold StringRec.resettable
  cases r.state <;> simp

/-! ### The reasons that refuse a RESTORE STRING (R33) -/

theorem mem_cellsOf (m p : Nat) (k : CellRec) :
    (p, k) ∈ s.cellsOf m ↔ p < 16 ∧ p < (s.stringEntry (m / 12)).cells ∧ (s.moduleAt m).cells[p]? = some k := by
  rw [State.cellsOf, stringOf, List.mem_iff_getElem?]
  simp only [List.getElem?_take, List.getElem?_zip_eq_some, List.getElem?_range']
  constructor
  · rintro ⟨j, hj⟩
    split at hj
    · rename_i low
      obtain ⟨hp, hk⟩ := List.getElem?_zip_eq_some.mp hj
      obtain ⟨inRange, same⟩ := List.getElem?_eq_some_iff.mp hp
      simp only [List.length_range] at inRange
      simp only [List.getElem_range] at same
      subst same
      exact ⟨inRange, low, hk⟩
    · exact nomatch hj
  · rintro ⟨h16, low, hk⟩
    refine ⟨p, ?_⟩
    rw [if_pos low]
    refine List.getElem?_zip_eq_some.mpr ⟨?_, hk⟩
    rw [List.getElem?_range h16]

theorem anyCell_iff (m : Nat) (q : Nat × CellRec → Bool) :
    (s.cellsOf m).any q = true ↔ ∃ p k, (p < 16 ∧ p < (s.stringEntry (m / 12)).cells ∧
      (s.moduleAt m).cells[p]? = some k) ∧ q (p, k) = true := by
  rw [List.any_eq_true]
  constructor
  · rintro ⟨⟨p, k⟩, mem, hq⟩
    exact ⟨p, k, (mem_cellsOf m p k).mp mem, hq⟩
  · rintro ⟨p, k, mem, hq⟩
    exact ⟨(p, k), (mem_cellsOf m p k).mpr mem, hq⟩

theorem maxTemp_reaches_iff (temps : List Int) (limit : Int) :
    (match maxTemp temps with
      | some t => decide (limit ≤ t)
      | none => false) = true ↔ ∃ x ∈ temps, limit ≤ x := by
  unfold maxTemp
  cases h : temps.max? with
  | none =>
    rw [List.max?_eq_none_iff] at h
    simp [h]
  | some t =>
    obtain ⟨mem, most⟩ := List.max?_eq_some_iff.mp h
    rw [decide_eq_true_iff]
    exact ⟨fun le => ⟨t, mem, le⟩, fun ⟨x, hx, le⟩ => Int.le_trans le (most x hx)⟩

theorem cellHardCondition_iff (s : State) (i : Nat) :
    s.cellHardCondition i = true ↔ ∃ m ∈ s.modulesOf i, ∃ p k, (p < 16 ∧ p < (s.stringEntry (m / 12)).cells ∧
      (s.moduleAt m).cells[p]? = some k) ∧ (s.limits.t1.hardPersist ≤ k.hardCount ∨
        ((s.moduleAt m).quality = .fresh ∧ (k.band = .lowHard ∨ k.band = .highHard))) := by
  rw [State.cellHardCondition, List.any_eq_true]
  refine exists_congr fun m => and_congr_right fun _ => (anyCell_iff m _).trans ?_
  simp only [Bool.or_eq_true, Bool.and_eq_true, decide_eq_true_eq, beq_iff_eq]

theorem tempHardCondition_iff (s : State) (i : Nat) :
    s.tempHardCondition i = true ↔ ∃ m ∈ s.modulesOf i, (s.moduleAt m).quality = .fresh ∧
      ∃ x ∈ (s.moduleAt m).temps, s.limits.t2.tMaxHard ≤ x := by
  rw [State.tempHardCondition, List.any_eq_true]
  refine exists_congr fun m => and_congr_right fun _ => ?_
  rw [Bool.and_eq_true, beq_iff_eq]
  exact and_congr_right fun _ => maxTemp_reaches_iff _ _

theorem staleCondition_iff (s : State) (i : Nat) :
    s.staleCondition i = true ↔ ∃ m ∈ s.modulesOf i, (s.moduleAt m).quality = .stale ∨
      ((s.moduleAt m).quality = .fresh ∧ ∃ p k, (p < 16 ∧ p < (s.stringEntry (m / 12)).cells ∧
        (s.moduleAt m).cells[p]? = some k) ∧ s.params.missLimit ≤ k.absentRun) := by
  rw [State.staleCondition, List.any_eq_true]
  refine exists_congr fun m => and_congr_right fun _ => ?_
  have absent := anyCell_iff (s := s) m fun (_, c) => decide (s.params.missLimit ≤ c.absentRun)
  simp only [decide_eq_true_eq] at absent
  cases (s.moduleAt m).quality with
  | stale => simp
  | fresh => simpa using absent
  | never => simp

theorem anyPreAlarm_iff (s : State) :
    s.anyPreAlarm = true ↔ ∃ z ∈ s.fire.zones, z.stage = .preAlarm ∨ z.stage.confirmed = true := by
  simp only [State.anyPreAlarm, List.any_eq_true, Bool.or_eq_true, beq_iff_eq]

/-- A fire-confirmed zone is a zone at PRE_ALARM or beyond it. -/
theorem anyConfirmed_of_calm (calm : s.anyPreAlarm = false) : s.anyConfirmed = false := by
  rw [Bool.eq_false_iff] at *
  rw [ne_eq, anyPreAlarm_iff] at calm
  intro confirmed
  obtain ⟨z, hz, hc⟩ := List.any_eq_true.mp confirmed
  exact calm ⟨z, hz, .inr hc⟩

/-- The reason for which the voltages refuse a RESTORE STRING, if they do (R33). -/
def State.voltageRefusal (s : State) (i : Nat) : Option RestoreReason :=
  match (s.stringAt i).voltage, (s.stringAt i).feedback with
  | some v, .isOpen =>
    let vs := s.serviceVoltages
    let mean := vs.sum / vs.length
    if !vs.isEmpty && decide (s.tables.t10.rejoinWindow < (v - mean) + (mean - v)) then some .voltageMismatch else none
  | _, _ => some .voltageUnknown

theorem restoreRefusal_eq (s : State) (i : Nat) :
    s.restoreRefusal i =
      if (s.stringAt i).state != .isolated then some .notIsolated
      else if s.anyPreAlarm then some .fireStage
      else if s.causePresent i then some .causePresent
      else s.voltageRefusal i := rfl

theorem voltageRefusal_of_unknown (unknown : (s.stringAt i).voltage = none ∨ (s.stringAt i).feedback ≠ .isOpen) :
    s.voltageRefusal i = some .voltageUnknown := by
  unfold State.voltageRefusal
  cases hv : (s.stringAt i).voltage with
  | none => cases (s.stringAt i).feedback <;> rfl
  | some v =>
    cases hf : (s.stringAt i).feedback with
    | isOpen => exact (unknown.elim (fun h => by simp [hv] at h) fun h => h hf).elim
    | _ => rfl

theorem voltageRefusal_of_known {v : Nat} (voltage : (s.stringAt i).voltage = some v)
    (opened : (s.stringAt i).feedback = .isOpen) :
    s.voltageRefusal i =
      if s.serviceVoltages ≠ [] ∧ s.tables.t10.rejoinWindow <
          ((v : Int) - (s.serviceVoltages.sum / s.serviceVoltages.length : Nat)).natAbs then
        some .voltageMismatch
      else none := by
  unfold State.voltageRefusal
  rw [voltage, opened]
  refine ite_of_iff ?_ rfl rfl
  rw [Bool.and_eq_true, Bool.not_eq_true', List.isEmpty_eq_false_iff, decide_eq_true_eq]
  refine and_congr_right fun _ => ?_
  generalize s.serviceVoltages.sum / s.serviceVoltages.length = mean
  omega

theorem voltageRefusal_cases (s : State) (i : Nat) :
    s.voltageRefusal i = none ∨ s.voltageRefusal i = some .voltageUnknown ∨
      s.voltageRefusal i = some .voltageMismatch := by
  unfold State.voltageRefusal
  split
  · dsimp only
    split
    · exact .inr (.inr rfl)
    · exact .inl rfl
  · exact .inr (.inl rfl)

/-- The conditions of R29, but for a fire, which a zone at PRE_ALARM refuses before. -/
theorem causePresent_iff (calm : s.anyConfirmed = false) :
    s.causePresent i = true ↔ s.cellHardCondition i = true ∨ s.tempHardCondition i = true ∨
      ((s.stringEntry i).stalePolicy = .string ∧ s.staleCondition i = true) ∨
      s.nodeStateOf .stringMonitor i ≠ .live ∨ s.lineIsActive .eStop = true := by
  simp only [State.causePresent, calm, Bool.or_false, Bool.or_eq_true, Bool.and_eq_true, beq_iff_eq, bne_iff_ne, or_assoc]
  rw [and_comm (a := s.staleCondition i = true)]

/-- Settles O43, from the moves that each state allows, the answers of the three requests, and the reasons in their
order. -/
theorem stringRequestsMoveTheirString : Obligations.StringRequestsMoveTheirString := by
  refine ⟨?_, ?_, ?_⟩
  · intro s i c h r t u locks
    have lock : c.locks = locks c := locks_eq c
    have free : ∀ k : Option IsolationCause, (locking k).isNone = true ↔ k.any locks = false := locking_isNone
    refine ⟨fun state => ?_, fun state => ⟨?_, fun a monitor => ?_⟩, fun state => ?_, fun state => ?_, fun state => ?_,
      fun hi state m hm => ?_, fun j other => ?_, raiseCause_frame s i c⟩
    · have eq : t = _ := raiseCause_of_awaiting c state
      show t.stringAt i = _
      rw [eq]
      exact stringAt_ite_modString (by
        rw [Bool.or_eq_true, Bool.and_eq_true, Option.isNone_iff_eq_none, free, lock]) h
    · have eq : t = _ := raiseCause_of_serving c state
      show t.stringAt i = _
      rw [eq]
      exact stringAt_modify (isolate_strings s i _ _) h
    · have eq : t = _ := raiseCause_of_serving c state
      rw [eq]
      exact mem_urgent_isolate monitor
    · have eq : t = _ := raiseCause_of_isolating c state
      show t.stringAt i = _
      rw [eq]
      exact stringAt_ite_modString (by rw [Bool.and_eq_true, free, lock]) h
    · exact (stringAt_raiseCause_isolated h state).trans (by rw [lock])
    · exact raiseCause_of_out c state
    · exact mask_raiseCause hi h hm (by rwa [lock])
    · obtain ⟨f, hf⟩ := raiseCause_strings s i c
      exact stringAt_modify_other hf other
  · intro s b takes range used inRange a i r ends
    have frame := arrived_frame s
    have strings : a.reserving.strings = s.strings := frame .strings (by decide)
    have config : a.reserving.config = s.config := frame .config (by decide)
    have lines : a.reserving.lines = s.lines := frame .lines (by decide)
    have known : (a.reserving.stringEntry i).inUse = true := by rwa [stringEntry_of_config config]
    have record : ∀ j, a.reserving.stringAt j = s.stringAt j := fun j => stringAt_of_strings strings j
    have there : i < a.reserving.strings.length := by rwa [strings]
    have refusal : a.reserving.restoreRefusal i = s.restoreRefusal i := restoreRefusal_of_arrived frame i
    have ended : a.reserving.contactorEnd = ends := contactorEnd_of (frame .time (by decide)) config
    refine ⟨?_, fun taken => ?_, fun reason refused => ?_, fun maint resettable => ?_, fun maint notLocked notWelded => ?_⟩
    · refine (exec_answer takes (row := rfl) (known := rfl)).trans (congrArg _ (answer_congr ?_))
      exact byString_of_known (needsMaint := false) nofun range known
    · refine ⟨_, exec_answer takes (row := rfl) (known := rfl), ?_⟩
      have body : a.answer 16 (State.restoreString [b]) = a.answer 16 fun s => (s.restore i, .ok, .none) := by
        exact answer_congr (restoreString_of_free range known (refusal.trans taken))
      refine ⟨body, ?_⟩
      rw [body]
      have answered := answer_frame a 16 fun s => (s.restore i, .ok, .none)
      have moved : (a.answer 16 fun s => (s.restore i, .ok, .none)).strings = _ :=
        (answered .strings (by decide)).trans (restore_strings a.reserving i)
      rw [strings, ended] at moved
      refine ⟨stringAt_modify moved inRange, fun m monitor => ?_, fun m hm => ?_, fun j other => stringAt_modify_other moved other⟩
      · have address : a.reserving.addressOf .stringMonitor i = some m := (addressOf_of_config config _ _).trans monitor
        have waits := mem_urgent_restore address
        rw [ownFrame_of_sys (frame .sys (by decide))] at waits
        exact (answered .fieldPort (by decide)).symm ▸ waits
      · rw [moduleAt_of_modules (answered .modules (by decide))]
        exact mask_restore (Nat.lt_succ_of_le range) there hm
    · refine (exec_answer takes (row := rfl) (known := rfl)).trans (congrArg _ (answer_of_same ?_))
      exact restoreString_of_refused range known (refusal.trans refused)
    · refine ⟨_, exec_answer takes (row := rfl) (known := rfl), ?_⟩
      have maintained : a.reserving.lines.maint.active = true := by rw [lines]; exact maint
      have may : (a.reserving.stringAt i).resettable = true := by
        rw [record]
        exact (resettable_iff r).mpr resettable
      have body : a.answer 17 (State.resetStringRequest [b]) = a.answer 17 fun s => (s.resetString i, .ok, .none) := by
        refine answer_congr ((byString_of_known (needsMaint := true) (fun _ => maintained) range known).trans ?_)
        exact if_pos may
      refine ⟨body, ?_⟩
      rw [body]
      have answered := answer_frame a 17 fun s => (s.resetString i, .ok, .none)
      have moved : (a.answer 17 fun s => (s.resetString i, .ok, .none)).strings = _ :=
        (answered .strings (by decide)).trans (resetString_strings a.reserving i)
      rw [strings] at moved
      refine ⟨stringAt_modify moved inRange, fun m hm k hk => ?_, fun j other => stringAt_modify_other moved other⟩
      rw [moduleAt_of_modules (answered .modules (by decide)), moduleAt_of_modules (resetString_modules there)] at hk
      exact hardCount_zeroHardCounts hm hk
    · refine (exec_answer takes (row := rfl) (known := rfl)).trans (congrArg _ (answer_of_same ?_))
      have maintained : a.reserving.lines.maint.active = true := by rw [lines]; exact maint
      refine (byString_of_known (needsMaint := true) (fun _ => maintained) range known).trans (if_neg ?_)
      rw [record, resettable_iff]
      exact fun h => h.elim notLocked notWelded
  · intro s i r fire inCell fresh present vs
    have preAlarm : s.anyPreAlarm = true ↔ fire := anyPreAlarm_iff s
    have cause : ¬fire → (s.causePresent i = true ↔ present) := fun calm => by
      rw [causePresent_iff (anyConfirmed_of_calm (Bool.eq_false_iff.mpr fun h => calm (preAlarm.mp h))),
        cellHardCondition_iff, tempHardCondition_iff, staleCondition_iff]
    have isolated : r.state = .isolated → s.restoreRefusal i = if s.anyPreAlarm then some .fireStage
        else if s.causePresent i then some .causePresent else s.voltageRefusal i := fun h =>
      (restoreRefusal_eq s i).trans (if_neg fun other => bne_iff_ne.mp other h)
    have voltages := voltageRefusal_cases s i
    refine ⟨⟨fun refused state => ?_, fun other => if_pos (bne_iff_ne.mpr other)⟩, fun state => ?_,
      fun state calm => ?_, fun state calm free => ?_⟩
    · rw [isolated state] at refused
      split at refused
      · exact nomatch refused
      · split at refused
        · exact nomatch refused
        · rcases voltages with h | h | h <;> exact nomatch h ▸ refused
    · rw [isolated state, ← preAlarm]
      cases s.anyPreAlarm with
      | true => exact ⟨fun _ => rfl, fun _ => rfl⟩
      | false =>
        refine ⟨fun refused => ?_, nofun⟩
        rw [if_neg Bool.false_ne_true] at refused
        split at refused
        · exact nomatch refused
        · rcases voltages with h | h | h <;> exact nomatch h ▸ refused
    · rw [isolated state, if_neg fun h => calm (preAlarm.mp h), ← cause calm]
      cases s.causePresent i with
      | true => exact ⟨fun _ => rfl, fun _ => rfl⟩
      | false =>
        refine ⟨fun refused => ?_, nofun⟩
        rw [if_neg Bool.false_ne_true] at refused
        rcases voltages with h | h | h <;> exact nomatch h ▸ refused
    · have reduced : s.restoreRefusal i = s.voltageRefusal i := by
        rw [isolated state, if_neg fun h => calm (preAlarm.mp h), if_neg fun h => free ((cause calm).mp h)]
      rw [reduced]
      have known : ∀ v, r.voltage = some v → r.feedback = .isOpen → s.voltageRefusal i = if vs ≠ [] ∧
          s.tables.t10.rejoinWindow < ((v : Int) - (vs.sum / vs.length : Nat)).natAbs then some .voltageMismatch
          else none := fun v => voltageRefusal_of_known
      refine ⟨⟨fun refused => ?_, voltageRefusal_of_unknown⟩, fun v voltage opened => ?_⟩
      · refine (Classical.em _).imp_right fun voltage opened => ?_
        obtain ⟨v, hv⟩ := Option.ne_none_iff_exists'.mp voltage
        rw [known v hv opened] at refused
        split at refused <;> exact nomatch refused
      · rw [known v voltage opened]
        exact ⟨fun apart => if_pos apart, fun near => if_neg fun ⟨serving, far⟩ =>
          near.elim serving fun le => absurd le (Nat.not_le.mpr far)⟩

end Sys2Proof.Machine
end

section
/-! PROOF of O48: the coolant command and what a close sets of each zone (R121 to R127). -/

namespace Sys2Proof.Machine

variable {s t : State}

/-! ### The making (R125) -/

/-- A list of known length, read index by index. -/
theorem eq_map_range_getD {α : Type} {l : List α} {n : Nat} (h : l.length = n) (d : α) :
    l = (List.range n).map fun i => l.getD i d := by
  subst h
  apply List.ext_getElem (by simp)
  intro i h1 h2
  simp [List.getD_eq_getElem?_getD, h1]

/-- What HOLDUP leaves of a code (R125). -/
def State.cappedCode (s : State) (code : Nat) : Nat :=
  if s.supply.holdupLow then 0
  else if s.supply.mode = .holdup then min code s.tables.t11.holdupCap else code

/-- The demand of a zone, raised in PRE_ALARM (R125). -/
def State.raisedDemand (s : State) (z : Nat) : Nat :=
  let demand := (s.thermal.zones.map (·.demand)).getD z 0
  if (s.fireZone z).stage = .preAlarm then max demand s.tables.t11.prealarmCode else demand

theorem coolantMaking_of_confirmed (confirmed : s.anyConfirmed = true) (eight : s.thermal.zones.length = 8) :
    s.coolantMaking = ⟨true, List.replicate 8 255, 0⟩ := by
  unfold State.coolantMaking
  dsimp only
  rw [if_pos confirmed, List.map_const', List.length_mapIdx, List.length_map, eight]

theorem coolantMaking_of_calm (calm : s.anyConfirmed = false) :
    s.coolantMaking =
      (let demands := s.thermal.zones.map (·.demand)
       let valves := (demands.mapIdx fun z code =>
          if (s.fireZone z).stage == .preAlarm then max code s.tables.t11.prealarmCode else code).map s.cappedCode
       let fan := s.cappedCode (demands.foldl max 0)
       ⟨(fan :: valves).any (0 < ·), valves, fan⟩) := by
  have cap : (fun code => (if s.supply.holdupLow then 0
      else if s.supply.mode == .holdup then min code s.tables.t11.holdupCap else code)) = s.cappedCode := by
    funext code
    unfold State.cappedCode
    simp only [beq_iff_eq]
  unfold State.coolantMaking
  dsimp only
  rw [if_neg (by simp [calm])]
  simp only [← cap]

theorem valves_of_calm (calm : s.anyConfirmed = false) (eight : s.thermal.zones.length = 8) :
    s.coolantMaking.valves = (List.range 8).map fun z => s.cappedCode (s.raisedDemand z) := by
  rw [coolantMaking_of_calm calm]
  have demands : (s.thermal.zones.map (·.demand)).length = 8 := by rw [List.length_map, eight]
  generalize hd : s.thermal.zones.map (·.demand) = ds at demands
  apply List.ext_getElem (by simp [demands])
  intro z h1 h2
  simp only [List.getElem_map, List.getElem_mapIdx, List.getElem_range, State.raisedDemand, hd, beq_iff_eq]
  rw [List.getD_eq_getElem?_getD, List.getElem?_eq_getElem (by simpa using h1)]
  rfl

theorem fan_of_calm (calm : s.anyConfirmed = false) (eight : s.thermal.zones.length = 8) :
    s.coolantMaking.fan =
      s.cappedCode ((List.range 8).foldl (fun x z => max x ((s.thermal.zones.map (·.demand)).getD z 0)) 0) := by
  have demands : (s.thermal.zones.map (·.demand)).length = 8 := by rw [List.length_map, eight]
  rw [coolantMaking_of_calm calm]
  dsimp only
  conv => lhs; rw [eq_map_range_getD demands 0, List.foldl_map]

theorem run_of_calm (calm : s.anyConfirmed = false) :
    s.coolantMaking.run = true ↔ 0 < s.coolantMaking.fan ∨ ∃ v ∈ s.coolantMaking.valves, 0 < v := by
  rw [coolantMaking_of_calm calm]
  simp only [List.any_cons, Bool.or_eq_true, decide_eq_true_eq, List.any_eq_true]

/-! ### Placing the command (R126, R127) -/

/-- What the Thermal Controller records of a making (R125). -/
def Thermal.recorded (x : Thermal) (m : CoolantMaking) (now : PartTime) (o : CommandOutcome) : Thermal :=
  { x with
    zones := x.zones.mapIdx fun z r => r.withValve (m.valves.getD z 0)
    command := ⟨m.run, m.fan, dutyOf m.fan, now, o⟩ }

/-- The frame of a making to the chiller (R126). -/
def State.coolantFrame (s : State) (a : Nat) : Placed :=
  let m := s.coolantMaking
  s.ownFrame kindCoolantCommand a (coolantCommandPayload m.run (m.valves.map dutyOf) (dutyOf m.fan))

theorem makeCoolant_of_unaddressed {urgent : Bool} (none : s.addressOf .chiller 0 = none) :
    s.makeCoolant urgent = (s.setThermal (s.thermal.recorded s.coolantMaking s.time .unaddressed)).setCounters
      { s.counters with coolantUnaddressed := inc16 s.counters.coolantUnaddressed } := by
  unfold State.makeCoolant
  dsimp only
  rw [none]
  rfl

theorem recordCoolant_of_same (thermal : t.thermal = s.thermal) (time : t.time = s.time) (m : CoolantMaking)
    (o : CommandOutcome) : t.recordCoolant m o = t.setThermal (s.thermal.recorded m s.time o) := by
  rw [← thermal, ← time]
  rfl

theorem makeCoolant_urgent {a : Nat} (chiller : s.addressOf .chiller 0 = some a) :
    s.makeCoolant true = (s.placeUrgent (s.coolantFrame a)).setThermal
      (s.thermal.recorded s.coolantMaking s.time .queued) := by
  unfold State.makeCoolant
  dsimp only
  rw [chiller]
  exact recordCoolant_of_same rfl rfl _ _

theorem makeCoolant_normal {a : Nat} (chiller : s.addressOf .chiller 0 = some a) :
    s.makeCoolant false =
      (let p := s.placeNormal (s.coolantFrame a)
       if s.fieldPort.admits (s.coolantFrame a) then p.setThermal (s.thermal.recorded s.coolantMaking s.time .queued)
       else (p.setThermal (s.thermal.recorded s.coolantMaking s.time .dropped)).setCounters
        { p.counters with coolantFramesLost := inc16 s.counters.coolantFramesLost }) := by
  have placed := placeNormal_frame s (s.coolantFrame a)
  have record := recordCoolant_of_same (placed .thermal (by decide)) (placed .time (by decide)) s.coolantMaking
  have lost : (s.placeNormal (s.coolantFrame a)).counters.coolantFramesLost = s.counters.coolantFramesLost :=
    (congrArg Counters.coolantFramesLost (placeNormal_unmade s (s.coolantFrame a)) :)
  unfold State.makeCoolant
  dsimp only
  rw [chiller]
  change (if s.fieldPort.admits (s.coolantFrame a) then (s.placeNormal (s.coolantFrame a)).recordCoolant s.coolantMaking .queued
    else ((s.placeNormal (s.coolantFrame a)).recordCoolant s.coolantMaking .dropped).count
      fun c => { c with coolantFramesLost := inc16 c.coolantFramesLost }) = _
  rw [record, record, ← lost]
  rfl

/-! ### A zone at a close (R121, R122) -/

/-- A temperature that an in-use FRESH module of a zone reports. -/
def State.zoneReads (s : State) (z : Nat) (y : Int) : Prop :=
  ∃ m < 48, s.moduleInUse m = true ∧ (s.moduleAt m).zone = z ∧ (s.moduleAt m).quality = .fresh ∧ y ∈ (s.moduleAt m).temps

/-- The greatest of the greatest temperatures is the greatest temperature. -/
theorem zoneTemp_eq_some_iff (s : State) (z : Nat) (x : Int) :
    s.zoneTemp z = some x ↔ s.zoneReads z x ∧ ∀ y, s.zoneReads z y → y ≤ x := by
  let greatest (m : Nat) : Option Int :=
    if (s.moduleAt m).zone == z && (s.moduleAt m).quality == .fresh then maxTemp (s.moduleAt m).temps else none
  have reads : ∀ m y, greatest m = some y ↔ ((s.moduleAt m).zone = z ∧ (s.moduleAt m).quality = .fresh) ∧
      y ∈ (s.moduleAt m).temps ∧ ∀ w ∈ (s.moduleAt m).temps, w ≤ y := by
    intro m y
    simp only [greatest, Option.ite_none_right_eq_some, Bool.and_eq_true, beq_iff_eq, maxTemp, List.max?_eq_some_iff]
  show (s.modulesInUse.filterMap greatest).max? = some x ↔ _
  rw [List.max?_eq_some_iff]
  have member : ∀ {y}, y ∈ s.modulesInUse.filterMap greatest ↔
      ∃ m, (m < 48 ∧ s.moduleInUse m = true) ∧ greatest m = some y := by
    intro y
    simp only [List.mem_filterMap, mem_modulesInUse]
  constructor
  · rintro ⟨mem, most⟩
    obtain ⟨m, ⟨slot, used⟩, hm⟩ := member.mp mem
    obtain ⟨⟨zone, fresh⟩, temp, -⟩ := (reads m x).mp hm
    refine ⟨⟨m, slot, used, zone, fresh, temp⟩, ?_⟩
    rintro y ⟨k, slot', used', zone', fresh', temp'⟩
    have some : ∃ w, (s.moduleAt k).temps.max? = some w := by
      cases h : (s.moduleAt k).temps.max? with
      | none => rw [List.max?_eq_none_iff.mp h] at temp'; exact absurd temp' List.not_mem_nil
      | some w => exact ⟨w, rfl⟩
    obtain ⟨w, hw⟩ := some
    obtain ⟨here, above⟩ := List.max?_eq_some_iff.mp hw
    exact Int.le_trans (above y temp') (most w (member.mpr ⟨k, ⟨slot', used'⟩, (reads k w).mpr ⟨⟨zone', fresh'⟩, here, above⟩⟩))
  · rintro ⟨⟨m, slot, used, zone, fresh, temp⟩, most⟩
    refine ⟨member.mpr ⟨m, ⟨slot, used⟩, (reads m x).mpr ⟨⟨zone, fresh⟩, temp, fun w hw =>
      most w ⟨m, slot, used, zone, fresh, hw⟩⟩⟩, fun y mem => ?_⟩
    obtain ⟨k, ⟨slot', used'⟩, hk⟩ := member.mp mem
    obtain ⟨⟨zone', fresh'⟩, temp', -⟩ := (reads k y).mp hk
    exact most y ⟨k, slot', used', zone', fresh', temp'⟩

theorem zoneInUse_iff (s : State) (z : Nat) :
    s.zoneInUse z = true ↔ ∃ m < 48, s.moduleInUse m = true ∧ (s.moduleAt m).zone = z := by
  simp only [State.zoneInUse, List.any_eq_true, mem_modulesInUse, beq_iff_eq, and_assoc]

theorem afterClose_inUse (r : ZoneRec) (e : ZoneEntry) (fallback : Nat) (inUse : Bool) (temp : Option Int) :
    (r.afterClose e fallback inUse temp).inUse = inUse := by
  unfold ZoneRec.afterClose
  cases inUse with
  | false => rfl
  | true => cases temp <;> rfl

theorem demandCode_eq (t : ZoneEntry) (e : Int) :
    demandCode t e = (clampInt 1 255 ((t.base : Int) + t.k * max e 0)).toNat := by
  unfold demandCode
  congr 4
  omega

/-- Settles O48, from the making, its placing, and a zone's record after a close. -/
theorem coolantCommandFollowsTheDemands : Obligations.CoolantCommandFollowsTheDemands := by
  refine ⟨fun s urgent eight => ?_, fun s => ⟨rfl, fun z x => zoneTemp_eq_some_iff s z x, fun z r t read after => ?_⟩⟩
  · intro m demand cap thermal t
    refine ⟨fun confirmed => coolantMaking_of_confirmed confirmed eight,
      fun calm => ⟨valves_of_calm calm eight, fan_of_calm calm eight, run_of_calm calm⟩, fun code => ?_,
      fun none => makeCoolant_of_unaddressed none, fun a chiller => ⟨fun h => ?_, fun h admitted => ?_, fun h refused => ?_⟩⟩
    · unfold dutyOf
      exact ite_of_iff beq_iff_eq rfl rfl
    · subst h
      exact makeCoolant_urgent chiller
    · subst h
      exact (makeCoolant_normal chiller).trans (if_pos admitted)
    · subst h
      exact (makeCoolant_normal chiller).trans (if_neg (Bool.eq_false_iff.mp refused))
  · intro e11
    have record : t = r.afterClose e11 s.tables.t11.fallbackCode (s.zoneInUse z) (s.zoneTemp z) := by
      rw [State.zonesAfterClose, List.getElem?_mapIdx, read] at after
      exact (Option.some.inj after).symm
    have used : t.inUse = s.zoneInUse z := record ▸ afterClose_inUse _ _ _ _ _
    rw [used]
    refine ⟨zoneInUse_iff s z, fun unused => ?_, fun inUse none => ?_, fun x inUse temp => ?_⟩
    · rw [record, unused]
      rfl
    · rw [record, inUse, none]
      rfl
    · rw [record, inUse, temp]
      simp only [ZoneRec.afterClose, coolsAfter, demandCode_eq, Bool.not_true, Bool.false_eq_true, if_false]

end Sys2Proof.Machine
end

section
/-! Facts about fire zones that the proofs of O44, O49, O54, O55 and O56 share: what each operation leaves of the record
of a zone and of RELEASE_OUT (R142 to R149). -/

namespace Sys2Proof.Machine

variable {s t : State} {z : Nat}

/-! ### One zone of the fire unit -/

/-- The fire unit with one zone's record changed. -/
def FireUnit.withZone (f : FireUnit) (z : Nat) (g : FireZone → FireZone) : FireUnit := { f with zones := f.zones.modify z g }

theorem FireUnit.withZone_withZone (f : FireUnit) (z : Nat) (g k : FireZone → FireZone) :
    (f.withZone z g).withZone z k = f.withZone z fun r => k (g r) := by
  simp only [FireUnit.withZone, List.modify_modify_eq, Function.comp_def]

theorem modFireZone_fire (s : State) (z : Nat) (g : FireZone → FireZone) : (s.modFireZone z g).fire = s.fire.withZone z g :=
  rfl

/-- A change of one zone reads as one record in its place. -/
theorem withZone_congr {g k : FireZone → FireZone} (h : g (s.fireZone z) = k (s.fireZone z)) :
    s.fire.withZone z g = s.fire.withZone z k := by
  unfold FireUnit.withZone
  congr 1
  apply List.ext_getElem?
  intro j
  rw [List.getElem?_modify, List.getElem?_modify]
  split
  · rename_i same
    subst same
    cases hr : s.fire.zones[z]? with
    | none => rfl
    | some r =>
      rw [fireZone_of_getElem? hr] at h
      exact congrArg some h
  · rfl

theorem withZone_self {g : FireZone → FireZone} (h : g (s.fireZone z) = s.fireZone z) : s.fire.withZone z g = s.fire := by
  rw [withZone_congr (k := id) h, FireUnit.withZone, List.modify_id]

theorem fireZone_withZone {g : FireZone → FireZone} (h : t.fire.zones = (s.fire.withZone z g).zones)
    (inRange : z < s.fire.zones.length) : t.fireZone z = g (s.fireZone z) := by
  simp [State.fireZone, h, FireUnit.withZone, inRange]

theorem fireZone_withZone_other {g : FireZone → FireZone} (h : t.fire.zones = (s.fire.withZone z g).zones) {k : Nat}
    (other : k ≠ z) : t.fireZone k = s.fireZone k := by
  simp [State.fireZone, h, FireUnit.withZone, List.getElem?_modify, Ne.symm other]

theorem fireZone_of_fire (h : t.fire = s.fire) (k : Nat) : t.fireZone k = s.fireZone k := by
  simp only [State.fireZone, h]

/-- A zone with a record is one of the list. -/
theorem anyConfirmed_of_zone (inRange : z < s.fire.zones.length) (h : (s.fireZone z).stage.confirmed = true) :
    s.anyConfirmed = true :=
  List.any_eq_true.mpr ⟨s.fireZone z, by simp [State.fireZone, inRange], h⟩

/-! ### Frames -/

theorem handStage_frame (s : State) (urgent : Bool) :
    s.changesOnly (s.handStage urgent) [.envelope, .gate, .thermal, .fieldPort, .notices, .counters] :=
  frame_of fun h => h.handStage (List.Subset.refl _)

theorem handFall_frame (s : State) (z : Nat) :
    s.changesOnly (s.handFall z) [.envelope, .gate, .thermal, .fieldPort, .notices, .counters] :=
  frame_of fun h => h.handFall (List.Subset.refl _)

theorem evaluateZone_frame (s : State) (z : Nat) : s.changesOnly (s.evaluateZone z)
    [.modules, .strings, .envelope, .gate, .conn, .thermal, .fire, .fieldPort, .notices, .flags, .counters] :=
  frame_of fun h => h.evaluateZone (List.Subset.refl _)

theorem releaseZone_frame (s : State) (z : Nat) : s.changesOnly (s.releaseZone z)
    [.fire, .envelope, .gate, .thermal, .fieldPort, .flags, .notices, .counters] :=
  frame_of fun h => h.releaseZone (by decide)

/-! ### What an evaluation reads (R143, R145) -/

/-- A zone's sources are read from the tables, the detectors and its cell grade. -/
theorem sources_of (config : t.config = s.config) (detectors : t.fire.detectors = s.fire.detectors)
    (grade : (t.fireZone z).cellGrade = (s.fireZone z).cellGrade) : t.sources z = s.sources z := by
  have indicates : t.indicates = s.indicates := funext fun i => by
    simp only [State.indicates, State.detectorEntry, State.detectorAt, State.tables, config, detectors]
  simp only [State.sources, State.detectorsOf, State.detectorEntry, State.detectorAt, State.tables, indicates, config,
    detectors, grade]

theorem zoneUnwatched_of (config : t.config = s.config) (detectors : t.fire.detectors = s.fire.detectors) (z : Nat) :
    t.zoneUnwatched z = s.zoneUnwatched z := by
  simp only [State.zoneUnwatched, State.detectorsOf, State.detectorEntry, State.detectorAt, State.tables, config, detectors]

/-- The target that a zone's sources give as they stand (R143). -/
def State.zoneTarget (s : State) (z : Nat) : FireStage := targetOf (s.fireZone z).lineIndication (s.sources z)

theorem targetOf_eq (line : Bool) (sources : List Grade) :
    targetOf line sources =
      (let alarms := (sources.filter (· == .alarm)).length
       let graded := (sources.filter (· != .none)).length
       if line = true ∨ 2 ≤ alarms then .fire else if alarms = 1 ∨ 2 ≤ graded then .preAlarm
       else if graded = 1 then .watch else .normal) := by
  simp only [targetOf, Bool.or_eq_true, decide_eq_true_eq, beq_iff_eq]

/-- A zone's record once its target and UNWATCHED are found anew (R143, R145). -/
def State.judgedZone (s : State) (z : Nat) : FireZone :=
  { s.fireZone z with target := s.zoneTarget z, unwatched := s.zoneUnwatched z }

/-- The part once a zone's target and UNWATCHED are found anew, before its stage moves. -/
def State.judged (s : State) (z : Nat) : State :=
  let t := s.setUnwatched z
  t.modFireZone z fun r => { r with target := t.zoneTarget z }

theorem evaluateZone_eq (s : State) (z : Nat) : s.evaluateZone z = (s.judged z).moveStage z := rfl

theorem setUnwatched_frame (s : State) (z : Nat) :
    s.changesOnly (s.setUnwatched z) [.fire, .envelope, .gate, .fieldPort, .notices, .counters] :=
  frame_of fun h => h.setUnwatched (by decide)

theorem setUnwatched_fire (s : State) (z : Nat) :
    (s.setUnwatched z).fire = s.fire.withZone z fun r => { r with unwatched := s.zoneUnwatched z } := by
  unfold State.setUnwatched
  dsimp only
  split
  · rename_i same
    exact (withZone_self (g := fun r => { r with unwatched := s.zoneUnwatched z }) (by rw [← eq_of_beq same])).symm
  · exact (changeEval_frame _ .fire (by decide)).trans (raise_frame _ _ _ .fire (by decide))

theorem judged_frame (s : State) (z : Nat) :
    s.changesOnly (s.judged z) [.fire, .envelope, .gate, .fieldPort, .notices, .counters] :=
  State.changesOnly_trans (setUnwatched_frame s z) (State.changesOnly_mono (setFire_frame _ _) (by decide))

theorem judged_fire (s : State) (z : Nat) : (s.judged z).fire = s.fire.withZone z fun _ => s.judgedZone z := by
  have unwatched := setUnwatched_fire s z
  have config : (s.setUnwatched z).config = s.config := setUnwatched_frame s z .config (by decide)
  have detectors : (s.setUnwatched z).fire.detectors = s.fire.detectors := by rw [unwatched]; rfl
  have kept : ((s.setUnwatched z).fireZone z).cellGrade = (s.fireZone z).cellGrade ∧
      ((s.setUnwatched z).fireZone z).lineIndication = (s.fireZone z).lineIndication := by
    rcases Nat.lt_or_ge z s.fire.zones.length with inRange | out
    · rw [fireZone_withZone (congrArg _ unwatched) inRange]
      exact ⟨rfl, rfl⟩
    · have absent : (s.setUnwatched z).fire.zones.length ≤ z := by rw [unwatched]; simpa [FireUnit.withZone] using out
      simp [State.fireZone, List.getElem?_eq_none out, List.getElem?_eq_none absent]
  have target : (s.setUnwatched z).zoneTarget z = s.zoneTarget z := by
    rw [State.zoneTarget, State.zoneTarget, kept.2, sources_of config detectors kept.1]
  show (s.setUnwatched z).fire.withZone z _ = _
  rw [unwatched, FireUnit.withZone_withZone, target]
  exact withZone_congr rfl

theorem fireZone_judged (inRange : z < s.fire.zones.length) : (s.judged z).fireZone z = s.judgedZone z :=
  fireZone_withZone (congrArg _ (judged_fire s z)) inRange

/-! ### The moves of a stage (R144) -/

theorem moveStage_of_confirmed (h : (s.fireZone z).stage.confirmed = true) : s.moveStage z = s.latchStage z := if_pos h

theorem moveStage_of_rise (low : (s.fireZone z).stage.confirmed = false)
    (h : (s.fireZone z).stage.rank < (s.fireZone z).target.rank) :
    s.moveStage z = s.riseTo z (s.fireZone z).target :=
  (if_neg (Bool.eq_false_iff.mp low)).trans (if_pos h)

theorem moveStage_of_same (low : (s.fireZone z).stage.confirmed = false) (h : (s.fireZone z).target = (s.fireZone z).stage) :
    s.moveStage z = s.modFireZone z fun r => { r with clearTimer := none } :=
  (if_neg (Bool.eq_false_iff.mp low)).trans ((if_neg (by rw [h]; exact Nat.lt_irrefl _)).trans (if_pos (beq_iff_eq.mpr h)))

/-- The clear timer of a zone above its target (R144). -/
def State.clearing (s : State) (r : FireZone) (target : FireStage) : ClearTimer :=
  match r.clearTimer with
  | none => ⟨s.clearEnd, target⟩
  | some c => ⟨c.ends, if c.ceiling.rank < target.rank then target else c.ceiling⟩

theorem moveStage_of_above (low : (s.fireZone z).stage.confirmed = false)
    (h : (s.fireZone z).target.rank < (s.fireZone z).stage.rank) :
    s.moveStage z = s.modFireZone z fun r =>
      { r with clearTimer := some (s.clearing (s.fireZone z) (s.fireZone z).target) } := by
  have other : (s.fireZone z).target ≠ (s.fireZone z).stage := fun same => by
    rw [same] at h
    exact Nat.lt_irrefl _ h
  unfold State.moveStage State.clearing
  dsimp only
  rw [if_neg (Bool.eq_false_iff.mp low), if_neg (Nat.not_lt.mpr (Nat.le_of_lt h)), if_neg (by rwa [beq_iff_eq])]
  cases (s.fireZone z).clearTimer <;> rfl

/-- A confirmed zone latches its flags again and nothing else (R146, R151). -/
theorem latchStage_frame (s : State) (z : Nat) : s.changesOnly (s.latchStage z) [.flags] :=
  frame_of fun h => h.latchStage (by decide)

theorem isLatched_latchStage (h : (s.fireZone z).stage.confirmed = true) : (s.latchStage z).isLatched .fire = true := by
  unfold State.latchStage
  cases stage : (s.fireZone z).stage <;> simp only [stage, FireStage.confirmed, Bool.false_eq_true] at h
  · exact isLatched_latch_self s .fire
  · exact isLatched_latch_self s .fire
  · exact isLatched_latch (isLatched_latch_self s .fire)

theorem isLatched_latchStage_release (h : (s.fireZone z).stage = .released) :
    (s.latchStage z).isLatched .release = true := by
  simp only [State.latchStage, h]
  exact isLatched_latch_self _ .release

/-! ### Rises below FIRE (R144, R146) -/

theorem watchReconnect_frame (s : State) :
    s.changesOnly s.watchReconnect [.envelope, .gate, .conn, .fieldPort, .notices, .counters] :=
  frame_of fun h => h.watchReconnect (List.Subset.refl _)

theorem riseTo_watch_fire (s : State) (z : Nat) :
    (s.riseTo z .watch).fire = s.fire.withZone z fun r => { r with stage := .watch, clearTimer := none } :=
  (handStage_frame _ false .fire (by decide)).trans (raise_frame _ _ _ .fire (by decide))

/-- A zone that has risen to PRE_ALARM, and what it clears (R41, R115, R146). -/
def State.preAlarmed (s : State) (z : Nat) : State :=
  ((s.modFireZone z fun r => { r with stage := .preAlarm, clearTimer := none }).raise .firePreAlarm (some z)).clearAllMasks

theorem riseTo_preAlarm (s : State) (z : Nat) : s.riseTo z .preAlarm = (s.preAlarmed z).watchReconnect.handStage false := rfl

theorem preAlarmed_frame (s : State) (z : Nat) : (s.modFireZone z fun r => { r with stage := .preAlarm, clearTimer := none
    }).changesOnly (s.preAlarmed z) [.modules, .fieldPort, .notices, .counters] := by
  unfold State.preAlarmed State.clearAllMasks
  exact State.changesOnly_trans (State.changesOnly_mono (raise_frame _ _ _) (by decide))
    (State.changesOnly_mono (clearMasks_frame _ _) (by decide))

theorem riseTo_preAlarm_fire (s : State) (z : Nat) :
    (s.riseTo z .preAlarm).fire = s.fire.withZone z fun r => { r with stage := .preAlarm, clearTimer := none } := by
  rw [riseTo_preAlarm]
  exact (handStage_frame _ false .fire (by decide)).trans ((watchReconnect_frame _ .fire (by decide)).trans
    (preAlarmed_frame s z .fire (by decide)))

theorem mask_riseTo_preAlarm (s : State) (z : Nat) {m : Nat} (slot : m < 48) :
    ((s.riseTo z .preAlarm).moduleAt m).mask = [] := by
  rw [riseTo_preAlarm, moduleAt_of_modules (handStage_frame _ false .modules (by decide)),
    moduleAt_of_modules (watchReconnect_frame _ .modules (by decide))]
  unfold State.preAlarmed State.clearAllMasks
  exact mask_clearMasks (List.mem_range.mpr slot) slot

/-- A zone at PRE_ALARM ends the timing of a reconnection (R115). -/
theorem watchReconnect_of_preAlarm (alarmed : s.anyPreAlarm = true) (timing : s.conn.state = .reconnectTiming) :
    s.watchReconnect.conn.state = .openWait := by
  have barred : s.reconnectAllowed = false := by
    simp [State.reconnectAllowed, alarmed]
  rw [State.watchReconnect, if_pos (by rw [timing, barred]; rfl)]
  exact congrArg ConnRec.state (connTo_conn (s.setConn { s.conn with reconnectEnd := none }) .openWait)

theorem conn_riseTo_preAlarm (inRange : z < s.fire.zones.length) (timing : s.conn.state = .reconnectTiming) :
    (s.riseTo z .preAlarm).conn.state = .openWait := by
  have fire : (s.preAlarmed z).fire = s.fire.withZone z _ := preAlarmed_frame s z .fire (by decide)
  have stage : ((s.preAlarmed z).fireZone z).stage = .preAlarm := by rw [fireZone_withZone (congrArg _ fire) inRange]
  have there : z < (s.preAlarmed z).fire.zones.length := by rw [fire]; simpa [FireUnit.withZone] using inRange
  have conn : (s.preAlarmed z).conn = s.conn := preAlarmed_frame s z .conn (by decide)
  rw [riseTo_preAlarm, show (State.handStage _ false).conn = _ from handStage_frame _ false .conn (by decide)]
  refine watchReconnect_of_preAlarm ?_ (conn.symm ▸ timing)
  exact (anyPreAlarm_iff _).mpr ⟨_, by simp [State.fireZone, there], .inl stage⟩

/-! ### The release (R147, R148) -/

theorem lineIsActive_of (config : t.config = s.config) (lines : t.lines = s.lines) (f : LineFunction) :
    t.lineIsActive f = s.lineIsActive f := by
  simp only [State.lineIsActive, State.lineEntry, State.lineAt, State.tables, config, lines]

theorem holdActive_of (config : t.config = s.config) (lines : t.lines = s.lines) : t.holdActive = s.holdActive :=
  lineIsActive_of config lines .releaseHold

theorem releaseZone_fire (s : State) (z : Nat) : (s.releaseZone z).fire =
    { s.fire.withZone z (fun r => { r with stage := .released, countdown := none }) with releaseOut := true } := by
  unfold State.releaseZone
  exact (handStage_frame _ false .fire (by decide)).trans (raise_frame _ _ _ .fire (by decide))

theorem isLatched_releaseZone (s : State) (z : Nat) : (s.releaseZone z).isLatched .release = true :=
  isLatched_of_flags (handStage_frame _ false .flags (by decide)) (isLatched_latch_self _ .release)

/-- The release_delay of T13 in ms (R136). -/
def State.releaseMs (s : State) : Nat := s.tables.t13.releaseDelay * 1000

/-- Whether a zone that reaches FIRE is released at once (R147). -/
def State.releasesAtOnce (s : State) : Bool := s.releaseMs == 0 && !s.holdActive

/-- A zone that starts its release (R147). -/
def State.releasing (s : State) (r : FireZone) : FireZone :=
  if s.releasesAtOnce then { r with stage := .released, countdown := none }
  else { r with
    stage := .releaseDelay
    countdown := some (if s.holdActive then .paused s.releaseMs else .running (s.after s.releaseMs)) }

/-- The zone is counting toward its release. -/
def State.releasePending (s : State) (z : Nat) : State :=
  ((s.modFireZone z fun r =>
    { r with
      stage := .releaseDelay
      countdown := some (if s.holdActive then .paused s.releaseMs else .running (s.after s.releaseMs)) }).raise
    .fireReleasePending (some z)).handStage false

theorem releasePending_frame (s : State) (z : Nat) :
    s.changesOnly (s.releasePending z) [.fire, .envelope, .gate, .thermal, .fieldPort, .notices, .counters] :=
  State.changesOnly_trans (State.changesOnly_mono (setFire_frame _ _) (by decide))
    (State.changesOnly_trans (State.changesOnly_mono (raise_frame _ _ _) (by decide))
      (State.changesOnly_mono (handStage_frame _ _) (by decide)))

theorem startRelease_eq (s : State) (z : Nat) :
    s.startRelease z =
      if s.tables.t13.releaseEnable.getD z false then
        if s.releasesAtOnce then (s.releasePending z).releaseZone z else s.releasePending z
      else s := by
  have hold : (s.releasePending z).holdActive = s.holdActive :=
    holdActive_of (releasePending_frame s z .config (by decide)) (releasePending_frame s z .lines (by decide))
  unfold State.releasesAtOnce
  rw [← hold]
  rfl

theorem releasePending_fire (s : State) (z : Nat) : (s.releasePending z).fire = s.fire.withZone z fun r =>
    { r with
      stage := .releaseDelay
      countdown := some (if s.holdActive then .paused s.releaseMs else .running (s.after s.releaseMs)) } :=
  (handStage_frame _ false .fire (by decide)).trans (raise_frame _ _ _ .fire (by decide))

theorem startRelease_fire (s : State) (z : Nat) :
    (s.startRelease z).fire =
      if s.tables.t13.releaseEnable.getD z false then
        { s.fire.withZone z s.releasing with releaseOut := s.releasesAtOnce || s.fire.releaseOut }
      else s.fire := by
  have zone := releasePending_fire s z
  rw [startRelease_eq]
  by_cases enabled : s.tables.t13.releaseEnable.getD z false = true
  · rw [if_pos enabled, if_pos enabled]
    unfold State.releasing
    cases atOnce : s.releasesAtOnce with
    | true =>
      rw [if_pos rfl, releaseZone_fire, zone, FireUnit.withZone_withZone]
      rfl
    | false =>
      rw [if_neg Bool.false_ne_true, zone]
      rfl
  · rw [if_neg enabled, if_neg enabled]

theorem startRelease_frame (s : State) (z : Nat) : s.changesOnly (s.startRelease z)
    [.fire, .envelope, .gate, .thermal, .fieldPort, .flags, .notices, .counters] :=
  frame_of fun h => h.startRelease (by decide)

end Sys2Proof.Machine
end

section
/-! PROOF of O49: the evaluation of a fire zone, and what reaching PRE_ALARM and FIRE brings (R141, R143 to R147). -/

namespace Sys2Proof.Machine

variable {s t : State} {z : Nat}

/-! ### A zone that reaches FIRE (R146) -/

/-- What one change of a run brings, from what the changes before it keep, and those after it keep. -/
theorem forEach_reaches {R Q : State → Prop} {f : Nat → State → State} {i : Nat} (here : ∀ s, R s → Q (f i s))
    (waits : ∀ j s, j ≠ i → R s → R (f j s)) (keeps : ∀ j s, Q s → Q (f j s)) :
    ∀ {is : List Nat} {s : State}, i ∈ is → R s → Q (s.forEach is f) := by
  intro is
  induction is with
  | nil => exact fun h => absurd h List.not_mem_nil
  | cons j is ih =>
    intro s h hs
    by_cases same : j = i
    · subst same
      exact keeps_foldl (P := Q) (s := f j s) (fun s k h => keeps k s h) (here s hs)
    · exact ih ((List.mem_cons.mp h).resolve_left (Ne.symm same)) (waits j s same hs)

/-- A zone newly in FIRE with its flag latched and the breaker tripped (R146). -/
def State.alarmed (s : State) (z : Nat) : State := (((s.ignited z).raise .fire (some z)).latch .fire).changeEval.trip .fire

/-- A zone newly in FIRE with every string out of service. -/
def State.unstrung (s : State) (z : Nat) : State := (s.alarmed z).forEach (List.range 4) fun i s => s.raiseCause i .fire

theorem burnt_eq (s : State) (z : Nat) : s.burnt z = (s.unstrung z).clearAllMasks.makeCoolant true := rfl

theorem alarmed_frame (s : State) (z : Nat) :
    s.changesOnly (s.alarmed z) [.fire, .envelope, .gate, .conn, .fieldPort, .notices, .flags, .counters] :=
  State.changesOnly_trans (State.changesOnly_mono (setFire_frame s _) (by decide))
    (State.changesOnly_trans (State.changesOnly_mono (raise_frame _ _ _) (by decide))
      (State.changesOnly_trans (State.changesOnly_mono (latch_frame _ _) (by decide))
        (State.changesOnly_trans (State.changesOnly_mono (changeEval_frame _) (by decide))
          (State.changesOnly_mono (trip_frame _ _) (by decide)))))

theorem unstrung_frame (s : State) (z : Nat) : (s.alarmed z).changesOnly (s.unstrung z) causeParts :=
  keeps_foldl (P := fun t => (s.alarmed z).changesOnly t causeParts)
    (fun t i h => State.changesOnly_trans h (raiseCause_frame t i .fire)) (State.changesOnly_refl _ _)

theorem cleared_frame (s : State) : s.changesOnly s.clearAllMasks [.modules, .fieldPort, .counters] := by
  unfold State.clearAllMasks
  exact clearMasks_frame _ _

/-- After its trip, a fire changes neither the connection, nor the flags, nor the zones. -/
theorem burnt_frame (s : State) (z : Nat) : (s.alarmed z).changesOnly (s.burnt z)
    [.strings, .modules, .envelope, .gate, .thermal, .fieldPort, .notices, .counters] := by
  rw [burnt_eq]
  exact State.changesOnly_trans (State.changesOnly_mono (unstrung_frame s z) (by decide))
    (State.changesOnly_trans (State.changesOnly_mono (cleared_frame _) (by decide))
      (State.changesOnly_mono (makeCoolant_frame _ _) (by decide)))

/-- A zone's record when it has reached FIRE, before its release. -/
def State.ignitedZone (s : State) (z : Nat) : FireZone :=
  { s.fireZone z with stage := .fire, clearTimer := none, fireTime := some s.time }

theorem burnt_zone (s : State) (z : Nat) : (s.burnt z).fire = s.fire.withZone z fun _ => s.ignitedZone z :=
  (burnt_fire s z).trans (withZone_congr (s := s)
    (g := fun r => { r with stage := .fire, clearTimer := none, fireTime := some s.time }) rfl)

/-- What a release reads stands while the zone reaches FIRE. -/
theorem burnt_reads (s : State) (z : Nat) : (s.burnt z).config = s.config ∧ (s.burnt z).lines = s.lines ∧
    (s.burnt z).time = s.time :=
  ⟨(burnt_frame s z .config (by decide)).trans (alarmed_frame s z .config (by decide)),
    (burnt_frame s z .lines (by decide)).trans (alarmed_frame s z .lines (by decide)),
    (burnt_frame s z .time (by decide)).trans (alarmed_frame s z .time (by decide))⟩

theorem releasing_of (config : t.config = s.config) (lines : t.lines = s.lines) (time : t.time = s.time) :
    t.releasing = s.releasing ∧ t.releasesAtOnce = s.releasesAtOnce := by
  have hold := holdActive_of config lines
  have ms : t.releaseMs = s.releaseMs := by rw [State.releaseMs, State.tables, config, State.releaseMs, State.tables]
  have atOnce : t.releasesAtOnce = s.releasesAtOnce := by rw [State.releasesAtOnce, ms, hold, State.releasesAtOnce]
  refine ⟨funext fun r => ?_, atOnce⟩
  unfold State.releasing State.after
  rw [atOnce, hold, ms, time]

theorem reachFire_fire (s : State) (z : Nat) :
    (s.reachFire z).fire =
      if s.tables.t13.releaseEnable.getD z false then
        { s.fire.withZone z (fun _ => s.releasing (s.ignitedZone z)) with
          releaseOut := s.releasesAtOnce || s.fire.releaseOut }
      else s.fire.withZone z fun _ => s.ignitedZone z := by
  obtain ⟨config, lines, time⟩ := burnt_reads s z
  obtain ⟨releasing, atOnce⟩ := releasing_of config lines time
  rw [State.reachFire_eq, startRelease_fire, releasing, atOnce, State.tables, config, burnt_zone,
    FireUnit.withZone_withZone]
  rfl

/-- A locking cause leaves the connection locked out, or opening toward that, whatever it was (R110, R111). -/
theorem conn_trip_lockedOut {c : TripCause} (locks : c.locks = true) : (s.trip c).conn.lockedOut := by
  have opened : (s.tripOpen c).conn.lockedOut := by
    rw [tripOpen_conn]
    exact .inr ⟨rfl, by simp [State.trippedConn, locks]⟩
  unfold State.trip
  split
  case h_1 | h_2 | h_3 => exact opened
  case h_4 state =>
    rw [if_pos locks]
    exact .inr ⟨state, rfl⟩
  case h_5 =>
    rw [if_pos locks]
    exact .inl (congrArg ConnRec.state (connTo_conn _ _))
  case h_6 =>
    rw [if_pos locks]
    exact .inl (congrArg ConnRec.state (connTo_conn _ _))
  case h_7 state => split <;> exact .inl state

theorem isLatched_startRelease {f : Flag} (h : s.isLatched f = true) : (s.startRelease z).isLatched f = true := by
  have pending : (s.releasePending z).isLatched f = true :=
    isLatched_of_flags (releasePending_frame s z .flags (by decide)) h
  rw [startRelease_eq]
  split
  · split
    · exact isLatched_of_flags (handStage_frame _ false .flags (by decide)) (isLatched_latch (isLatched_of_flags
        (raise_frame _ _ _ .flags (by decide)) pending))
    · exact pending
  · exact h

theorem isLatched_reachFire (s : State) (z : Nat) : (s.reachFire z).isLatched .fire = true := by
  refine isLatched_startRelease (isLatched_of_flags (burnt_frame s z .flags (by decide)) ?_)
  exact isLatched_trip (isLatched_changeEval (isLatched_latch_self _ .fire))

theorem conn_reachFire (s : State) (z : Nat) : (s.reachFire z).conn.lockedOut := by
  rw [State.reachFire_eq, show (State.startRelease _ z).conn = _ from startRelease_frame _ z .conn (by decide),
    show (s.burnt z).conn = _ from burnt_frame s z .conn (by decide)]
  exact conn_trip_lockedOut rfl

theorem outOfService_reachFire (s : State) (z : Nat) {i : Nat} (four : i < 4) : (s.reachFire z).outOfService i := by
  have out : (s.unstrung z).outOfService i :=
    forEach_reaches (R := fun _ => True) (Q := fun t => t.outOfService i) (fun t _ => outOfService_raiseCause t i .fire)
      (fun _ _ _ => id) (fun _ _ => (steady_outOfService i).raiseCause) (List.mem_range.mpr four) trivial
  have strings : (s.reachFire z).strings = (s.unstrung z).strings :=
    (startRelease_frame _ z .strings (by decide)).trans ((makeCoolant_frame _ _ .strings (by decide)).trans
      (cleared_frame _ .strings (by decide)))
  rwa [State.outOfService, stringAt_of_strings strings]

theorem mask_reachFire (s : State) (z : Nat) {m : Nat} (slot : m < 48) : ((s.reachFire z).moduleAt m).mask = [] := by
  rw [State.reachFire_eq, moduleAt_of_modules (startRelease_frame _ z .modules (by decide)), burnt_eq,
    moduleAt_of_modules (makeCoolant_frame _ _ .modules (by decide))]
  exact mask_clearMasks (List.mem_range.mpr slot) slot

/-! ### The cold container (R70, R125, R146) -/

/-- Limits and fan are at zero because a zone is fire-confirmed. -/
structure State.Cold (s : State) : Prop where
  confirmed : s.anyConfirmed = true
  chg : s.envelope.record.pChgLim = 0
  dis : s.envelope.record.pDisLim = 0
  fan : s.thermal.command.fanDuty = 0

theorem State.Cold.of_held (confirmed : s.anyConfirmed = true) (limits : s.LimitsHeld) (fan : s.FanHeld) : s.Cold :=
  ⟨confirmed, (limits confirmed).1, (limits confirmed).2, fan confirmed⟩

theorem limitsHeld_changeEval (s : State) : s.changeEval.LimitsHeld :=
  keeps_ite (steady_limitsHeld.correct (limitsHeld_evaluate s)) (limitsHeld_evaluate s)

theorem cold_handStage (urgent : Bool) (confirmed : s.anyConfirmed = true) : (s.handStage urgent).Cold := by
  have fire := handStage_frame s urgent .fire (by decide)
  exact .of_held ((anyConfirmed_of_fire fire).trans confirmed)
    (steady_limitsHeld.makeCoolant (limitsHeld_changeEval s)) (fanHeld_makeCoolant _ _)

/-- A zone that is confirmed keeps the container so while it starts its release. -/
theorem cold_startRelease (hs : s.Cold) (inRange : z < s.fire.zones.length) : (s.startRelease z).Cold := by
  have pending : (s.releasePending z).Cold := by
    refine cold_handStage false ((anyConfirmed_of_fire (raise_frame _ _ _ .fire (by decide))).trans ?_)
    exact anyConfirmed_of_zone (z := z) (by simpa [State.modFireZone] using inRange)
      (by rw [fireZone_withZone (s := s) rfl inRange]; rfl)
  have there : z < (s.releasePending z).fire.zones.length := by
    rw [releasePending_fire]
    simpa [FireUnit.withZone] using inRange
  rw [startRelease_eq]
  split
  · split
    · unfold State.releaseZone
      refine cold_handStage false ((anyConfirmed_of_fire (raise_frame _ _ _ .fire (by decide))).trans ?_)
      exact anyConfirmed_of_zone (z := z) (by simpa [State.modFireZone] using there)
        (by rw [fireZone_withZone (s := s.releasePending z) rfl there]; rfl)
    · exact pending
  · exact hs

theorem anyConfirmed_burnt (inRange : z < s.fire.zones.length) : (s.burnt z).anyConfirmed = true :=
  anyConfirmed_of_zone (z := z) (by rw [burnt_zone]; simpa [FireUnit.withZone] using inRange)
    (by rw [fireZone_withZone (congrArg _ (burnt_zone s z)) inRange]; rfl)

theorem cold_reachFire (inRange : z < s.fire.zones.length) : (s.reachFire z).Cold := by
  have limits : (s.burnt z).LimitsHeld :=
    steady_limitsHeld.makeCoolant (steady_limitsHeld.quiet.clearAllMasks (by decide) (steady_limitsHeld.forEach
      (fun _ _ => steady_limitsHeld.raiseCause) (steady_limitsHeld.trip (limitsHeld_changeEval _))))
  rw [State.reachFire_eq]
  refine cold_startRelease (.of_held (anyConfirmed_burnt inRange) limits (fanHeld_makeCoolant _ _)) ?_
  rw [burnt_zone]
  simpa [FireUnit.withZone] using inRange

/-! ### The coolant command of a fire (R125, R146) -/

theorem urgent_makeCoolant_normal (s : State) : (s.makeCoolant false).fieldPort.urgent = s.fieldPort.urgent := by
  cases chiller : s.addressOf .chiller 0 with
  | none =>
    rw [makeCoolant_of_unaddressed chiller]
    rfl
  | some a =>
    rw [makeCoolant_normal chiller]
    dsimp only
    split
    · exact urgent_placeNormal s _
    · exact urgent_placeNormal s _

theorem mem_urgent_handStage {p : Placed} (h : p ∈ s.fieldPort.urgent) (other : p.frame.kind ≠ kindDispatch) :
    p ∈ (s.handStage false).fieldPort.urgent := by
  rw [State.handStage, urgent_makeCoolant_normal]
  exact mem_urgent_changeEval h other

theorem mem_urgent_startRelease {p : Placed} (h : p ∈ s.fieldPort.urgent) (other : p.frame.kind ≠ kindDispatch) :
    p ∈ (s.startRelease z).fieldPort.urgent := by
  have pending : p ∈ (s.releasePending z).fieldPort.urgent :=
    mem_urgent_handStage ((raise_fieldPort _ _ _).symm ▸ h) other
  rw [startRelease_eq]
  split
  · split
    · exact mem_urgent_handStage (s := State.latch _ .release) ((raise_fieldPort _ _ _).symm ▸ pending) other
    · exact pending
  · exact h

theorem coolantFrame_of_confirmed (confirmed : s.anyConfirmed = true) (a : Nat) :
    s.coolantFrame a = s.ownFrame kindCoolantCommand a (coolantCommandPayload true (s.thermal.zones.map fun _ => 4032) 0) := by
  have making : s.coolantMaking = ⟨true, s.thermal.zones.map fun _ => 255, 0⟩ := by
    unfold State.coolantMaking
    dsimp only
    rw [if_pos confirmed, List.map_const', List.map_const', List.length_mapIdx, List.length_map]
  unfold State.coolantFrame
  rw [making]
  dsimp only
  rw [List.map_map, show (dutyOf ∘ fun _ : ZoneRec => 255) = fun _ => 4032 from funext fun _ => (by decide : dutyOf 255 = 4032)]
  rfl

theorem mem_urgent_reachFire {a : Nat} (inRange : z < s.fire.zones.length) (chiller : s.addressOf .chiller 0 = some a) :
    s.ownFrame kindCoolantCommand a (coolantCommandPayload true (s.thermal.zones.map fun _ => 4032) 0) ∈
      (s.reachFire z).fieldPort.urgent := by
  rw [State.reachFire_eq]
  refine mem_urgent_startRelease ?_ (by exact (by decide : kindCoolantCommand ≠ kindDispatch))
  have cleared : (s.unstrung z).changesOnly (s.unstrung z).clearAllMasks _ := cleared_frame _
  generalize hu : (s.unstrung z).clearAllMasks = u at cleared
  have same : s.changesOnly u
      [.strings, .modules, .fire, .envelope, .gate, .conn, .fieldPort, .notices, .flags, .counters] :=
    State.changesOnly_trans (State.changesOnly_mono (alarmed_frame s z) (by decide))
      (State.changesOnly_trans (State.changesOnly_mono (unstrung_frame s z) (by decide))
        (State.changesOnly_mono cleared (by decide)))
  have confirmed : u.anyConfirmed = true := by
    have fire : (s.burnt z).fire = u.fire := by rw [burnt_eq, hu]; exact makeCoolant_frame u true .fire (by decide)
    rw [← anyConfirmed_of_fire fire]
    exact anyConfirmed_burnt inRange
  have address : u.addressOf .chiller 0 = some a := (addressOf_of_config (same .config (by decide)) _ _).trans chiller
  have thermal : u.thermal = s.thermal := same .thermal (by decide)
  rw [burnt_eq, hu, makeCoolant_urgent address, coolantFrame_of_confirmed confirmed, thermal,
    ownFrame_of_sys (same .sys (by decide))]
  exact mem_urgent_placeUrgent _ _

/-! ### What an evaluation leaves of the fire unit -/

/-- An evaluation of a zone changes its own record, and RELEASE_OUT. -/
theorem moveStage_fire (s : State) (z : Nat) :
    ∃ g out, (s.moveStage z).fire = { s.fire.withZone z g with releaseOut := out } := by
  have same : ∀ {t : State}, t.fire = s.fire → ∃ g out, t.fire = { s.fire.withZone z g with releaseOut := out } :=
    fun h => ⟨id, s.fire.releaseOut, by rw [h, withZone_self (g := id) rfl]⟩
  have rises : ∀ target, ∃ g out, (s.riseTo z target).fire = { s.fire.withZone z g with releaseOut := out } := by
    intro target
    cases target with
    | watch => exact ⟨_, _, riseTo_watch_fire s z⟩
    | preAlarm => exact ⟨_, _, riseTo_preAlarm_fire s z⟩
    | fire =>
      show ∃ g out, (s.reachFire z).fire = _
      rw [reachFire_fire]
      split
      · exact ⟨_, _, rfl⟩
      · exact ⟨_, _, rfl⟩
    | normal => exact same rfl
    | releaseDelay => exact same rfl
    | released => exact same rfl
  unfold State.moveStage
  dsimp only
  split
  · exact same (latchStage_frame s z .fire (by decide))
  · split
    · exact rises _
    · split
      · exact ⟨_, _, rfl⟩
      · exact ⟨_, _, rfl⟩

theorem evaluateZone_fire (s : State) (z : Nat) :
    ∃ g out, (s.evaluateZone z).fire = { s.fire.withZone z g with releaseOut := out } := by
  obtain ⟨g, out, moved⟩ := moveStage_fire (s.judged z) z
  refine ⟨fun _ => g (s.judgedZone z), out, ?_⟩
  rw [evaluateZone_eq, moved, judged_fire, FireUnit.withZone_withZone]

theorem evaluateZone_other (s : State) {k : Nat} (other : k ≠ z) : (s.evaluateZone z).fireZone k = s.fireZone k := by
  obtain ⟨g, out, fire⟩ := evaluateZone_fire s z
  exact fireZone_withZone_other (g := g) (by rw [fire]) other

/-- No target stands above FIRE (R143). -/
theorem rank_targetOf_le (line : Bool) (sources : List Grade) : (targetOf line sources).rank ≤ 3 := by
  rw [targetOf_eq]
  dsimp only
  repeat' split
  all_goals decide

theorem low_of_rank {x : FireStage} (h : x.rank < 3) : x.confirmed = false := by
  cases x <;> first | rfl | exact absurd h (by decide)

theorem evaluateZone_of_rise (inRange : z < s.fire.zones.length) (rise : (s.fireZone z).stage.rank < (s.zoneTarget z).rank) :
    s.evaluateZone z = (s.judged z).riseTo z (s.zoneTarget z) := by
  have zone := fireZone_judged inRange
  have top : (s.zoneTarget z).rank ≤ 3 := rank_targetOf_le _ _
  have eq := moveStage_of_rise (s := s.judged z) (z := z) (by rw [zone]; exact low_of_rank (Nat.lt_of_lt_of_le rise top))
    (by rw [zone]; exact rise)
  exact eq.trans (by rw [zone]; rfl)

/-- A zone that stays, or rises, to a stage below FIRE (R144). -/
theorem evaluateZone_fire_of_below (inRange : z < s.fire.zones.length)
    (up : (s.fireZone z).stage.rank ≤ (s.zoneTarget z).rank) (below : s.zoneTarget z ≠ .fire) :
    (s.evaluateZone z).fire =
      s.fire.withZone z fun _ => { s.judgedZone z with stage := s.zoneTarget z, clearTimer := none } := by
  have zone := fireZone_judged inRange
  have top : (s.zoneTarget z).rank ≤ 3 := rank_targetOf_le _ _
  rcases Nat.lt_or_eq_of_le up with rise | level
  · rw [evaluateZone_of_rise inRange rise]
    cases target : s.zoneTarget z with
    | normal => exact absurd (target ▸ rise) (Nat.not_lt_zero _)
    | watch => rw [riseTo_watch_fire, judged_fire, FireUnit.withZone_withZone]
    | preAlarm => rw [riseTo_preAlarm_fire, judged_fire, FireUnit.withZone_withZone]
    | fire => exact absurd target below
    | releaseDelay => exact absurd (target ▸ top) (by decide)
    | released => exact absurd (target ▸ top) (by decide)
  · have same : s.zoneTarget z = (s.fireZone z).stage := by
      revert level
      generalize s.zoneTarget z = x, (s.fireZone z).stage = y
      cases x <;> cases y <;> decide
    have low : (s.fireZone z).stage.confirmed = false := by
      rw [← same]
      refine low_of_rank (Nat.lt_of_le_of_ne top fun three => below ?_)
      revert three
      generalize s.zoneTarget z = x
      cases x <;> decide
    rw [evaluateZone_eq, moveStage_of_same (by rwa [zone]) (by rw [zone]; exact same), modFireZone_fire, judged_fire,
      FireUnit.withZone_withZone]
    exact withZone_congr (by rw [same]; rfl)

/-- Whether a detector indicates for a zone, one condition after the other (R137). -/
theorem sources_eq (s : State) (z : Nat) :
    s.sources z = (s.fireZone z).cellGrade :: ((List.range 16).filter fun i =>
      (s.detectorEntry i).inUse && (s.detectorEntry i).zone == z && !(s.detectorEntry i).mask &&
        (s.detectorAt i).loop == .normal && (s.detectorAt i).grade != .none).map fun i => (s.detectorAt i).grade := by
  unfold State.sources State.detectorsOf
  rw [List.filter_filter]
  congr 2
  refine List.filter_congr fun i _ => ?_
  unfold State.indicates
  generalize (s.detectorEntry i).inUse = a, ((s.detectorEntry i).zone == z) = b, (s.detectorEntry i).mask = c,
    ((s.detectorAt i).loop == LoopState.normal) = d, ((s.detectorAt i).grade != Grade.none) = e
  revert a b c d e
  decide

theorem zoneUnwatched_iff (s : State) (z : Nat) :
    s.zoneUnwatched z = true ↔ (∃ i < 16, (s.detectorEntry i).inUse = true ∧ (s.detectorEntry i).zone = z) ∧
      ∀ i < 16, (s.detectorEntry i).inUse = true → (s.detectorEntry i).zone = z →
        (s.detectorEntry i).mask = true ∨ (s.detectorAt i).loop ≠ .normal := by
  have mem : ∀ i, i ∈ s.detectorsOf z ↔ i < 16 ∧ (s.detectorEntry i).inUse = true ∧ (s.detectorEntry i).zone = z :=
    fun i => by simp only [State.detectorsOf, List.mem_filter, List.mem_range, Bool.and_eq_true, beq_iff_eq]
  simp only [State.zoneUnwatched, Bool.and_eq_true, Bool.not_eq_true', List.isEmpty_eq_false_iff_exists_mem, mem,
    List.all_eq_true, Bool.or_eq_true, bne_iff_ne, and_imp]

/-- A temperature rise over the window is one over its least entry (R141). -/
theorem temperatureRise_any (history : List Int) (window : Nat) (threshold : Int) :
    ((temperatureRise history window).any fun x => decide (threshold ≤ x)) = true ↔
      ∃ newest earlier, history = earlier ++ [newest] ∧ ∃ y ∈ lastEntries window earlier, threshold ≤ newest - y := by
  rcases List.eq_nil_or_concat history with rfl | ⟨earlier, newest, rfl⟩
  · refine ⟨fun h => (nomatch h), ?_⟩
    rintro ⟨newest, earlier, split, -⟩
    exact absurd split (by simp)
  · have same : ∀ {a : Int} {l : List Int}, earlier.concat newest = l ++ [a] → a = newest ∧ l = earlier := by
      intro a l h
      rw [List.concat_eq_append] at h
      obtain ⟨rfl, tail⟩ := List.append_inj' h rfl
      exact ⟨(List.cons.inj tail).1.symm, rfl⟩
    have entries : (earlier.reverse.take window).Perm (lastEntries window earlier) := by
      rw [lastEntries, List.take_reverse]
      exact List.reverse_perm _
    have rise : temperatureRise (earlier.concat newest) window =
        ((earlier.reverse.take window).min?).map fun least => newest - least := by
      rw [temperatureRise, List.concat_eq_append, List.reverse_append]
      rfl
    have reduced : (∃ a l, earlier.concat newest = l ++ [a] ∧ ∃ y ∈ lastEntries window l, threshold ≤ a - y) ↔
        ∃ y ∈ earlier.reverse.take window, threshold ≤ newest - y := by
      constructor
      · rintro ⟨a, l, split, y, hy, le⟩
        obtain ⟨rfl, rfl⟩ := same split
        exact ⟨y, entries.mem_iff.mpr hy, le⟩
      · rintro ⟨y, hy, le⟩
        exact ⟨newest, earlier, List.concat_eq_append, y, entries.mem_iff.mp hy, le⟩
    rw [rise, reduced]
    cases least : (earlier.reverse.take window).min? with
    | none =>
      rw [List.min?_eq_none_iff] at least
      simp [least]
    | some w =>
      obtain ⟨mem, below⟩ := List.min?_eq_some_iff.mp least
      simp only [Option.map_some, Option.any_some, decide_eq_true_eq]
      exact ⟨fun le => ⟨w, mem, le⟩, fun ⟨y, hy, le⟩ => Int.le_trans le (by have := below y hy; omega)⟩

theorem maxTemp_any (temps : List Int) (limit : Int) :
    ((maxTemp temps).any fun x => decide (limit ≤ x)) = true ↔ ∃ x ∈ temps, limit ≤ x := by
  rw [← maxTemp_reaches_iff temps limit]
  cases maxTemp temps with
  | none => exact Iff.rfl
  | some x => exact Iff.rfl

/-- A module that a zone's cell source reads. -/
def State.reportsTo (s : State) (z m : Nat) : Prop :=
  m < 48 ∧ s.moduleInUse m = true ∧ (s.moduleAt m).zone = z ∧ (s.moduleAt m).quality = .fresh

theorem anyReport_iff (s : State) (z : Nat) (q : ModuleRec → Bool) :
    (((s.modulesInUse.map s.moduleAt).filter fun r => r.zone == z && r.quality == .fresh).any q) = true ↔
      ∃ m, s.reportsTo z m ∧ q (s.moduleAt m) = true := by
  simp only [List.any_eq_true, List.mem_filter, List.mem_map, mem_modulesInUse, Bool.and_eq_true, beq_iff_eq]
  constructor
  · rintro ⟨r, ⟨⟨m, ⟨slot, used⟩, rfl⟩, zone, fresh⟩, hq⟩
    exact ⟨m, ⟨slot, used, zone, fresh⟩, hq⟩
  · rintro ⟨m, ⟨slot, used, zone, fresh⟩, hq⟩
    exact ⟨_, ⟨⟨m, ⟨slot, used⟩, rfl⟩, zone, fresh⟩, hq⟩

/-- The grade of a cell source by its two conditions (R141). -/
theorem cellSource_eq (s : State) (z : Nat) :
    let ms := (s.modulesInUse.map s.moduleAt).filter fun r => r.zone == z && r.quality == .fresh
    s.cellSource z =
      if ms.any fun r => (maxTemp r.temps).any fun x => decide (s.tables.t13.tFire ≤ x) then .alarm
      else if ms.any fun r => (temperatureRise r.history s.tables.t13.riseWindow).any
        fun x => decide (s.tables.t13.riseThreshold ≤ x) then .pre
      else .none := rfl

/-- A zone in FIRE with its release started, where it is enabled (R147). -/
theorem released_eq {v : FireZone} {release hold : Bool} {delay : Nat} (ms : delay = s.releaseMs) (held : hold = s.holdActive)
    (now : PartTime) (h : now = s.time) :
    (if release then s.releasing { v with stage := .fire, clearTimer := none, fireTime := some now }
      else { v with stage := .fire, clearTimer := none, fireTime := some now }) =
      { v with
        clearTimer := none, fireTime := some now
        stage := if !release then .fire else if delay = 0 ∧ hold = false then .released else .releaseDelay
        countdown :=
          if !release then v.countdown
          else if hold then some (.paused delay)
          else if delay = 0 then none else some (.running (now + BitVec.ofNat 32 delay)) } := by
  subst ms held h
  unfold State.releasing State.releasesAtOnce State.after
  cases release with
  | false => rfl
  | true =>
    cases hold : s.holdActive with
    | true => simp
    | false => by_cases zero : s.releaseMs = 0 <;> simp [zero]

/-- Settles O49, from the zone's record once it is judged and the move that its target gives its stage. -/
theorem fireZonesFollowTheirSources : Obligations.FireZonesFollowTheirSources := by
  refine ⟨fun s z hz eight => ?_, fun s z => ?_⟩
  · intro r sources alarms graded target t v release delay hold
    have inRange : z < s.fire.zones.length := eight.symm ▸ hz
    have target_eq : s.zoneTarget z = target := targetOf_eq _ _
    have zone : (s.judged z).fireZone z = v := by
      rw [fireZone_judged inRange, State.judgedZone, target_eq]
    have judged := judged_frame s z
    have config : (s.judged z).config = s.config := judged .config (by decide)
    have time : (s.judged z).time = s.time := judged .time (by decide)
    have there : z < (s.judged z).fire.zones.length := by rw [judged_fire]; simpa [FireUnit.withZone] using inRange
    have stage : ((s.judged z).fireZone z).stage = r.stage := by rw [zone]
    have aim : ((s.judged z).fireZone z).target = target := by rw [zone]
    have clearEnd : (s.judged z).clearEnd = s.time + BitVec.ofNat 32 (s.tables.t13.clearTime * 1000) := by
      rw [State.clearEnd, State.after, State.tables, time, config]
      rfl
    have rises : r.stage.rank < target.rank → t = (s.judged z).riseTo z target := fun rise => by
      have eq := evaluateZone_of_rise inRange (target_eq.symm ▸ rise)
      rwa [target_eq] at eq
    obtain ⟨g, out, fire⟩ := evaluateZone_fire s z
    refine ⟨sources_eq s z, zoneUnwatched_iff s z, fun confirmed => ?_, fun low same => ?_, fun low above => ?_,
      fun rise notFire => ?_, fun rise pre => ?_, fun rise burns => ?_, fun k other => evaluateZone_other s other,
      (congrArg FireUnit.detectors fire :), (congrArg FireUnit.timerEnd fire :), evaluateZone_frame s z⟩
    · have held : ((s.judged z).fireZone z).stage.confirmed = true := by rwa [stage]
      have eq : t = (s.judged z).latchStage z := moveStage_of_confirmed held
      rw [eq]
      refine ⟨(fireZone_of_fire (latchStage_frame _ z .fire (by decide)) z).trans zone, isLatched_latchStage held,
        fun released => isLatched_latchStage_release (by rwa [stage])⟩
    · have eq : t = _ := moveStage_of_same (s := s.judged z) (z := z) (by rwa [stage]) (by rw [stage, aim, same])
      rw [eq, fireZone_withZone (s := s.judged z) rfl there, zone]
    · have eq : t = _ := moveStage_of_above (s := s.judged z) (z := z) (by rwa [stage]) (by rwa [stage, aim])
      rw [eq, fireZone_withZone (s := s.judged z) rfl there, zone]
      exact congrArg (fun ends : PartTime => ({ v with clearTimer := some (
        match v.clearTimer with
        | none => ⟨ends, target⟩
        | some c => ⟨c.ends, if c.ceiling.rank < target.rank then target else c.ceiling⟩) } : FireZone)) clearEnd
    · have fire := evaluateZone_fire_of_below inRange (target_eq.symm ▸ Nat.le_of_lt rise) (target_eq.symm ▸ notFire)
      rw [fireZone_withZone (congrArg _ fire) inRange, State.judgedZone, target_eq]
    · rw [rises rise, pre]
      refine ⟨fun m slot => mask_riseTo_preAlarm _ z slot, fun timing => conn_riseTo_preAlarm there ?_⟩
      rwa [show (s.judged z).conn = s.conn from judged .conn (by decide)]
    · have eq : t = (s.judged z).reachFire z := by rw [rises rise, burns]; rfl
      rw [eq]
      obtain ⟨-, chg, dis, fan⟩ := cold_reachFire there
      have lines : (s.judged z).lines = s.lines := judged .lines (by decide)
      obtain ⟨releasing, atOnce⟩ := releasing_of config lines time
      have once : s.releasesAtOnce = true ↔ delay = 0 ∧ hold = false := by
        simp only [State.releasesAtOnce, Bool.and_eq_true, beq_iff_eq, Bool.not_eq_true']
        rfl
      have reached := reachFire_fire (s.judged z) z
      rw [releasing, atOnce, show (s.judged z).tables = s.tables from congrArg ConfigStore.tables config] at reached
      refine ⟨?_, isLatched_reachFire _ z, conn_reachFire _ z, fun i four => (serving_iff_not _).mp
        (outOfService_reachFire _ z four), fun m slot => mask_reachFire _ z slot, chg, dis, fan, fun a chiller => ?_,
        fun enabled zero free => ?_⟩
      · have ignited : (s.judged z).ignitedZone z = { v with stage := .fire, clearTimer := none, fireTime := some s.time } := by
          rw [State.ignitedZone, zone, time]
        have after : (((s.judged z).reachFire z).fireZone z) =
            if release then s.releasing ((s.judged z).ignitedZone z) else (s.judged z).ignitedZone z := by
          by_cases enabled : release = true
          · rw [if_pos enabled] at reached ⊢
            exact fireZone_withZone (g := fun _ => s.releasing ((s.judged z).ignitedZone z)) (by rw [reached]) there
          · rw [if_neg enabled] at reached ⊢
            exact fireZone_withZone (g := fun _ => (s.judged z).ignitedZone z) (by rw [reached]) there
        rw [after, ignited]
        exact released_eq rfl rfl s.time rfl
      · have waits := mem_urgent_reachFire there ((addressOf_of_config config _ _).trans chiller)
        rwa [show (s.judged z).thermal = s.thermal from judged .thermal (by decide),
          ownFrame_of_sys (judged .sys (by decide))] at waits
      · rw [State.reachFire_eq, startRelease_eq]
        obtain ⟨burntConfig, burntLines, burntTime⟩ := burnt_reads (s.judged z) z
        have enable : ((s.judged z).burnt z).tables.t13.releaseEnable.getD z false = true := by
          rw [State.tables, burntConfig, config]
          exact enabled
        have atOnce' : ((s.judged z).burnt z).releasesAtOnce = true := by
          rw [(releasing_of burntConfig burntLines burntTime).2, atOnce]
          exact once.mpr ⟨zero, free⟩
        rw [if_pos enable, if_pos atOnce', releaseZone_fire]
        exact ⟨rfl, isLatched_releaseZone _ z⟩
  · intro reports t13 hot rising
    have hot_iff := anyReport_iff s z fun r => (maxTemp r.temps).any fun x => decide (s.tables.t13.tFire ≤ x)
    have rising_iff := anyReport_iff s z fun r => (temperatureRise r.history s.tables.t13.riseWindow).any
      fun x => decide (s.tables.t13.riseThreshold ≤ x)
    simp only [maxTemp_any] at hot_iff
    simp only [temperatureRise_any] at rising_iff
    have rises : (∃ m, s.reportsTo z m ∧ ∃ newest earlier, (s.moduleAt m).history = earlier ++ [newest] ∧
        ∃ y ∈ lastEntries s.tables.t13.riseWindow earlier, s.tables.t13.riseThreshold ≤ newest - y) ↔ rising :=
      ⟨fun ⟨m, hm, newest, earlier, h⟩ => ⟨m, newest, earlier, hm, h⟩,
        fun ⟨m, newest, earlier, hm, h⟩ => ⟨m, hm, newest, earlier, h⟩⟩
    refine ⟨fun h => ?_, fun h k => ?_, fun h k => ?_, rfl⟩
    · exact (cellSource_eq s z).trans (if_pos (hot_iff.mpr h))
    · exact (cellSource_eq s z).trans ((if_neg (mt hot_iff.mp h)).trans (if_pos (rising_iff.mpr (rises.mpr k))))
    · exact (cellSource_eq s z).trans ((if_neg (mt hot_iff.mp h)).trans
        (if_neg (mt (fun x => rises.mp (rising_iff.mp x)) k)))

end Sys2Proof.Machine
end

section
/-! PROOF of O44: RELEASE GATE, CONNECT, DISCONNECT, RESET LOCKOUT, RESET FIRE and unknown requests (R84, R117, R118,
R148, R149, R165). -/

namespace Sys2Proof.Machine

variable {s t : State} {z : Nat}

/-! ### The reserved place is no part of what a request does -/

theorem ite_setStationPort (c : Prop) [Decidable c] (x y : State) (p : StationPort) :
    (if c then x else y).setStationPort p = if c then x.setStationPort p else y.setStationPort p :=
  apply_ite (fun u : State => u.setStationPort p) c x y

theorem raise_setStationPort (s : State) (p : StationPort) (k : NoticeKind) (x : Option Nat) :
    (s.setStationPort p).raise k x = (s.raise k x).setStationPort p := by
  unfold State.raise
  dsimp only
  rw [ite_setStationPort]
  rfl

theorem placeNormal_setStationPort (s : State) (p : StationPort) (x : Placed) :
    (s.setStationPort p).placeNormal x = (s.placeNormal x).setStationPort p := by
  unfold State.placeNormal
  rw [ite_setStationPort, ite_setStationPort]
  rfl

theorem placeDispatch_setStationPort (s : State) (p : StationPort) (type : FrameType) (dest : Nat) (m : Making) :
    (s.setStationPort p).placeDispatch type dest m = (s.placeDispatch type dest m).setStationPort p := by
  unfold State.placeDispatch
  dsimp only
  rw [ite_setStationPort, ite_setStationPort, placeNormal_setStationPort]
  rfl

theorem evaluate_setStationPort (s : State) (p : StationPort) :
    (s.setStationPort p).evaluate = s.evaluate.setStationPort p := rfl

theorem makeFrame_setStationPort (s : State) (p : StationPort) (type : FrameType) :
    (s.setStationPort p).makeFrame type = (s.makeFrame type).setStationPort p := by
  unfold State.makeFrame
  rw [evaluate_setStationPort]
  dsimp only
  have address : (s.evaluate.setStationPort p).pcsAddress = s.evaluate.pcsAddress := addressOf_of_config rfl _ _
  rw [address]
  cases s.evaluate.pcsAddress with
  | none => rfl
  | some a => exact placeDispatch_setStationPort s.evaluate p type a _

theorem correct_setStationPort (s : State) (p : StationPort) :
    (s.setStationPort p).correct = s.correct.setStationPort p := by
  unfold State.correct
  dsimp only
  rw [ite_setStationPort, makeFrame_setStationPort, raise_setStationPort]
  rfl

theorem changeEval_setStationPort (s : State) (p : StationPort) :
    (s.setStationPort p).changeEval = s.changeEval.setStationPort p := by
  unfold State.changeEval
  dsimp only
  rw [ite_setStationPort, evaluate_setStationPort, correct_setStationPort]
  rfl

/-! ### Requests without arguments -/

theorem plain_of {needsMaint : Bool} (body : State → Answer) (maint : needsMaint = true → s.lines.maint.active = true) :
    s.plain needsMaint [] body = body s := checked_of_fits body maint rfl

theorem answer_releaseGate_held (held : s.gate.state = .held) (free : s.lineIsActive .eStop = false) :
    s.answer 18 (State.releaseGate []) =
      ((s.setGate { s.gate with state := .passing, heldCause := none }).raise .gatePassing none).withResponse 18 .ok
        (.gate .passing) := by
  refine answer_of ?_ (raise_frame _ _ _ .stationPort (by decide))
  refine (plain_of (needsMaint := false) _ nofun).trans ?_
  rw [← raise_setStationPort]
  exact (if_pos (beq_iff_eq.mpr held)).trans (if_neg (Bool.eq_false_iff.mp free))

theorem answer_releaseGate_stopped (held : s.gate.state = .held) (stop : s.lineIsActive .eStop = true) :
    s.answer 18 (State.releaseGate []) = s.withResponse 18 .refusedState (.gate .held) := by
  refine answer_of_same ((plain_of (needsMaint := false) _ nofun).trans ?_)
  refine (if_pos (beq_iff_eq.mpr held)).trans ((if_pos stop).trans ?_)
  rw [show s.reserving.gate.state = .held from held]

theorem answer_releaseGate_passing (passing : s.gate.state = .passing) :
    s.answer 18 (State.releaseGate []) = s.withResponse 18 .ok (.gate .passing) := by
  refine answer_of_same ((plain_of (needsMaint := false) _ nofun).trans ?_)
  have other : ¬(s.reserving.gate.state == .held) = true := by
    rw [show s.reserving.gate.state = .passing from passing]
    decide
  refine (if_neg other).trans ?_
  rw [show s.reserving.gate.state = .passing from passing]
  rfl

theorem answer_connect_open (other : s.conn.state ≠ .openLocked) :
    s.answer 19 (State.connect []) =
      (s.setConn { s.conn with request := .connect }).withResponse 19 .ok (.connection s.conn.state) := by
  refine answer_of ((plain_of (needsMaint := false) _ nofun).trans ?_) rfl
  exact if_neg fun h => other (eq_of_beq h)

theorem answer_connect_locked (locked : s.conn.state = .openLocked) :
    s.answer 19 (State.connect []) = s.withResponse 19 .refusedState (.connection .openLocked) := by
  refine answer_of_same ((plain_of (needsMaint := false) _ nofun).trans ((if_pos (beq_iff_eq.mpr locked)).trans ?_))
  rw [show s.reserving.conn.state = .openLocked from locked]

theorem answer_disconnect_timing (timing : s.conn.state = .reconnectTiming) :
    s.answer 20 (State.disconnectRequest []) =
      (s.setConn { s.conn with request := .disconnect, reconnectEnd := none, state := .openWait }).changeEval.withResponse 20
        .ok (.connection .openWait) := by
  refine answer_of ((plain_of (needsMaint := false) _ nofun).trans ?_) (changeEval_frame _ .stationPort (by decide))
  have stopped : s.reserving.disconnect =
      ((s.setConn { s.conn with request := .disconnect, reconnectEnd := none, state := .openWait }).setStationPort
        s.reserving.stationPort).changeEval := by
    unfold State.disconnect
    simp only [show (s.reserving.setConn { s.reserving.conn with request := .disconnect }).conn.state = .reconnectTiming from
      timing]
    rfl
  dsimp only
  rw [stopped, changeEval_setStationPort]
  refine congrArg (fun x => (_, Status.ok, ResultData.connection x)) ?_
  exact congrArg ConnRec.state (changeEval_frame _ .conn (by decide))

theorem answer_disconnect_open (state : s.conn.state = .openWait ∨ s.conn.state = .opening ∨ s.conn.state = .openLocked) :
    s.answer 20 (State.disconnectRequest []) =
      (s.setConn { s.conn with request := .disconnect }).withResponse 20 .ok (.connection s.conn.state) := by
  refine answer_of ((plain_of (needsMaint := false) _ nofun).trans ?_) rfl
  have stands : s.reserving.disconnect = s.reserving.setConn { s.reserving.conn with request := .disconnect } := by
    unfold State.disconnect
    rcases state with state | state | state <;>
      simp only [show (s.reserving.setConn { s.reserving.conn with request := .disconnect }).conn.state = _ from state]
  dsimp only
  rw [stands]
  rfl

theorem conn_disconnect_closed
    (state : s.conn.state = .connected ∨ s.conn.state = .rideThrough ∨ s.conn.state = .closing) :
    s.disconnect.conn = (s.setConn { s.conn with request := .disconnect }).trippedConn .disconnect := by
  rw [← tripOpen_conn]
  unfold State.disconnect State.trip
  rcases state with state | state | state <;>
    simp only [show (s.setConn { s.conn with request := .disconnect }).conn.state = _ from state]

/-! ### RESET LOCKOUT (R118) -/

theorem answer_resetLockout_refused (maint : s.lines.maint.active = true)
    (barred : s.anyConfirmed = true ∨ (s.conn.state = .openLocked ∧ s.conn.feedback = .closed)) :
    s.answer 21 (State.resetLockoutRequest []) = s.withResponse 21 .refusedState .none := by
  refine answer_of_same ((plain_of (s := s.reserving) (needsMaint := true) _ fun _ => maint).trans (if_pos ?_))
  simp only [Bool.or_eq_true, Bool.and_eq_true, beq_iff_eq]
  exact barred

theorem answer_resetLockout_taken (maint : s.lines.maint.active = true) (calm : s.anyConfirmed = false)
    (free : ¬(s.conn.state = .openLocked ∧ s.conn.feedback = .closed)) :
    s.answer 21 (State.resetLockoutRequest []) = s.answer 21 fun s => (s.resetLockout, .ok, .none) := by
  refine answer_congr ((plain_of (s := s.reserving) (needsMaint := true) _ fun _ => maint).trans (if_neg ?_))
  simp only [Bool.or_eq_true, Bool.and_eq_true, beq_iff_eq]
  exact not_or.mpr ⟨Bool.eq_false_iff.mp calm, free⟩

theorem resetLockout_of_locked (locked : s.conn.state = .openLocked) :
    s.resetLockout = (s.setConn { s.conn with history := [], lockout := .none }).connTo .openWait := by
  simp only [State.resetLockout, State.setConn_conn, locked]

theorem answer_resetLockout_elsewhere (other : s.conn.state ≠ .openLocked) :
    s.answer 21 (fun s => (s.resetLockout, .ok, .none)) =
      (s.setConn { s.conn with
        history := [], lockout := .none
        target := if s.conn.state = .opening then some .openWait else s.conn.target }).withResponse 21 .ok .none := by
  refine answer_of ?_ rfl
  have eq : s.reserving.resetLockout = s.reserving.setConn { s.reserving.conn with
      history := [], lockout := .none
      target := if s.conn.state = .opening then some .openWait else s.conn.target } := by
    have conn : s.reserving.conn = s.conn := rfl
    unfold State.resetLockout
    cases state : s.conn.state <;>
      simp only [State.setConn_conn, conn, state, reduceCtorEq, if_true, if_false] <;> first | rfl | exact absurd state other
  rw [eq]
  rfl

/-! ### RESET FIRE (R149) -/

theorem byByte_of {needsMaint : Bool} {b : Byte} {body : Nat → State → Answer}
    (maint : needsMaint = true → s.lines.maint.active = true) : s.byByte needsMaint [b] body = body b.toNat s :=
  checked_of_fits (fits := [b].length == 1) _ maint rfl

theorem answer_resetFire_beyond {b : Byte} (maint : s.lines.maint.active = true) (beyond : 7 < b.toNat) :
    s.answer 22 (State.resetFireRequest [b]) = s.withResponse 22 .refusedInvalid .none :=
  answer_of_same ((byByte_of (s := s.reserving) (needsMaint := true) fun _ => maint).trans (if_pos beyond))

theorem answer_resetFire_blocked {b : Byte} (maint : s.lines.maint.active = true) (zone : b.toNat ≤ 7)
    (blocked : s.resetFireBlocked b.toNat = true) :
    s.answer 22 (State.resetFireRequest [b]) = s.withResponse 22 .refusedState .none :=
  answer_of_same ((byByte_of (s := s.reserving) (needsMaint := true) fun _ => maint).trans
    ((if_neg (Nat.not_lt.mpr zone)).trans (if_pos blocked)))

theorem answer_resetFire_taken {b : Byte} (maint : s.lines.maint.active = true) (zone : b.toNat ≤ 7)
    (free : s.resetFireBlocked b.toNat = false) :
    s.answer 22 (State.resetFireRequest [b]) = s.answer 22 fun s =>
      (s.resetFireZone b.toNat, .ok, .fireStage ((s.resetFireZone b.toNat).fireZone b.toNat).stage) :=
  answer_congr ((byByte_of (s := s.reserving) (needsMaint := true) fun _ => maint).trans
    ((if_neg (Nat.not_lt.mpr zone)).trans (if_neg (Bool.eq_false_iff.mp free))))

theorem resetFireBlocked_iff (s : State) (z : Nat) :
    .alarm ∈ s.sources z ∨ (s.fireZone z).lineIndication = true ↔ s.resetFireBlocked z = true := by
  simp only [State.resetFireBlocked, Bool.or_eq_true, List.any_eq_true, beq_iff_eq, exists_eq_right]

/-- A zone without an ALARM or a line indication goes by how many of its sources are graded (R143). -/
theorem zoneTarget_of_free (free : s.resetFireBlocked z = false) :
    s.zoneTarget z =
      (let graded := ((s.sources z).filter (· != .none)).length
       if 2 ≤ graded then .preAlarm else if graded = 1 then .watch else .normal) := by
  obtain ⟨none, off⟩ := not_or.mp (mt (resetFireBlocked_iff s z).mp (Bool.eq_false_iff.mp free))
  have alarms : (s.sources z).filter (· == .alarm) = [] :=
    List.filter_eq_nil_iff.mpr fun g hg same => none (eq_of_beq same ▸ hg)
  rw [State.zoneTarget, targetOf_eq, alarms]
  simp [off]

/-! ### A zone reset (R149) -/

/-- A zone's record as RESET FIRE leaves it, before its evaluation. -/
def FireZone.cleared (r : FireZone) : FireZone :=
  { r with stage := .normal, clearTimer := none, countdown := none, fireTime := none }

theorem fallen_frame (s : State) (z : Nat) :
    s.changesOnly (s.fallen z) [.fire, .envelope, .gate, .thermal, .fieldPort, .notices, .counters] := by
  unfold State.fallen
  refine State.changesOnly_trans (t := s.modFireZone z FireZone.cleared)
    (State.changesOnly_mono (setFire_frame _ _) (by decide)) ?_
  refine State.changesOnly_trans ?_ (State.changesOnly_mono (setFire_frame _ _) (by decide))
  split
  · exact State.changesOnly_mono (handFall_frame _ z) (by decide)
  · exact State.changesOnly_refl _ _

theorem fallen_fire (s : State) (z : Nat) : (s.fallen z).fire = { s.fire.withZone z FireZone.cleared with
    releaseOut := s.fire.releaseOut && (s.fire.withZone z FireZone.cleared).zones.any (·.stage == .released) } := by
  have told : (if decide (0 < (s.fireZone z).stage.rank) then (s.modFireZone z FireZone.cleared).handFall z
      else s.modFireZone z FireZone.cleared).fire = s.fire.withZone z FireZone.cleared := by
    split
    · exact handFall_frame _ z .fire (by decide)
    · rfl
  have eq : (s.fallen z).fire = (State.followRelease (if decide (0 < (s.fireZone z).stage.rank) then
      (s.modFireZone z FireZone.cleared).handFall z else s.modFireZone z FireZone.cleared)).fire := rfl
  rw [eq, State.followRelease, State.setFire_fire, told]
  rfl

theorem fireZone_fallen (inRange : z < s.fire.zones.length) : (s.fallen z).fireZone z = (s.fireZone z).cleared :=
  fireZone_withZone (g := FireZone.cleared) (by rw [fallen_fire]) inRange

/-- A zone at rest has the sources that it had. -/
theorem fallen_reads (inRange : z < s.fire.zones.length) :
    (s.fallen z).sources z = s.sources z ∧ (s.fallen z).zoneUnwatched z = s.zoneUnwatched z ∧
      (s.fallen z).resetFireBlocked z = s.resetFireBlocked z := by
  have config : (s.fallen z).config = s.config := fallen_frame s z .config (by decide)
  have detectors : (s.fallen z).fire.detectors = s.fire.detectors := by rw [fallen_fire]; rfl
  have zone := fireZone_fallen inRange
  have sources := sources_of config detectors (z := z) (by rw [zone]; rfl)
  refine ⟨sources, zoneUnwatched_of config detectors z, ?_⟩
  rw [State.resetFireBlocked, sources, zone]
  rfl

theorem resetFireZone_fire (inRange : z < s.fire.zones.length) (free : s.resetFireBlocked z = false) :
    (s.resetFireZone z).fire = (s.fallen z).fire.withZone z fun _ =>
      { (s.fireZone z).cleared with
        stage := s.zoneTarget z, target := s.zoneTarget z, unwatched := s.zoneUnwatched z } := by
  obtain ⟨sources, unwatched, blocked⟩ := fallen_reads inRange
  have there : z < (s.fallen z).fire.zones.length := by rw [fallen_fire]; simpa [FireUnit.withZone] using inRange
  have zone := fireZone_fallen inRange
  have target : (s.fallen z).zoneTarget z = s.zoneTarget z := by
    rw [State.zoneTarget, State.zoneTarget, sources, zone]
    rfl
  have below : s.zoneTarget z ≠ .fire := by
    rw [zoneTarget_of_free free]
    dsimp only
    repeat' split
    all_goals exact FireStage.noConfusion
  rw [State.resetFireZone_eq, evaluateZone_fire_of_below there (by rw [zone]; exact Nat.zero_le _) (target ▸ below),
    State.judgedZone, target, unwatched, zone]
  rfl

/-- RELEASE_OUT stands after a reset zone where another zone is RELEASED (R148). -/
theorem releaseOut_fallen (eight : s.fire.zones.length = 8) (z : Nat) :
    (s.fallen z).fire.releaseOut = true ↔
      s.fire.releaseOut = true ∧ ∃ j < 8, j ≠ z ∧ (s.fireZone j).stage = .released := by
  rw [fallen_fire]
  dsimp only
  rw [Bool.and_eq_true, List.any_eq_true]
  refine and_congr_right fun _ => ?_
  simp only [beq_iff_eq]
  constructor
  · rintro ⟨u, mem, released⟩
    obtain ⟨j, hj, rfl⟩ := List.mem_iff_getElem.mp mem
    have low : j < s.fire.zones.length := by simpa [FireUnit.withZone] using hj
    simp only [FireUnit.withZone, List.getElem_modify] at released
    split at released
    · exact nomatch released
    · rename_i other
      refine ⟨j, eight ▸ low, fun same => other same.symm, ?_⟩
      simpa [State.fireZone, low] using released
  · rintro ⟨j, low, other, released⟩
    have there : j < (s.fire.withZone z FireZone.cleared).zones.length := by simpa [FireUnit.withZone, eight] using low
    refine ⟨_, List.getElem_mem there, ?_⟩
    simp only [FireUnit.withZone, List.getElem_modify, if_neg (Ne.symm other)]
    simpa [State.fireZone, eight, low] using released

theorem modify_eq_set_of_getElem? {α : Type} (g : α → α) {l : List α} {i : Nat} {a : α} (h : l[i]? = some a) :
    l.modify i g = l.set i (g a) := by
  apply List.ext_getElem?
  intro j
  rw [List.getElem?_modify, List.getElem?_set]
  by_cases same : i = j
  · subst same
    obtain ⟨inRange, here⟩ := List.getElem?_eq_some_iff.mp h
    simp [inRange, here]
  · simp [same]

theorem modFireZone_eq_set (inRange : z < s.fire.zones.length) (g : FireZone → FireZone) :
    s.modFireZone z g = s.setFire { s.fire with zones := s.fire.zones.set z (g (s.fireZone z)) } := by
  have entry : s.fire.zones[z]? = some (s.fireZone z) := by simp [State.fireZone, inRange]
  rw [State.modFireZone, modify_eq_set_of_getElem? g entry]

theorem rank_pos_iff (x : FireStage) : decide (0 < x.rank) = true ↔ ¬x = .normal := by cases x <;> decide

/-- The gate after the arrival of a request: what has heard the station is not in FAILSAFE (R86). -/
theorem requestArrives_gateState (s : State) : s.requestArrives.gate.state =
    if s.gate.state = .failsafe then .passing else s.gate.state := by
  have heard : ∀ u : State, u.stationHeard.gate.state = if u.gate.state = .failsafe then .passing else u.gate.state := by
    intro u
    unfold State.stationHeard
    dsimp only
    by_cases failsafe : u.gate.state = .failsafe
    · rw [if_pos failsafe, if_pos (beq_iff_eq.mpr failsafe), raise_gate]
      rfl
    · rw [if_neg failsafe, if_neg fun h => failsafe (eq_of_beq h)]
      rfl
  exact heard (s.setSlot .station none)

theorem exec_unknownRequest (runs : s.runs) (payload : List Byte) :
    exec (.unknownRequest payload) s = .next (s.requestArrives.managementRequest payload) :=
  State.whileRunning_of_runs runs fun s => s.requestArrives.managementRequest payload

theorem connTo_frame (s : State) (c : ConnState) :
    s.changesOnly (s.connTo c) [.conn, .envelope, .gate, .fieldPort, .notices, .counters] :=
  frame_of fun h => h.connTo (by decide)

/-- Settles O44, from the answer of each request and the record of a zone reset. -/
theorem gateConnectionAndFireRequestsAct : Obligations.GateConnectionAndFireRequestsAct := by
  refine ⟨fun s takes => ?_, fun s z hz eight free => ?_⟩
  · intro a
    have same := requestArrives_frame s
    have conn : a.conn = s.conn := same .conn (by decide)
    have fire : a.fire = s.fire := same .fire (by decide)
    have config : a.config = s.config := same .config (by decide)
    have lines : a.lines = s.lines := same .lines (by decide)
    have stop : a.lineIsActive .eStop = s.lineIsActive .eStop := lineIsActive_of config lines _
    have confirmed : a.anyConfirmed = s.anyConfirmed := anyConfirmed_of_fire fire
    have maintained : s.maintActive → a.lines.maint.active = true := fun h => by rw [lines]; exact h
    have gate : a.gate.state = _ := requestArrives_gateState s
    have blocked : ∀ z, a.resetFireBlocked z = s.resetFireBlocked z := fun z => by
      rw [State.resetFireBlocked, sources_of config (congrArg _ fire) (congrArg _ (fireZone_of_fire fire z)),
        fireZone_of_fire fire, State.resetFireBlocked]
    refine ⟨fun held free => ?_, fun held stopped => ?_, fun other => ?_, fun other => ?_, fun locked => ?_, fun timing => ?_,
      fun state => ?_, fun state => ?_, fun maint calm locked opened => ?_, fun maint barred => ?_, fun maint calm other => ?_,
      fun z maint beyond => ?_, fun z maint zone => ⟨resetFireBlocked_iff s z.toNat, fun block => ?_⟩,
      fun z maint zone free => ?_, ?_, fun b args unknown => ?_⟩
    · have eq := answer_releaseGate_held (s := a) (by rw [gate, held]; rfl) (stop.trans free)
      exact (exec_answer takes (row := rfl) (known := rfl)).trans (congrArg _ eq)
    · have eq := answer_releaseGate_stopped (s := a) (by rw [gate, held]; rfl) (stop.trans stopped)
      exact (exec_answer takes (row := rfl) (known := rfl)).trans (congrArg _ eq)
    · have passing : a.gate.state = .passing := by
        rw [gate]
        cases state : s.gate.state <;> first | rfl | exact absurd state other
      exact (exec_answer takes (row := rfl) (known := rfl)).trans (congrArg _ (answer_releaseGate_passing passing))
    · have eq := answer_connect_open (s := a) (by rwa [conn])
      rw [conn] at eq
      exact (exec_answer takes (row := rfl) (known := rfl)).trans (congrArg _ eq)
    · exact (exec_answer takes (row := rfl) (known := rfl)).trans (congrArg _ (answer_connect_locked (by rwa [conn])))
    · have eq := answer_disconnect_timing (s := a) (by rwa [conn])
      rw [conn] at eq
      exact (exec_answer takes (row := rfl) (known := rfl)).trans (congrArg _ eq)
    · have eq := answer_disconnect_open (s := a) (by rwa [conn])
      rw [conn] at eq
      exact (exec_answer takes (row := rfl) (known := rfl)).trans (congrArg _ eq)
    · refine ⟨_, exec_answer takes (row := rfl) (known := rfl), ?_⟩
      have tripped : (a.answer 20 (State.disconnectRequest [])).conn = _ :=
        (answer_frame a 20 (State.disconnectRequest []) .conn (by decide)).trans
          ((congrArg (fun x : Answer => x.1.conn) (plain_of (s := a.reserving) (needsMaint := false) _ nofun)).trans
            (conn_disconnect_closed (s := a.reserving) (by rwa [show a.reserving.conn = s.conn from conn])))
      rw [tripped]
      exact ⟨rfl, rfl, rfl⟩
    · refine ⟨_, exec_answer takes (row := rfl) (known := rfl), ?_⟩
      have eq := answer_resetLockout_taken (s := a) (maintained maint) (confirmed.trans calm)
        (by rw [conn]; exact fun h => opened h.2)
      rw [eq]
      have answered := answer_frame a 21 fun s => (s.resetLockout, .ok, .none)
      generalize a.answer 21 (fun s => (s.resetLockout, .ok, .none)) = u at answered
      have reset := resetLockout_of_locked (s := a.reserving) (show a.conn.state = _ by rwa [conn])
      have freed : (a.reserving.setConn { a.reserving.conn with history := [], lockout := .none }).changesOnly
          a.reserving.resetLockout [.conn, .envelope, .gate, .fieldPort, .notices, .counters] := by
        rw [reset]
        exact connTo_frame _ _
      have kept : s.changesOnly u [.conn, .envelope, .gate, .fieldPort, .stationPort, .notices, .counters] :=
        State.changesOnly_trans (State.changesOnly_mono (arrived_frame s) (by decide))
          (State.changesOnly_trans (State.changesOnly_mono (setConn_frame _ _) (by decide))
            (State.changesOnly_trans (State.changesOnly_mono freed (by decide)) (State.changesOnly_mono answered (by decide))))
      refine ⟨(answered .conn (by decide)).trans ?_, keeps_of_changesOnly kept (by decide)⟩
      rw [show (a.reserving.resetLockout, Status.ok, ResultData.none).1 = _ from reset, connTo_conn]
      show { a.conn with history := [], lockout := .none, state := .openWait } = _
      rw [conn]
    · exact (exec_answer takes (row := rfl) (known := rfl)).trans (congrArg _ (answer_resetLockout_refused
        (maintained maint) (by rwa [confirmed, conn])))
    · have eq := (answer_resetLockout_taken (s := a) (maintained maint) (confirmed.trans calm)
        (by rw [conn]; exact fun h => other h.1)).trans (answer_resetLockout_elsewhere (by rwa [conn]))
      rw [conn] at eq
      exact (exec_answer takes (row := rfl) (known := rfl)).trans (congrArg _ eq)
    · exact (exec_answer takes (row := rfl) (known := rfl)).trans
        (congrArg _ (answer_resetFire_beyond (maintained maint) beyond))
    · exact (exec_answer takes (row := rfl) (known := rfl)).trans
        (congrArg _ (answer_resetFire_blocked (maintained maint) zone ((blocked _).trans block)))
    · exact (exec_answer takes (row := rfl) (known := rfl)).trans
        (congrArg _ (answer_resetFire_taken (maintained maint) zone ((blocked _).trans free)))
    · refine (exec_unknownRequest takes.1 []).trans (congrArg _ ?_)
      exact (takesRequests_serve State.unknownCode takes).trans (answer_of_same rfl)
    · refine (exec_unknownRequest takes.1 (b :: args)).trans (congrArg _ ?_)
      show a.serve b.toNat ((requestOf b.toNat args).getD State.unknownCode) = _
      rw [unknown]
      exact (takesRequests_serve State.unknownCode takes).trans (answer_of_same rfl)
  · intro r graded target v cleared told t
    have inRange : z < s.fire.zones.length := eight.symm ▸ hz
    have target_eq : s.zoneTarget z = target := zoneTarget_of_free free
    have fire := resetFireZone_fire inRange free
    have there : z < (s.fallen z).fire.zones.length := by rw [fallen_fire]; simpa [FireUnit.withZone] using inRange
    refine ⟨?_, ?_, ?_, fun j other => ?_⟩
    · have cleared_eq : s.modFireZone z FireZone.cleared = cleared := modFireZone_eq_set inRange FireZone.cleared
      have told_eq : (if decide (0 < (s.fireZone z).stage.rank) then (s.modFireZone z FireZone.cleared).handFall z
          else s.modFireZone z FireZone.cleared) = told := by
        rw [cleared_eq]
        by_cases normal : r.stage = .normal
        · exact (if_neg fun h => (rank_pos_iff _).mp h normal).trans (if_pos normal).symm
        · exact (if_pos ((rank_pos_iff _).mpr normal)).trans (if_neg normal).symm
      rw [← told_eq]
      rfl
    · rw [fireZone_withZone (congrArg _ fire) there, target_eq]
      rfl
    · rw [show t.fire = _ from fire]
      exact releaseOut_fallen eight z
    · rw [fireZone_withZone_other (congrArg _ fire) other]
      exact fireZone_withZone_other (g := FireZone.cleared) (by rw [fallen_fire]) other

end Sys2Proof.Machine
end

section
/-! PROOFS of O54 and O55: the fire timers, and the lines of functions NONE, MANUAL_CALL, PANEL_FIRE and RELEASE_HOLD
(R142, R144, R147, R148, R175). -/

namespace Sys2Proof.Machine

variable {s t : State} {z : Nat}

/-! ### Expiries -/

/-- An expiry of a timer that runs and is over. -/
theorem expires {timer : Option PartTime} {f : State → State} (runs : s.runs) (due : s.due timer = true) :
    s.whileRunning (fun s => s.onExpiry timer f) = .next (f s) :=
  whileRunning_to (f := fun s => s.onExpiry timer f) runs (onExpiry_of_due f due)

/-- A zone whose clear timer is over (R144). -/
def FireZone.lowered (r : FireZone) (c : ClearTimer) (clearEnd : PartTime) : FireZone :=
  { r with
    stage := c.ceiling
    clearTimer := if r.target.rank < c.ceiling.rank then some ⟨clearEnd, r.target⟩ else none }

theorem clearTimedOut_eq {c : ClearTimer} (timer : (s.fireZone z).clearTimer = some c) :
    s.clearTimedOut z = (s.modFireZone z fun r =>
      { r with
        stage := c.ceiling
        clearTimer := if (s.fireZone z).target.rank < c.ceiling.rank then some ⟨s.clearEnd, (s.fireZone z).target⟩
          else none }).handFall z := by
  simp only [State.clearTimedOut, timer]

theorem clearTimedOut_fire {c : ClearTimer} (timer : (s.fireZone z).clearTimer = some c) :
    (s.clearTimedOut z).fire = s.fire.withZone z fun r => r.lowered c s.clearEnd := by
  rw [clearTimedOut_eq timer, show (State.handFall _ z).fire = _ from handFall_frame _ z .fire (by decide)]
  exact withZone_congr rfl

theorem clearTimedOut_frame {c : ClearTimer} (timer : (s.fireZone z).clearTimer = some c) :
    s.changesOnly (s.clearTimedOut z) [.fire, .envelope, .gate, .thermal, .fieldPort, .notices, .counters] := by
  rw [clearTimedOut_eq timer]
  exact State.changesOnly_trans (State.changesOnly_mono (setFire_frame _ _) (by decide))
    (State.changesOnly_mono (handFall_frame _ z) (by decide))

/-- Settles O54, from the record that each expiry leaves of its zone. -/
theorem fireTimersAct : Obligations.FireTimersAct := by
  intro s runs
  refine ⟨fun z c inRange timer due => ?_, fun due => ?_, fun z ends inRange counting due => ?_⟩
  · have elapsed : exec (.clearTimerExpiry z) s = .next (s.clearTimedOut z) :=
      expires runs (by rw [timer]; exact due)
    refine ⟨_, elapsed, ?_⟩
    have fire := clearTimedOut_fire timer
    rw [fireZone_withZone (congrArg _ fire) inRange]
    exact ⟨rfl, rfl, fun j other => fireZone_withZone_other (congrArg _ fire) other, clearTimedOut_frame timer⟩
  · exact expires (f := State.fireTick) runs due
  · have elapsed : exec (.releaseCountdownEnd z) s = .next (s.releaseZone z) :=
      expires runs (by rw [counting]; exact due)
    refine ⟨_, elapsed, ?_⟩
    have fire := releaseZone_fire s z
    have zone : (s.releaseZone z).fireZone z = { s.fireZone z with stage := .released, countdown := none } :=
      fireZone_withZone (g := fun r => { r with stage := .released, countdown := none }) (by rw [fire]) inRange
    rw [zone]
    refine ⟨rfl, rfl, by rw [fire], isLatched_releaseZone s z, fun j other => ?_, releaseZone_frame s z⟩
    exact fireZone_withZone_other (g := fun r => { r with stage := .released, countdown := none }) (by rw [fire]) other

/-! ### Lines that settle (R175) -/

theorem settles_of {i : Nat} {x : LineState} (stood : (s.lineEntry i).debounce ≤ (s.time - (s.lineAt i).since).toNat)
    (state : (s.lineEntry i).stateOf (s.lineAt i).high = x) (changes : (s.lineAt i).state ≠ x) :
    s.settles i = some x := by
  subst state
  exact if_pos (by rw [Bool.and_eq_true, bne_iff_ne]; exact ⟨decide_eq_true stood, Ne.symm changes⟩)

theorem onSettle_of {i : Nat} {x : LineState} (settled : s.settles i = some x) (f : State → LineState → State) :
    s.onSettle i f = f (s.setLineState i x) x := by
  simp only [State.onSettle, settled]

theorem onFunction_of {fn : LineFunction} {i : Nat} {x : LineState} (line : s.lineOf fn = some i)
    (settled : s.settles i = some x) (f : State → LineState → State) : s.onFunction fn f = f (s.setLineState i x) x := by
  simp only [State.onFunction, line, onSettle_of settled]

theorem maintSettles_of (stood : 20 ≤ (s.time - s.lines.maint.since).toNat)
    (changes : s.lines.maint.active = s.lines.maint.high) : s.maintSettles = some (!s.lines.maint.high) := by
  refine if_pos ?_
  rw [Bool.and_eq_true, changes]
  refine ⟨decide_eq_true stood, ?_⟩
  cases s.lines.maint.high <;> rfl

/-! ### Fire lines (R142) -/

theorem lineIndicates_of (config : t.config = s.config) (lines : t.lines = s.lines) (z : Nat) :
    t.lineIndicates z = s.lineIndicates z := by
  simp only [State.lineIndicates, State.lineEntry, State.lineAt, State.tables, config, lines]

/-- The line indications of the zones that a line applies to, taken one after the other. -/
theorem lineIndications_eq (s : State) {zones : List Nat} (nodup : zones.Nodup) :
    (s.forEach zones fun z s => s.modFireZone z fun r => { r with lineIndication := s.lineIndicates z }) =
      s.setFire { s.fire with
        zones := s.fire.zones.mapIdx fun z r => if z ∈ zones then { r with lineIndication := s.lineIndicates z } else r } := by
  have same : (s.forEach zones fun z u => u.modFireZone z fun r => { r with lineIndication := u.lineIndicates z }) =
      s.forEach zones fun z u => u.modFireZone z fun r => { r with lineIndication := s.lineIndicates z } :=
    foldl_congr_of (Inv := fun u => u.config = s.config ∧ u.lines = s.lines)
      (f := fun u z => u.modFireZone z fun r => { r with lineIndication := u.lineIndicates z })
      (g := fun u z => u.modFireZone z fun r => { r with lineIndication := s.lineIndicates z })
      (fun u z h => by simp only [lineIndicates_of h.1 h.2]) (fun _ _ h => h) zones ⟨rfl, rfl⟩
  rw [same]
  exact forEach_modify (set := fun u x => u.setFire { u.fire with zones := x }) (get := fun u => u.fire.zones)
    (f := fun z r => { r with lineIndication := s.lineIndicates z }) (fun _ _ => rfl) (fun _ _ _ => rfl) (fun _ _ => rfl)
    (fun _ => rfl) nodup

theorem fireLineMoved_eq (s : State) (e : LineEntry) :
    s.fireLineMoved e = ((List.range 8).filter e.appliesTo).foldl (fun t z => t.evaluateZone z) (s.setFire { s.fire with
      zones := s.fire.zones.mapIdx fun z r =>
        if z < 8 ∧ e.appliesTo z = true then { r with lineIndication := s.lineIndicates z } else r }) := by
  unfold State.fireLineMoved allZones
  dsimp only
  rw [lineIndications_eq s (nodup_filter_range e.appliesTo 8)]
  simp only [List.mem_filter, List.mem_range]
  rfl

/-! ### Countdowns (R147) -/

/-- A zone whose countdown runs on (R147). -/
def FireZone.resumed (r : FireZone) (now : PartTime) : FireZone :=
  match r.countdown with
  | some (.paused 0) => { r with stage := .released, countdown := none }
  | some (.paused (ms + 1)) => { r with countdown := some (.running (now + BitVec.ofNat 32 (ms + 1))) }
  | some (.running _) | none => r

theorem resumeCountdown_frame (s : State) (z : Nat) : s.changesOnly (s.resumeCountdown z)
    [.fire, .envelope, .gate, .thermal, .fieldPort, .flags, .notices, .counters] :=
  frame_of fun h => h.resumeCountdown (by decide)

theorem resumeCountdowns_frame (s : State) : s.changesOnly s.resumeCountdowns
    [.fire, .envelope, .gate, .thermal, .fieldPort, .flags, .notices, .counters] :=
  frame_of fun h => h.resumeCountdowns (by decide)

theorem resumeCountdown_of_over (elapsed : (s.fireZone z).countdown = some (.paused 0)) :
    s.resumeCountdown z = s.releaseZone z := by
  simp only [State.resumeCountdown, elapsed]
  rfl

/-- What a countdown that runs on leaves of the zones. -/
theorem resumeCountdown_zones (s : State) (z : Nat) :
    (s.resumeCountdown z).fire.zones = (s.fire.withZone z fun r => r.resumed s.time).zones := by
  have changed : ∀ {t : State} {g : FireZone → FireZone}, t.fire.zones = (s.fire.withZone z g).zones →
      (s.fireZone z).resumed s.time = g (s.fireZone z) →
      t.fire.zones = (s.fire.withZone z fun r => r.resumed s.time).zones := fun ht same =>
    ht.trans (congrArg FireUnit.zones (withZone_congr (s := s) (k := fun r => r.resumed s.time) same.symm))
  have stands : (s.fireZone z).resumed s.time = s.fireZone z →
      s.fire.zones = (s.fire.withZone z fun r => r.resumed s.time).zones := fun same =>
    changed (t := s) (g := id) (by rw [withZone_self (g := id) rfl]) same
  cases count : (s.fireZone z).countdown with
  | none =>
    simp only [State.resumeCountdown, count]
    exact stands (by simp only [FireZone.resumed, count])
  | some c =>
    cases c with
    | running ends =>
      simp only [State.resumeCountdown, count]
      exact stands (by simp only [FireZone.resumed, count])
    | paused ms =>
      cases ms with
      | zero =>
        rw [resumeCountdown_of_over count]
        exact changed (g := fun r => { r with stage := .released, countdown := none }) (by rw [releaseZone_fire])
          (by simp only [FireZone.resumed, count])
      | succ ms =>
        simp only [State.resumeCountdown, count]
        exact changed (g := fun r => { r with countdown := some (.running (s.after (ms + 1))) }) rfl
          (by simp only [FireZone.resumed, count, State.after])

theorem fireZone_resumeCountdowns (hz : z < 8) (eight : s.fire.zones.length = 8) :
    s.resumeCountdowns.fireZone z = (s.fireZone z).resumed s.time := by
  have once := forEach_once (Inv := fun u => u.time = s.time ∧ u.fire.zones.length = 8) (view := fun u => u.fireZone z)
    (want := fun r => r.resumed s.time) (f := State.resumeCountdown) (m := z) (l := allZones) (s := s)
    (fun i u hu => ⟨(resumeCountdown_frame u i .time (by decide)).trans hu.1, by
      rw [resumeCountdown_zones]; simpa [FireUnit.withZone] using hu.2⟩)
    (fun u hu => (fireZone_withZone (resumeCountdown_zones u z) (hu.2.symm ▸ hz)).trans (by rw [hu.1]))
    (fun i u other _ => fireZone_withZone_other (resumeCountdown_zones u i) other.symm) List.nodup_range ⟨rfl, eight⟩
  exact once.trans (if_pos (List.mem_range.mpr hz))

/-- A zone of whose countdown nothing is left is released (R147, R148). -/
theorem released_resumeCountdowns (hz : z < 8) (elapsed : (s.fireZone z).countdown = some (.paused 0)) :
    s.resumeCountdowns.fire.releaseOut = true ∧ s.resumeCountdowns.isLatched .release = true := by
  refine forEach_reaches (R := fun u => (u.fireZone z).countdown = some (.paused 0))
    (Q := fun u => u.fire.releaseOut = true ∧ u.isLatched .release = true) (fun u hu => ?_) (fun j u other hu => ?_)
    (fun j u hu => ?_) (List.mem_range.mpr hz) elapsed
  · rw [resumeCountdown_of_over hu]
    exact ⟨by rw [releaseZone_fire], isLatched_releaseZone u z⟩
  · rw [fireZone_withZone_other (resumeCountdown_zones u j) (Ne.symm other)]
    exact hu
  · unfold State.resumeCountdown
    split
    · split
      · exact ⟨by rw [releaseZone_fire], isLatched_releaseZone u j⟩
      · exact hu
    · exact hu
    · exact hu

theorem remaining_eq (s : State) (c : Countdown) :
    s.remaining c = match c with
      | .running ends => if (s.time - ends).toNat < 2147483648 then 0 else (ends - s.time).toNat
      | .paused ms => ms := by
  cases c with
  | running ends => exact ite_of_iff (by simp [State.due]) rfl rfl
  | paused ms => rfl

/-- Settles O55, from what a settled line's function does, the zones of a fire line, and the countdowns. -/
theorem linesSettleAndAct : Obligations.LinesSettleAndAct := by
  refine ⟨fun s => ⟨fun i high changes => ?_, fun high changes => ?_, fun runs stood changes => ?_,
    fun i x runs stood state changes => ?_⟩, fun s e => fireLineMoved_eq s e, fun s => ?_, fun s z hz eight => ?_⟩
  · exact congrArg _ (if_neg fun same => changes (eq_of_beq same))
  · exact congrArg _ (if_neg fun same => changes (eq_of_beq same))
  · refine whileRunning_to (f := State.maintMoves) runs ?_
    simp only [State.maintMoves, maintSettles_of stood changes]
  · intro v
    have settled := settles_of stood state changes
    refine ⟨fun none => ?_, fun fire => ?_, fun line => ?_⟩
    · refine whileRunning_to (f := fun s => if (s.lineEntry i).function == .none then s.onSettle i fun s _ => s else s) runs ?_
      exact (if_pos (beq_iff_eq.mpr none)).trans (onSettle_of settled _)
    · refine whileRunning_to (f := fun s => if (s.lineEntry i).function.isFire then
        s.onSettle i fun s _ => s.fireLineMoved (s.lineEntry i) else s) runs ?_
      refine (if_pos ?_).trans (onSettle_of settled _)
      simp only [LineFunction.isFire, Bool.or_eq_true, beq_iff_eq]
      exact fire
    · refine whileRunning_to (f := fun s => s.onFunction .releaseHold State.holdLine) runs ?_
      refine (onFunction_of line settled _).trans ?_
      cases x <;> rfl
  · intro left
    have same : left = s.remaining := funext fun c => (remaining_eq s c).symm
    clear_value left
    subst same
    rfl
  · intro r t
    have zone : t.fireZone z = r.resumed s.time := fireZone_resumeCountdowns hz eight
    refine ⟨fun ms count left => ?_, fun elapsed => ⟨?_, released_resumeCountdowns hz elapsed⟩, fun free => ?_,
      resumeCountdowns_frame s⟩
    · obtain ⟨k, rfl⟩ := Nat.exists_eq_succ_of_ne_zero left
      rw [zone]
      simp only [FireZone.resumed, count]
    · rw [zone]
      simp only [FireZone.resumed, elapsed]
    · rw [zone]
      cases count : r.countdown with
      | none => simp only [FireZone.resumed, count]
      | some c =>
        cases c with
        | running ends => simp only [FireZone.resumed, count]
        | paused ms => exact absurd count (free ms)

end Sys2Proof.Machine
end

section
/-! PROOFS of O52, O53 and O57: the timers of the envelope, the gate, the grid and the breaker, and the supply (R77 to
R79, R85, R96, R99, R106, R112 to R116, R177, R178). -/

namespace Sys2Proof.Machine

variable {s t : State}

/-! ### What a making leaves of the gate record (R92) -/

/-- The gate record but for the outputs and the time of the last frame. -/
def GateRec.unmade (g : GateRec) : GateRec := { g with pPrev := 0, qPrev := 0, pFrApplied := 0, lastFrame := none }

theorem placeDispatch_gate_unmade (s : State) (type : FrameType) (dest : Nat) (m : Making) :
    (s.placeDispatch type dest m).gate.unmade = s.gate.unmade := by
  unfold State.placeDispatch
  dsimp only
  split
  · rfl
  · split
    · rfl
    · exact congrArg GateRec.unmade (placeNormal_frame s _ .gate (by decide))

theorem makeFrame_gate_unmade (s : State) (type : FrameType) : (s.makeFrame type).gate.unmade = s.gate.unmade := by
  unfold State.makeFrame
  dsimp only
  split
  · rfl
  · exact placeDispatch_gate_unmade s.evaluate type _ _

theorem correct_gate_unmade (s : State) : s.correct.gate.unmade = s.gate.unmade := by
  unfold State.correct
  dsimp only
  split
  · rw [raise_gate, makeFrame_gate_unmade]
  · exact makeFrame_gate_unmade s .corrective

theorem changeEval_gate_unmade (s : State) : s.changeEval.gate.unmade = s.gate.unmade := by
  unfold State.changeEval
  dsimp only
  split
  · exact correct_gate_unmade s.evaluate
  · rfl

theorem tripOpen_gate_unmade (s : State) (c : TripCause) : (s.tripOpen c).gate.unmade = s.gate.unmade := by
  rw [State.tripOpen_eq]
  dsimp only
  rw [changeEval_gate_unmade, raise_gate]
  split <;> rfl

theorem connTo_gate_unmade (s : State) (c : ConnState) : (s.connTo c).gate.unmade = s.gate.unmade :=
  changeEval_gate_unmade _

theorem trip_gate_unmade (s : State) (c : TripCause) : (s.trip c).gate.unmade = s.gate.unmade := by
  unfold State.trip
  split
  case h_1 | h_2 | h_3 => exact tripOpen_gate_unmade s c
  case h_4 => split <;> rfl
  case h_5 =>
    split
    · exact connTo_gate_unmade _ _
    · rfl
  case h_6 =>
    split
    · exact connTo_gate_unmade _ _
    · exact connTo_gate_unmade _ _
  case h_7 => split <;> rfl

/-- A trip from a closed state opens the breaker (R110). -/
theorem trip_of_closed {c : TripCause}
    (state : s.conn.state = .connected ∨ s.conn.state = .rideThrough ∨ s.conn.state = .closing) : s.trip c = s.tripOpen c := by
  unfold State.trip
  rcases state with state | state | state <;> simp only [state]

/-! ### O52 -/

/-- Whether a corrective frame is due after an evaluation, one reason after the other (R96). -/
theorem correctiveDue_evaluate_iff (s : State) :
    s.evaluate.correctiveDue = true ↔ (s.evaluation.pDisLim : Int) < s.gate.pPrev ∨
      s.gate.pPrev < -(s.evaluation.pChgLim : Int) ∨
      (s.gate.qPrev ≠ 0 ∧ s.conn.state ≠ .connected ∧ s.conn.state ≠ .rideThrough) := by
  have carries : (!s.conn.state.carries) = true ↔ s.conn.state ≠ .connected ∧ s.conn.state ≠ .rideThrough := by
    rw [Bool.not_eq_true', Bool.eq_false_iff, ne_eq, carries_iff, not_or]
  show (decide ((s.evaluation.pDisLim : Int) < s.gate.pPrev) || decide ((s.evaluation.pChgLim : Int) < -s.gate.pPrev) ||
    (s.gate.qPrev != 0 && !s.conn.state.carries)) = true ↔ _
  rw [Bool.or_eq_true, Bool.or_eq_true, Bool.and_eq_true, carries, decide_eq_true_eq, decide_eq_true_eq, bne_iff_ne,
    or_assoc]
  exact or_congr Iff.rfl (or_congr (by omega) Iff.rfl)

/-- Settles O52, from the corrective check after an evaluation and what each expiry runs. -/
theorem envelopeAndGateTimersAct : Obligations.EnvelopeAndGateTimersAct := by
  refine ⟨fun s => ?_, fun s runs => ⟨fun due => ?_, fun due => ⟨fun passing => ?_, fun other => ?_⟩, fun due => ?_⟩⟩
  · intro e due
    have check : s.evaluate.correctiveDue = true ↔ due := correctiveDue_evaluate_iff s
    have corrected : due → s.changeEval = e.correct := fun h => if_pos (check.mpr h)
    have address : e.pcsAddress = s.pcsAddress := addressOf_of_config rfl _ _
    refine ⟨fun no => if_neg (mt check.mp no), fun h silent => (corrected h).trans (if_neg ?_), fun h passing some =>
      (corrected h).trans (if_pos ?_)⟩
    · rw [Bool.and_eq_true, bne_iff_ne, address, Option.isSome_iff_ne_none]
      exact fun ⟨p, a⟩ => silent.elim p a
    · rw [Bool.and_eq_true, bne_iff_ne, address, Option.isSome_iff_ne_none]
      exact ⟨passing, some⟩
  · exact expires (f := State.envelopeTick) runs due
  · exact (expires (f := State.stationSilent) runs due).trans (congrArg _ (if_pos (beq_iff_eq.mpr passing)))
  · exact (expires (f := State.stationSilent) runs due).trans (congrArg _ (if_neg fun h => other (eq_of_beq h)))
  · have ran : exec .overshootTimerExpiry s = .next s.overshot := expires (f := State.overshot) runs due
    let disarmed := s.setGate { s.gate with overshootEnd := none, overshootArmed := false }
    let told := (disarmed.latch .pcsOvershoot).raise .pcsOvershoot none
    have raised : s.changesOnly told [.gate, .flags, .notices, .counters] :=
      State.changesOnly_trans (State.changesOnly_mono (setGate_frame s _) (by decide))
        (State.changesOnly_trans (State.changesOnly_mono (latch_frame _ _) (by decide))
          (State.changesOnly_mono (raise_frame _ _ _) (by decide)))
    have tripped : s.overshot = told.trip .pcsOvershoot := rfl
    have frame : s.changesOnly s.overshot [.envelope, .gate, .conn, .fieldPort, .notices, .flags, .counters] := by
      rw [tripped]
      exact State.changesOnly_trans (State.changesOnly_mono raised (by decide)) (trip_frame _ _)
    have gate : s.overshot.gate.unmade = disarmed.gate.unmade := by
      rw [tripped, trip_gate_unmade]
      exact congrArg GateRec.unmade (raise_gate _ _ _)
    refine ⟨_, ran, ?_, (congrArg GateRec.overshootEnd gate :), (congrArg GateRec.overshootArmed gate :),
      fun state => ?_, keeps_of_changesOnly frame (by decide)⟩
    · rw [tripped]
      exact isLatched_trip (isLatched_of_flags (raise_frame _ _ _ .flags (by decide)) (isLatched_latch_self _ _))
    · have conn : told.conn = s.conn := raised .conn (by decide)
      have time : told.time = s.time := raised .time (by decide)
      have config : told.config = s.config := raised .config (by decide)
      rw [tripped, trip_of_closed (by rw [conn]; exact state.elim .inl fun h => .inr (.inl h)), tripOpen_conn]
      refine ⟨rfl, rfl, ?_⟩
      show some (told.after told.tables.t9.tripPulse) = _
      rw [State.after, State.tables, time, config]
      rfl

/-! ### O53 -/

theorem breakerOver_of {c : ConnState} {f : State → State} (runs : s.runs) (state : s.conn.state = c)
    (due : s.due s.conn.breakerEnd = true) : s.whileRunning (fun s => s.breakerOver c f) = .next (f s) :=
  whileRunning_to (f := fun s => s.breakerOver c f) runs
    ((if_pos (beq_iff_eq.mpr state)).trans (onExpiry_of_due f due))

/-- A breaker that did not move in time: its flag and notice, and the record that locks out (R112, R116). -/
def State.breakerLocked (s : State) (c : ConnRec) : State :=
  ((((s.latch .breakerFail).raise .breakerFail none).setConn c).latch .lockout).connTo .openLocked

theorem breakerLocked_frame (s : State) (c : ConnRec) : s.changesOnly (s.breakerLocked c)
    [.conn, .flags, .notices, .counters, .envelope, .gate, .fieldPort] :=
  State.changesOnly_trans (State.changesOnly_mono (latch_frame s _) (by decide))
    (State.changesOnly_trans (State.changesOnly_mono (raise_frame _ _ _) (by decide))
      (State.changesOnly_trans (State.changesOnly_mono (setConn_frame _ _) (by decide))
        (State.changesOnly_trans (State.changesOnly_mono (latch_frame _ _) (by decide))
          (State.changesOnly_mono (connTo_frame _ _) (by decide)))))

theorem isLatched_connTo {f : Flag} {c : ConnState} (h : s.isLatched f = true) : (s.connTo c).isLatched f = true :=
  isLatched_of_flags (connTo_frame s c .flags (by decide)) h

theorem breakerLocked_conn (s : State) (c : ConnRec) : (s.breakerLocked c).conn = { c with state := .openLocked } :=
  connTo_conn _ _

theorem isLatched_breakerLocked (s : State) (c : ConnRec) :
    (s.breakerLocked c).isLatched .breakerFail = true ∧ (s.breakerLocked c).isLatched .lockout = true := by
  refine ⟨isLatched_connTo (isLatched_latch (isLatched_of_flags (t := State.setConn _ c) (setConn_frame _ c .flags (by decide))
    (isLatched_of_flags (raise_frame _ _ _ .flags (by decide)) (isLatched_latch_self s .breakerFail)))), ?_⟩
  exact isLatched_connTo (isLatched_latch_self _ .lockout)

/-- The pieces that the notice of a failed breaker leaves as they were. -/
theorem breakerTold_frame (s : State) :
    s.changesOnly ((s.latch .breakerFail).raise .breakerFail none) [.flags, .notices, .counters] :=
  State.changesOnly_trans (State.changesOnly_mono (latch_frame s _) (by decide))
    (State.changesOnly_mono (raise_frame _ _ _) (by decide))

theorem openTimedOut_eq (s : State) : s.openTimedOut = s.breakerLocked { s.conn with
    breakerEnd := none, tripCause := none, target := none
    lockout := if s.conn.lockout = .fire ∨ s.conn.lockout = .welded then s.conn.lockout else .breakerFail } := by
  have conn : ((s.latch .breakerFail).raise .breakerFail none).conn = s.conn := breakerTold_frame s .conn (by decide)
  have failed : ∀ l : Lockout, l.breakerFailed = if l = .fire ∨ l = .welded then l else .breakerFail := by
    intro l
    cases l <;> rfl
  unfold State.openTimedOut
  dsimp only
  rw [conn, failed]
  rfl

theorem closeTimedOut_eq (s : State) : s.closeTimedOut = s.breakerLocked { s.conn with
    closeOut := none, tripOut := some (s.after s.tables.t9.tripPulse), breakerEnd := none, lockout := .breakerFail } := by
  have conn : ((s.latch .breakerFail).raise .breakerFail none).conn = s.conn := breakerTold_frame s .conn (by decide)
  have time : ((s.latch .breakerFail).raise .breakerFail none).time = s.time := breakerTold_frame s .time (by decide)
  have config : ((s.latch .breakerFail).raise .breakerFail none).config = s.config :=
    breakerTold_frame s .config (by decide)
  unfold State.closeTimedOut State.after State.tables
  dsimp only
  rw [conn, time, config]
  rfl

/-- Settles O53, from what each expiry runs. -/
theorem gridAndBreakerTimersAct : Obligations.GridAndBreakerTimersAct := by
  intro s runs
  refine ⟨fun i state due => ?_, fun state due => ?_, fun state due => ?_, fun state due => ?_, fun due => ?_,
    fun due => ?_, fun due => ?_⟩
  · intro v
    have ran : exec (.stageDelayExpiry i) s = .next (s.stageDelayOver i) :=
      whileRunning_to (f := fun s => if (s.stageAt i).state == .pickedUp then
        s.onExpiry (s.stageAt i).timer fun s => s.stageDelayOver i else s) runs
        ((if_pos (beq_iff_eq.mpr state)).trans (onExpiry_of_due _ due))
    rw [ran]
    refine congrArg _ ?_
    show v.stageActs i = _
    cases action : (s.stageEntry i).action <;> simp only [State.stageActs, show (v.stageEntry i).action = _ from action]
  · refine ⟨_, breakerOver_of runs state due, ?_⟩
    rw [openTimedOut_eq, breakerLocked_conn]
    obtain ⟨failed, locked⟩ := isLatched_breakerLocked s { s.conn with
      breakerEnd := none, tripCause := none, target := none
      lockout := if s.conn.lockout = .fire ∨ s.conn.lockout = .welded then s.conn.lockout else .breakerFail }
    exact ⟨rfl, failed, locked, breakerLocked_frame s _⟩
  · refine ⟨_, breakerOver_of runs state due, ?_⟩
    rw [closeTimedOut_eq, breakerLocked_conn]
    obtain ⟨failed, locked⟩ := isLatched_breakerLocked s { s.conn with
      closeOut := none, tripOut := some (s.after s.tables.t9.tripPulse), breakerEnd := none, lockout := .breakerFail }
    exact ⟨rfl, failed, locked, breakerLocked_frame s _⟩
  · have ran : exec .reconnectTimerExpiry s = .next s.beginClose :=
      whileRunning_to (f := fun s => if s.conn.state == .reconnectTiming then
        s.onExpiry s.conn.reconnectEnd State.beginClose else s) runs
        ((if_pos (beq_iff_eq.mpr state)).trans (onExpiry_of_due _ due))
    refine ⟨_, ran, connTo_conn _ _, ?_⟩
    exact State.changesOnly_trans (State.changesOnly_mono (setConn_frame s _) (by decide))
      (State.changesOnly_mono (connTo_frame _ _) (by decide))
  · exact expires (f := State.historyTick) runs due
  · exact expires (f := fun s => s.setConn { s.conn with tripOut := none }) runs due
  · exact expires (f := fun s => s.setConn { s.conn with closeOut := none }) runs due

/-! ### O57 -/

/-- A making is recorded with the time (R125). -/
theorem makeCoolant_commandTime (s : State) : (s.makeCoolant false).thermal.command.time = s.time := by
  cases chiller : s.addressOf .chiller 0 with
  | none =>
    rw [makeCoolant_of_unaddressed chiller]
    rfl
  | some a =>
    rw [makeCoolant_normal chiller]
    dsimp only
    split <;> rfl

/-- A notice and a making, which a change of the supply brings. -/
theorem raisedAndMade_frame (s : State) (k : NoticeKind) :
    s.changesOnly ((s.raise k none).makeCoolant false) [.thermal, .fieldPort, .notices, .counters] :=
  State.changesOnly_trans (State.changesOnly_mono (raise_frame s k none) (by decide))
    (State.changesOnly_mono (makeCoolant_frame _ _) (by decide))

theorem raisedAndMade_notices (s : State) (k : NoticeKind) :
    ((s.raise k none).makeCoolant false).notices = enterNotice s.notices ⟨k, none, 1, s.time⟩ :=
  (makeCoolant_frame _ _ .notices (by decide)).trans (raise_notices s k none)

theorem raisedAndMade_commandTime (s : State) (k : NoticeKind) :
    ((s.raise k none).makeCoolant false).thermal.command.time = s.time :=
  (makeCoolant_commandTime _).trans (raise_frame s k none .time (by decide))

/-- The part in HOLDUP, its open round told, before its masks are cleared. -/
def State.heldUp (s : State) : State :=
  ((s.setSupply { s.supply with mode := .holdup, restoreEnd := none }).raise .supplyHoldup none).roundSeesHoldup

theorem enterHoldup_eq (s : State) : s.enterHoldup = s.heldUp.clearAllMasks.makeCoolant false := rfl

theorem heldUp_frame (s : State) :
    (s.setSupply { s.supply with mode := .holdup, restoreEnd := none }).changesOnly s.heldUp
      [.rounds, .notices, .counters] :=
  State.changesOnly_trans (State.changesOnly_mono (raise_frame _ _ _) (by decide))
    (State.changesOnly_mono (setRounds_frame _ _) (by decide))

theorem masked_frame (s : State) :
    s.changesOnly (s.clearAllMasks.makeCoolant false) [.modules, .thermal, .fieldPort, .counters] :=
  State.changesOnly_trans (State.changesOnly_mono (cleared_frame s) (by decide))
    (State.changesOnly_mono (makeCoolant_frame _ _) (by decide))

/-- Settles O57, from what each event of the supply changes. -/
theorem supplyEventsMoveTheMode : Obligations.SupplyEventsMoveTheMode := by
  intro s runs
  have set : ∀ x, s.changesOnly (s.setSupply x) [.supply] := setSupply_frame s
  refine ⟨fun normal => ?_, fun holdup => ?_, ?_, fun due => ?_, fun free => ?_, fun low => ?_⟩
  · have ran : exec .vauxFall s = .next s.enterHoldup :=
      whileRunning_to (f := fun s => if s.supply.mode == .normal then s.enterHoldup else s) runs
        (if_pos (beq_iff_eq.mpr normal))
    have held := heldUp_frame s
    have masked := masked_frame s.heldUp
    refine ⟨_, ran, ?_⟩
    rw [enterHoldup_eq]
    refine ⟨(masked .supply (by decide)).trans (held .supply (by decide)), fun m slot => ?_,
      (masked .rounds (by decide)).trans ?_, (masked .notices (by decide)).trans ?_, ?_, ?_⟩
    · rw [moduleAt_of_modules (makeCoolant_frame _ _ .modules (by decide))]
      exact mask_clearMasks (List.mem_range.mpr slot) slot
    · have rounds : ((s.setSupply { s.supply with mode := .holdup, restoreEnd := none }).raise .supplyHoldup none).rounds =
          s.rounds := raise_frame _ _ _ .rounds (by decide)
      exact congrArg (fun r : Rounds => { r with openRound := r.openRound.map fun o : OpenRound => ({ o with holdupSeen := true } : OpenRound) }) rounds
    · exact raise_notices (s.setSupply { s.supply with mode := .holdup, restoreEnd := none }) .supplyHoldup none
    · exact (makeCoolant_commandTime _).trans ((cleared_frame _ .time (by decide)).trans (held .time (by decide)))
    · exact State.changesOnly_trans (State.changesOnly_mono (set _) (by decide))
        (State.changesOnly_trans (State.changesOnly_mono held (by decide)) (State.changesOnly_mono masked (by decide)))
  · exact whileRunning_to (f := fun s => if s.supply.mode == .holdup then
      s.setSupply { s.supply with restoreEnd := some (s.after (s.params.auxRestoreDelay * 1000)) } else s) runs
      (if_pos (beq_iff_eq.mpr holdup))
  · exact whileRunning_to (f := fun s => s.setSupply { s.supply with restoreEnd := none }) runs rfl
  · let v := s.setSupply { s.supply with mode := .normal, restoreEnd := none }
    refine ⟨_, expires (f := State.enterNormal) runs due, raisedAndMade_frame v _ .supply (by decide),
      raisedAndMade_notices v _, raisedAndMade_commandTime v _, ?_⟩
    exact State.changesOnly_trans (State.changesOnly_mono (set _) (by decide))
      (State.changesOnly_mono (raisedAndMade_frame v _) (by decide))
  · let v := (s.setSupply { s.supply with holdupLow := true }).latch .holdupLow
    have ran : exec .holdupLowBegin s = .next s.holdupLowBegins :=
      whileRunning_to (f := fun s => if s.supply.holdupLow then s else s.holdupLowBegins) runs
        (if_neg (Bool.eq_false_iff.mp free))
    refine ⟨_, ran, raisedAndMade_frame v _ .supply (by decide), ?_, raisedAndMade_notices v _,
      raisedAndMade_commandTime v _, ?_⟩
    · exact isLatched_of_flags (raisedAndMade_frame v _ .flags (by decide)) (isLatched_latch_self _ _)
    · exact State.changesOnly_trans (State.changesOnly_mono (set _) (by decide))
        (State.changesOnly_trans (State.changesOnly_mono (latch_frame _ _) (by decide))
          (State.changesOnly_mono (raisedAndMade_frame v _) (by decide)))
  · let v := s.setSupply { s.supply with holdupLow := false }
    have ran : exec .holdupLowEnd s = .next s.holdupLowEnds :=
      whileRunning_to (f := fun s => if s.supply.holdupLow then s.holdupLowEnds else s) runs (if_pos low)
    refine ⟨_, ran, raisedAndMade_frame v _ .supply (by decide), raisedAndMade_notices v _,
      raisedAndMade_commandTime v _, ?_⟩
    exact State.changesOnly_trans (State.changesOnly_mono (set _) (by decide))
      (State.changesOnly_mono (raisedAndMade_frame v _) (by decide))

end Sys2Proof.Machine
end

section
/-! PROOF of O58: a scrub pass marks the tables that newly differ from their CRC (R73, R180). -/

namespace Sys2Proof.Machine

variable {s t : State}

/-! ### Flags -/

theorem isLatched_latch_iff (s : State) (g f : Flag) : (s.latch g).isLatched f = true ↔ s.isLatched f = true ∨ f = g := by
  have bit : ((1 : BitVec 16) <<< g.bit).getLsbD f.bit = decide (f = g) := by cases f <;> cases g <;> rfl
  show (withFlag s.flags.latched g).getLsbD f.bit = true ↔ _
  rw [withFlag, BitVec.getLsbD_or, bit, Bool.or_eq_true, decide_eq_true_eq]
  rfl

/-! ### One table -/

/-- The contents of table `n` do not give the recorded CRC (R180). -/
def State.differs (s : State) (n : Nat) : Prop :=
  ((s.tables.get n).map TableContents.crc).getD 0 ≠ s.config.crcs.getD (n - 1) 0

/-- Table `n` differs from its CRC and is not marked yet. -/
def State.newlyDiffers (s : State) (n : Nat) : Bool :=
  decide (((s.tables.get n).map TableContents.crc).getD 0 ≠ s.config.crcs.getD (n - 1) 0) && !s.isFaulted n

/-- A table is marked as faulted, with its flag and its notice (R180). -/
def State.markTable (s : State) (n : Nat) : State :=
  ((s.setConfig { s.config with faulted := s.config.faulted.set (n - 1) true }).latch .configFault).raise .configFault
    (some n)

theorem scrubTable_eq (s : State) (n : Nat) :
    s.scrubTable n = if s.newlyDiffers n then s.markTable n else s := by
  unfold State.scrubTable State.newlyDiffers
  dsimp only
  generalize ((s.tables.get n).map TableContents.crc).getD 0 = found, s.config.crcs.getD (n - 1) 0 = recorded
  by_cases same : found = recorded
  · rw [if_pos (by simp [same]), if_neg (by simp [same])]
  · cases marked : s.isFaulted n with
    | true => rw [if_pos (by simp), if_neg (by simp)]
    | false =>
      rw [if_neg (by simpa using same), if_pos (by simpa using same)]
      rfl

theorem markTable_config (s : State) (n : Nat) :
    (s.markTable n).config = { s.config with faulted := s.config.faulted.set (n - 1) true } :=
  raise_frame _ _ _ .config (by decide)

theorem markTable_frame (s : State) (n : Nat) : s.changesOnly (s.markTable n) [.config, .flags, .notices, .counters] :=
  State.changesOnly_trans (State.changesOnly_mono (setConfig_frame s _) (by decide))
    (State.changesOnly_trans (State.changesOnly_mono (latch_frame _ _) (by decide))
      (State.changesOnly_mono (raise_frame _ _ _) (by decide)))

/-- Marking one table says nothing of another. -/
theorem newlyDiffers_markTable {m n : Nat} (hm : 1 ≤ m) (hn : 1 ≤ n) (other : m ≠ n) :
    (s.markTable n).newlyDiffers m = s.newlyDiffers m := by
  have apart : n - 1 ≠ m - 1 := by omega
  unfold State.newlyDiffers State.isFaulted State.tables
  simp only [markTable_config, List.getD_eq_getElem?_getD, List.getElem?_set_ne apart]

/-! ### A pass -/

/-- A pass marks the tables that newly differ, in order. -/
theorem scrubTables_eq : ∀ {l : List Nat} {s : State}, l.Nodup → (∀ n ∈ l, 1 ≤ n) →
    s.forEach l State.scrubTable = (l.filter s.newlyDiffers).foldl State.markTable s := by
  intro l
  induction l with
  | nil => exact fun _ _ => rfl
  | cons n l ih =>
    intro s nodup low
    obtain ⟨fresh, nodup⟩ := List.nodup_cons.mp nodup
    have low' : ∀ m ∈ l, 1 ≤ m := fun m hm => low m (List.mem_cons_of_mem _ hm)
    have step : s.forEach (n :: l) State.scrubTable = (s.scrubTable n).forEach l State.scrubTable := rfl
    rw [step, ih nodup low', scrubTable_eq, List.filter_cons]
    by_cases differs : s.newlyDiffers n = true
    · rw [if_pos differs, if_pos differs]
      have later : l.filter (s.markTable n).newlyDiffers = l.filter s.newlyDiffers :=
        List.filter_congr fun m hm => newlyDiffers_markTable (low' m hm) (low n (List.mem_cons_self ..)) fun same =>
          fresh (same ▸ hm)
      rw [later]
      rfl
    · rw [if_neg differs, if_neg differs]

theorem markTables_frame (l : List Nat) (s : State) :
    s.changesOnly (l.foldl State.markTable s) [.config, .flags, .notices, .counters] :=
  keeps_foldl (P := fun t => s.changesOnly t [.config, .flags, .notices, .counters])
    (fun t n h => State.changesOnly_trans h (markTable_frame t n)) (State.changesOnly_refl _ _)

theorem markTables_config : ∀ {l : List Nat} {s : State}, (∀ n ∈ l, 1 ≤ n) → (l.foldl State.markTable s).config =
    { s.config with faulted := s.config.faulted.mapIdx fun i b => b || l.contains (i + 1) } := by
  intro l
  induction l with
  | nil =>
    intro s _
    have same : s.config.faulted.mapIdx (fun i b => b || ([] : List Nat).contains (i + 1)) = s.config.faulted := by
      apply List.ext_getElem (by simp)
      intro i h1 h2
      simp
    rw [same]
    rfl
  | cons n l ih =>
    intro s low
    have pos : 1 ≤ n := low n (List.mem_cons_self ..)
    have step : (n :: l).foldl State.markTable s = l.foldl State.markTable (s.markTable n) := rfl
    have marks : (s.config.faulted.set (n - 1) true).mapIdx (fun i b => b || l.contains (i + 1)) =
        s.config.faulted.mapIdx fun i b => b || (n :: l).contains (i + 1) := by
      apply List.ext_getElem (by simp)
      intro i h1 h2
      simp only [List.getElem_mapIdx, List.getElem_set, List.contains_cons]
      by_cases here : n - 1 = i
      · have index : i + 1 = n := by omega
        simp [here, index]
      · have index : (i + 1 == n) = false := beq_false_of_ne (by omega)
        simp [here, index]
    rw [step, ih fun m hm => low m (List.mem_cons_of_mem _ hm), markTable_config, ← marks]

theorem markTables_notices : ∀ (l : List Nat) (s : State), (l.foldl State.markTable s).notices =
    l.foldl (fun q n => enterNotice q ⟨.configFault, some n, 1, s.time⟩) s.notices := by
  intro l
  induction l with
  | nil => exact fun _ => rfl
  | cons n l ih =>
    intro s
    have entered : (s.markTable n).notices = enterNotice s.notices ⟨.configFault, some n, 1, s.time⟩ := raise_notices _ _ _
    have time : (s.markTable n).time = s.time := markTable_frame s n .time (by decide)
    refine (ih (s.markTable n)).trans ?_
    rw [time, entered]
    rfl

theorem isLatched_markTable (s : State) (n : Nat) (f : Flag) :
    (s.markTable n).isLatched f = true ↔ s.isLatched f = true ∨ f = .configFault := by
  rw [State.isLatched, show (s.markTable n).flags = _ from raise_frame _ _ _ .flags (by decide)]
  exact isLatched_latch_iff (s.setConfig _) .configFault f

theorem isLatched_markTables : ∀ (l : List Nat) (s : State) (f : Flag), (l.foldl State.markTable s).isLatched f = true ↔
    s.isLatched f = true ∨ (f = .configFault ∧ l ≠ []) := by
  intro l
  induction l with
  | nil => exact fun s f => ⟨.inl, fun h => h.elim id fun h => absurd rfl h.2⟩
  | cons n l ih =>
    intro s f
    refine (ih (s.markTable n) f).trans ?_
    rw [isLatched_markTable, or_assoc]
    exact or_congr_right ⟨fun h => ⟨h.elim id (·.1), List.cons_ne_nil _ _⟩, fun h => .inl h.1⟩

/-- Settles O58, from the pass as a marking of the tables that newly differ, and the evaluation after it. -/
theorem scrubMarksTheTablesThatDiffer : Obligations.ScrubMarksTheTablesThatDiffer := by
  intro s runs due sixteen differs found v w
  have ran : exec .scrubTimerExpiry s = .next v.scrub := expires (f := State.scrubTick) runs due
  let tables := (List.range 16).map (· + 1)
  have nodup : tables.Nodup := nodup_map_of_injective (fun _ _ => Nat.succ.inj) List.nodup_range
  have low : ∀ n ∈ tables, 1 ≤ n := fun n hn => by
    obtain ⟨k, -, rfl⟩ := List.mem_map.mp hn
    exact Nat.succ_pos k
  have found_low : ∀ n ∈ found, 1 ≤ n := fun n hn => low n (List.mem_filter.mp hn).1
  have pass : v.forEach tables State.scrubTable = w := scrubTables_eq nodup low
  have mem : ∀ n, n ∈ found ↔ (1 ≤ n ∧ n ≤ 16) ∧ differs n ∧ s.isFaulted n = false := by
    intro n
    have range : n ∈ tables ↔ 1 ≤ n ∧ n ≤ 16 := by
      simp only [tables, List.mem_map, List.mem_range]
      exact ⟨fun ⟨k, hk, h⟩ => by omega, fun h => ⟨n - 1, by omega, by omega⟩⟩
    rw [← range, List.mem_filter, Bool.and_eq_true, Bool.not_eq_true', decide_eq_true_eq]
  have config : w.config = { s.config with
      scrubEnd := s.time + BitVec.ofNat 32 (s.params.scrubPeriod * 1000)
      faulted := s.config.faulted.mapIdx fun i b => b || found.contains (i + 1) } := markTables_config found_low
  have frame : s.changesOnly w [.config, .flags, .notices, .counters] :=
    State.changesOnly_trans (State.changesOnly_mono (setConfig_frame s _) (by decide)) (markTables_frame found v)
  have any : s.anyFault = false → (w.anyFault = true ↔ found ≠ []) := by
    intro sound
    rw [State.anyFault, config]
    simp only [List.any_eq_true, id_eq, List.mem_mapIdx, Bool.or_eq_true, List.contains_iff_mem]
    have clean : ∀ i (h : i < s.config.faulted.length), s.config.faulted[i] = false := fun i h =>
      Bool.eq_false_iff.mpr fun b => absurd (List.any_eq_true.mpr ⟨_, List.getElem_mem h, b⟩) (Bool.eq_false_iff.mp sound)
    constructor
    · rintro ⟨b, ⟨i, h, rfl⟩, marked⟩ nil
      rw [clean i h, nil] at marked
      simp at marked
    · intro some
      obtain ⟨n, hn⟩ := List.exists_mem_of_ne_nil _ some
      obtain ⟨⟨pos, top⟩, -⟩ := (mem n).mp hn
      refine ⟨true, ⟨n - 1, by omega, ?_⟩, rfl⟩
      rw [show n - 1 + 1 = n by omega]
      simp [hn]
  have scrub : v.scrub = if s.anyFault = false ∧ found ≠ [] then w.changeEval else w := by
    unfold State.scrub
    change (let t := v.forEach tables State.scrubTable
      if !s.anyFault && t.anyFault then t.changeEval else t) = _
    rw [pass]
    dsimp only
    refine ite_of_iff ?_ rfl rfl
    rw [Bool.and_eq_true, Bool.not_eq_true']
    exact and_congr_right any
  have after : w.changesOnly v.scrub [.envelope, .gate, .fieldPort, .notices, .counters] := by
    rw [scrub]
    split
    · exact changeEval_frame w
    · exact State.changesOnly_refl _ _
  refine ⟨_, ran, scrub, config, markTables_notices found v, isLatched_markTables found v, frame,
    after .config (by decide), ?_, fun n pos top => ?_, ?_⟩
  · rw [State.isLatched, after .flags (by decide), State.isLatched]
  · have entry : v.scrub.isFaulted n = (s.isFaulted n || found.contains n) := by
      rw [State.isFaulted, show v.scrub.config = w.config from after .config (by decide), config, State.isFaulted]
      have there : n - 1 < s.config.faulted.length := by omega
      simp only [List.getD_eq_getElem?_getD, List.getElem?_mapIdx, List.getElem?_eq_getElem there, Option.map_some,
        Option.getD_some, Nat.sub_add_cancel pos]
    rw [entry, Bool.or_eq_true, List.contains_iff_mem, mem]
    cases s.isFaulted n with
    | true => exact ⟨fun _ => .inl rfl, fun _ => .inl rfl⟩
    | false => exact ⟨fun h => h.elim .inl fun h => .inr h.2.1, fun h => h.elim .inl fun h => .inr ⟨⟨pos, top⟩, h, rfl⟩⟩
  · exact State.changesOnly_trans (State.changesOnly_mono frame (by decide)) (State.changesOnly_mono after (by decide))

end Sys2Proof.Machine
end

section
/-! PROOF of O50 and O45: the round timers, and how a round begins and closes (R2 to R9, R12 to R14). -/

namespace Sys2Proof.Machine

variable {s t : State}

/-! ### The frames of a round (R6 to R9) -/

/-- A broadcast frame of the round with the given serial number (R8). -/
def State.broadcastOf (s : State) (serial kind : Nat) (payload : List Byte) : Placed :=
  ⟨⟨127, s.sys.address, kind, payload⟩, some serial⟩

theorem roundFrame_of_open {o : OpenRound} (open_ : s.rounds.openRound = some o) (kind : Nat) (payload : List Byte) :
    s.roundFrame kind payload = s.broadcastOf o.serial kind payload := by
  rw [State.roundFrame, open_]
  rfl

/-- The frame of a round waits in NORMAL, and the round context is the given one. -/
def State.roundSends (s : State) (serial kind : Nat) (payload : List Byte) (r : Rounds) : State :=
  (s.setFieldPort { s.fieldPort with normal := s.fieldPort.normal ++ [s.broadcastOf serial kind payload] }).setRounds r

/-- The counters after a round frame that NORMAL refused and that ended its round (R9). -/
def Counters.roundLost (c : Counters) : Counters :=
  { c with fieldNormalRefused := inc16 c.fieldNormalRefused, roundFramesLost := inc16 c.roundFramesLost
           roundsAborted := inc16 c.roundsAborted }

/-- A round whose frame was refused closes as aborted (R9). -/
def State.roundRefused (s : State) (o : OpenRound) (r : Rounds) : State :=
  ((s.setRounds r).setCounters s.counters.roundLost).closeRound o false

theorem abortRound_of_open {o : OpenRound} (open_ : s.rounds.openRound = some o) :
    s.abortRound = s.countAborted.closeRound o false := by
  rw [State.abortRound, open_]

theorem holdBleeding_of_free {o : OpenRound} (open_ : s.rounds.openRound = some o) (free : s.fieldPort.normalUsed < 32) :
    s.holdBleeding = s.roundSends o.serial kindBleedHold []
      { s.rounds with phase := .quietSettle, openRound := some { o with phaseTimer := none } } := by
  have admitted : s.fieldPort.admits (s.broadcastOf o.serial kindBleedHold []) = true :=
    (admits_iff_of_plain rfl).mpr free
  simp only [State.holdBleeding, open_, roundFrame_of_open open_, admitted, if_true, placeRoundFrame_of_free
    (p := s.broadcastOf o.serial kindBleedHold []) rfl free]
  rfl

theorem holdBleeding_of_full {o : OpenRound} (open_ : s.rounds.openRound = some o) (full : 32 ≤ s.fieldPort.normalUsed) :
    s.holdBleeding = s.roundRefused o s.rounds := by
  have refused : ¬s.fieldPort.admits (s.broadcastOf o.serial kindBleedHold []) = true := fun yes =>
    Nat.not_lt.mpr full ((admits_iff_of_plain rfl).mp yes)
  have aborts := abortRound_of_open (s := s.placeRoundFrame (s.broadcastOf o.serial kindBleedHold []))
    ((congrArg (fun u : State => u.rounds.openRound) (placeRoundFrame_of_full rfl full)).trans open_)
  rw [placeRoundFrame_of_full rfl full] at aborts
  simp only [State.holdBleeding, open_, roundFrame_of_open open_, if_neg refused, placeRoundFrame_of_full
    (p := s.broadcastOf o.serial kindBleedHold []) rfl full]
  exact aborts

/-- The round context with the next tag (R8). -/
def Rounds.nextTag (r : Rounds) : Rounds := { r with tag := (r.tag + 1) % 256 }

/-- The SAMPLE CALL of the open round, with the next tag (R8). -/
def State.nextSampleCall (s : State) (o : OpenRound) : Placed :=
  s.broadcastOf o.serial kindSampleCall (sampleCallPayload s.rounds.nextTag.tag o.quiet o.scope)

theorem sampleCall_of_open {o : OpenRound} (open_ : s.rounds.openRound = some o) :
    s.sampleCall = if s.fieldPort.admits (s.nextSampleCall o) then
      ((s.setRounds s.rounds.nextTag).placeRoundFrame (s.nextSampleCall o)).setRounds
        { s.rounds.nextTag with phase := .collecting, openRound := some { o with phaseTimer := none } }
      else ((s.setRounds s.rounds.nextTag).placeRoundFrame (s.nextSampleCall o)).abortRound := by
  have frame : (s.setRounds s.rounds.nextTag).roundFrame kindSampleCall
      (sampleCallPayload s.rounds.nextTag.tag o.quiet o.scope) = s.nextSampleCall o := roundFrame_of_open open_ _ _
  rw [← frame]
  unfold State.sampleCall
  split
  case h_1 none_ => exact absurd (none_.symm.trans open_) nofun
  case h_2 o' some_ =>
    obtain rfl : o' = o := Option.some.inj (some_.symm.trans open_)
    exact rfl

theorem sampleCall_of_free {o : OpenRound} (open_ : s.rounds.openRound = some o) (free : s.fieldPort.normalUsed < 32) :
    s.sampleCall = s.roundSends o.serial kindSampleCall (sampleCallPayload s.rounds.nextTag.tag o.quiet o.scope)
      { s.rounds.nextTag with phase := .collecting, openRound := some { o with phaseTimer := none } } := by
  have placed := placeRoundFrame_of_free (s := s.setRounds s.rounds.nextTag) (p := s.nextSampleCall o) rfl free
  rw [sampleCall_of_open open_, if_pos ((admits_iff_of_plain rfl).mpr free), placed]
  exact rfl

theorem sampleCall_of_full {o : OpenRound} (open_ : s.rounds.openRound = some o) (full : 32 ≤ s.fieldPort.normalUsed) :
    s.sampleCall = s.roundRefused o s.rounds.nextTag := by
  have refused : ¬s.fieldPort.admits (s.nextSampleCall o) = true := fun yes =>
    Nat.not_lt.mpr full ((admits_iff_of_plain rfl).mp yes)
  have placed := placeRoundFrame_of_full (s := s.setRounds s.rounds.nextTag) (p := s.nextSampleCall o) rfl full
  have aborts := abortRound_of_open ((congrArg (fun u : State => u.rounds.openRound) placed).trans open_)
  rw [sampleCall_of_open open_, if_neg refused, aborts, placed]
  exact rfl

theorem continueRound_of_quiet {o : OpenRound} (open_ : s.rounds.openRound = some o) (quiet : o.quiet = true) :
    s.continueRound = s.holdBleeding := by
  simp only [State.continueRound, open_, quiet, if_true]

theorem continueRound_of_loud {o : OpenRound} (open_ : s.rounds.openRound = some o) (loud : o.quiet = false) :
    s.continueRound = s.sampleCall := by
  simp only [State.continueRound, open_, loud, Bool.false_eq_true, if_false]

theorem wakeMonitors_of_free {o : OpenRound} (open_ : s.rounds.openRound = some o) (free : s.fieldPort.normalUsed < 32) :
    s.wakeMonitors = s.roundSends o.serial kindWakeCall [] { s.rounds with phase := .waking } := by
  have admitted : s.fieldPort.admits (s.broadcastOf o.serial kindWakeCall []) = true :=
    (admits_iff_of_plain rfl).mpr free
  simp only [State.wakeMonitors, roundFrame_of_open open_, admitted, if_true, placeRoundFrame_of_free
    (p := s.broadcastOf o.serial kindWakeCall []) rfl free]
  rfl

theorem wakeMonitors_of_full {o : OpenRound} (open_ : s.rounds.openRound = some o) (full : 32 ≤ s.fieldPort.normalUsed) :
    s.wakeMonitors = (s.setRounds { s.rounds with openRound := none }).setCounters s.counters.roundLost := by
  have refused : ¬s.fieldPort.admits (s.broadcastOf o.serial kindWakeCall []) = true := fun yes =>
    Nat.not_lt.mpr full ((admits_iff_of_plain rfl).mp yes)
  simp only [State.wakeMonitors, roundFrame_of_open open_, if_neg refused, placeRoundFrame_of_full
    (p := s.broadcastOf o.serial kindWakeCall []) rfl full]
  rfl

/-- Each frame that leads an open round on: sent with a place free, and otherwise the end of the round. -/
theorem holdBleeding_eq {o : OpenRound} (open_ : s.rounds.openRound = some o) :
    s.holdBleeding = if s.fieldPort.normalUsed < 32 then s.roundSends o.serial kindBleedHold []
        { s.rounds with phase := .quietSettle, openRound := some { o with phaseTimer := none } }
      else s.roundRefused o s.rounds := by
  split
  case isTrue free => exact holdBleeding_of_free open_ free
  case isFalse full => exact holdBleeding_of_full open_ (Nat.not_lt.mp full)

theorem sampleCall_eq {o : OpenRound} (open_ : s.rounds.openRound = some o) :
    s.sampleCall = if s.fieldPort.normalUsed < 32 then
        s.roundSends o.serial kindSampleCall (sampleCallPayload s.rounds.nextTag.tag o.quiet o.scope)
          { s.rounds.nextTag with phase := .collecting, openRound := some { o with phaseTimer := none } }
      else s.roundRefused o s.rounds.nextTag := by
  split
  case isTrue free => exact sampleCall_of_free open_ free
  case isFalse full => exact sampleCall_of_full open_ (Nat.not_lt.mp full)

/-! ### The round timers (R2, R6, R7, R12) -/

theorem phaseOver_of {o : OpenRound} {p : RoundPhase} (phase : s.rounds.phase = p) (open_ : s.rounds.openRound = some o)
    (due : s.due o.phaseTimer = true) : s.phaseOver p = true := by
  rw [State.phaseOver, phase, open_]
  cases p <;> exact due

/-- The state in which the interval timer has been restarted (R2). -/
def State.intervalRestarted (s : State) : State :=
  s.setRounds { s.rounds with intervalEnd := s.time + BitVec.ofNat 32 (if s.supply.mode = .holdup then
    max s.params.roundInterval (s.params.holdupInterval * 1000) else s.params.roundInterval) }

theorem effectiveInterval_eq (s : State) : s.effectiveInterval = if s.supply.mode = .holdup then
    max s.params.roundInterval (s.params.holdupInterval * 1000) else s.params.roundInterval := by
  rw [State.effectiveInterval]
  cases s.supply.mode <;> rfl

theorem intervalOver_eq (s : State) : s.intervalOver =
    if s.rounds.phase.isAtRest = true ∧ s.modulesInUse ≠ [] then s.intervalRestarted.intervalRound
    else s.intervalRestarted.setCounters { s.counters with roundsSkipped := inc16 s.counters.roundsSkipped } := by
  have restarted : s.setRounds { s.rounds with intervalEnd := s.after s.effectiveInterval } = s.intervalRestarted := by
    rw [effectiveInterval_eq]
    rfl
  unfold State.intervalOver
  rw [restarted]
  refine ite_of_iff ?_ rfl rfl
  rw [expectedSet_all, Bool.and_eq_true, Bool.not_eq_true', List.isEmpty_eq_false_iff]
  exact Iff.rfl

theorem intervalRound_of_normal (mode : s.supply.mode = .normal) : s.intervalRound =
    (s.setRounds { s.rounds with quietCounter :=
      if s.params.quietEvery ≤ s.rounds.quietCounter + 1 then 0 else s.rounds.quietCounter + 1 }).beginRound .all
        (decide (s.params.quietEvery ≤ s.rounds.quietCounter + 1)) := by
  simp only [State.intervalRound, mode, decide_eq_true_eq]

theorem intervalRound_of_holdup (mode : s.supply.mode = .holdup) : s.intervalRound = s.beginRound .all false := by
  simp only [State.intervalRound, mode]

/-- Settles O50: the interval timer chooses the round that begins, and the phase timer leads the open round on. -/
theorem roundTimersLeadARoundOn : Obligations.RoundTimersLeadARoundOn := by
  unfold Obligations.RoundTimersLeadARoundOn
  intro s runs
  refine ⟨fun due => ?_, fun o open_ due => ?_⟩
  · intro v n
    have ran : exec .intervalExpiry s = .next s.intervalOver := expires runs due
    rw [ran, intervalOver_eq]
    refine ⟨fun rest some_ mode => ?_, fun rest some_ mode => ?_, fun none_ => ?_⟩
    · rw [if_pos ⟨rest, some_⟩, intervalRound_of_normal (s := s.intervalRestarted) mode]
      exact rfl
    · rw [if_pos ⟨rest, some_⟩, intervalRound_of_holdup (s := s.intervalRestarted) mode]
      exact rfl
    · rw [if_neg fun h => none_.elim (fun busy => Bool.noConfusion (busy.symm.trans h.1)) h.2]
      exact rfl
  · intro tag woken sends aborts samples
    have wakes (phase : s.rounds.phase = .waking) : exec .wakeSettleExpiry s = .next s.wakeSettled :=
      whileRunning_to runs (if_pos (phaseOver_of phase open_ due))
    have wokenOpen : (s.setRounds { s.rounds with wakePending := false }).rounds.openRound = some o := open_
    refine ⟨fun phase quiet => ?_, fun phase loud => ?_, fun phase => ?_, fun phase => ?_⟩
    · rw [wakes phase, State.wakeSettled, continueRound_of_quiet wokenOpen quiet, holdBleeding_eq wokenOpen]
      exact rfl
    · rw [wakes phase, State.wakeSettled, continueRound_of_loud wokenOpen loud, sampleCall_eq wokenOpen]
      exact rfl
    · have ran : exec .quietSettleExpiry s = .next s.sampleCall :=
        whileRunning_to runs (if_pos (phaseOver_of phase open_ due))
      rw [ran, sampleCall_eq open_]
      exact rfl
    · refine whileRunning_to runs ((if_pos (phaseOver_of phase open_ due)).trans ?_)
      rw [State.deadlineOver, open_]

/-! ### Beginning a round (R5) -/

/-- The open round that a trigger begins (R5). -/
def State.roundBegun (s : State) (scope : Scope) (quiet : Bool) : OpenRound :=
  { scope, quiet, expected := s.modulesInUse.filter scope.covers, reported := [], quietValid := []
    holdupSeen := s.supply.mode == .holdup, phaseTimer := none, serial := s.rounds.serial + 1
    cameSuspended := s.rounds.phase == .suspended }

/-- The state in which the round is open and nothing of it placed. -/
def State.roundOpened (s : State) (scope : Scope) (quiet : Bool) : State :=
  s.setRounds { s.rounds with openRound := some (s.roundBegun scope quiet), serial := s.rounds.serial + 1 }

theorem beginRound_eq (s : State) (scope : Scope) (quiet : Bool) : s.beginRound scope quiet =
    if s.rounds.phase = .suspended ∨ s.rounds.wakePending = true then (s.roundOpened scope quiet).wakeMonitors
    else if quiet then (s.roundOpened scope quiet).holdBleeding else (s.roundOpened scope quiet).sampleCall := by
  refine ite_of_iff ?_ rfl rfl
  rw [Bool.or_eq_true]
  exact or_congr_left (beq_iff_eq (a := s.rounds.phase) (b := .suspended))

theorem mem_expected (s : State) (scope : Scope) (m : Nat) : m ∈ s.modulesInUse.filter scope.covers ↔
    m < 48 ∧ s.moduleInUse m = true ∧ (match scope with
      | .all => True
      | .string i => m / 12 = i
      | .module k => m = k) := by
  rw [List.mem_filter, mem_modulesInUse, and_assoc]
  refine and_congr_right fun _ => and_congr_right fun _ => ?_
  cases scope with
  | all => exact ⟨fun _ => trivial, fun _ => rfl⟩
  | string i => exact beq_iff_eq (a := m / 12) (b := i)
  | module k => exact (beq_iff_eq (a := k) (b := m)).trans eq_comm

/-! ### Closing a round (R12 to R14) -/

theorem leaveRound_of_normal (mode : s.supply.mode = .normal) : s.leaveRound = s.endRound .idle := by
  simp only [State.leaveRound, mode]

theorem leaveRound_of_holdup {o : OpenRound} (open_ : s.rounds.openRound = some o) (mode : s.supply.mode = .holdup) :
    s.leaveRound = (s.placeRoundFrame (s.sleepCall o.serial)).endRound .suspended := by
  simp only [State.leaveRound, mode, roundFrame_sleepCall open_]

theorem leaveRound_frame (s : State) : s.changesOnly s.leaveRound [.rounds, .fieldPort, .counters] :=
  frame_of fun h => h.leaveRound (by decide)

theorem leaveRound_rounds (s : State) : s.leaveRound.rounds =
    { s.rounds with phase := if s.supply.mode = .holdup then .suspended else .idle, openRound := none } := by
  have placed (p : Placed) : (s.placeRoundFrame p).rounds = s.rounds := by
    rw [State.placeRoundFrame]
    split <;> exact placeNormal_frame s p .rounds (by decide)
  cases mode : s.supply.mode with
  | normal => rw [leaveRound_of_normal mode]; rfl
  | holdup =>
    simp only [State.leaveRound, mode, State.endRound]
    rw [placed]
    rfl

/-- Whether a miss makes a module STALE (R13). -/
def ModuleRec.turnsStale (r : ModuleRec) (limit : Nat) : Bool :=
  decide (limit ≤ inc8 r.missCount) && r.quality != .stale

/-- The record of a module that missed a completed close (R13). -/
def ModuleRec.missed (r : ModuleRec) (limit : Nat) : ModuleRec :=
  { r with missCount := inc8 r.missCount, quality := if r.turnsStale limit then .stale else r.quality }

theorem missModule_of_stale {m : Nat} (h : (s.moduleAt m).turnsStale s.params.missLimit = true) :
    s.missModule m = (s.modModule m fun r =>
      { r with missCount := inc8 (s.moduleAt m).missCount, quality := .stale }).raise .moduleStale (some m) := if_pos h

theorem missModule_of_kept {m : Nat} (h : ¬(s.moduleAt m).turnsStale s.params.missLimit = true) :
    s.missModule m = s.modModule m fun r => { r with missCount := inc8 (s.moduleAt m).missCount } := if_neg h

theorem missModule_frame (s : State) (m : Nat) : s.changesOnly (s.missModule m) [.modules, .notices, .counters] :=
  frame_of fun h => h.missModule (by decide)

theorem missModule_modules (s : State) (m : Nat) : ∃ f : ModuleRec → ModuleRec, (s.missModule m).modules = s.modules.modify m f ∧
    f (s.moduleAt m) = (s.moduleAt m).missed s.params.missLimit := by
  by_cases h : (s.moduleAt m).turnsStale s.params.missLimit = true
  · refine ⟨_, (congrArg (fun u : State => u.modules) (missModule_of_stale h)).trans (raise_frame _ _ _ .modules (by decide)), ?_⟩
    rw [ModuleRec.missed, if_pos h]
  · refine ⟨_, congrArg (fun u : State => u.modules) (missModule_of_kept h), ?_⟩
    rw [ModuleRec.missed, if_neg h]

theorem missModule_notices (s : State) (m : Nat) : (s.missModule m).notices =
    if (s.moduleAt m).turnsStale s.params.missLimit then enterNotice s.notices ⟨.moduleStale, some m, 1, s.time⟩
    else s.notices := by
  split
  case isTrue h => rw [missModule_of_stale h]; exact raise_notices _ _ _
  case isFalse h => rw [missModule_of_kept h]; exact rfl

theorem missModule_lost (s : State) (m : Nat) : (s.missModule m).counters = s.counters ∨
    (s.missModule m).counters = { s.counters with noticesLost := inc16 s.counters.noticesLost } := by
  by_cases h : (s.moduleAt m).turnsStale s.params.missLimit = true
  · have counters := raise_counters (s.modModule m fun r =>
      { r with missCount := inc8 (s.moduleAt m).missCount, quality := .stale }) .moduleStale (some m)
    rw [missModule_of_stale h, counters]
    split
    · exact .inr rfl
    · exact .inl rfl
  · exact .inl (by rw [missModule_of_kept h]; exact rfl)

/-- What a close makes of one module of the expected set (R13, R15). -/
def State.countMiss (o : OpenRound) (completed : Bool) (m : Nat) (s : State) : State :=
  if o.reported.contains m then s.modModule m ModuleRec.fresh
  else if completed then s.missModule m
  else s

theorem countMisses_eq (s : State) (o : OpenRound) (completed : Bool) :
    s.countMisses o completed = s.forEach o.expected (State.countMiss o completed) := rfl

section
variable {o : OpenRound} {completed : Bool}

theorem countMiss_frame (s : State) (m : Nat) :
    s.changesOnly (s.countMiss o completed m) [.modules, .notices, .counters] := by
  rw [State.countMiss]
  split
  · exact State.changesOnly_mono (setModules_frame s _) (by decide)
  · split
    · exact missModule_frame s m
    · exact State.changesOnly_refl _ _

theorem countMiss_modules (s : State) (m : Nat) : ∃ f : ModuleRec → ModuleRec,
    (s.countMiss o completed m).modules = s.modules.modify m f ∧
    f (s.moduleAt m) = if o.reported.contains m then (s.moduleAt m).fresh
      else if completed then (s.moduleAt m).missed s.params.missLimit else s.moduleAt m := by
  rw [State.countMiss]
  split
  · exact ⟨_, rfl, rfl⟩
  · split
    · exact missModule_modules s m
    · exact ⟨id, (List.modify_id m s.modules).symm, rfl⟩

theorem moduleAt_countMiss_other {m k : Nat} (other : k ≠ m) :
    (s.countMiss o completed m).moduleAt k = s.moduleAt k := by
  obtain ⟨f, modules, -⟩ := countMiss_modules (o := o) (completed := completed) s m
  exact (moduleAt_of_modules (s := s.modModule m f) modules k).trans (moduleAt_modModule_other f other)

theorem moduleAt_countMiss_same {m : Nat} (there : m < s.modules.length) :
    (s.countMiss o completed m).moduleAt m = if o.reported.contains m then (s.moduleAt m).fresh
      else if completed then (s.moduleAt m).missed s.params.missLimit else s.moduleAt m := by
  obtain ⟨f, modules, value⟩ := countMiss_modules (o := o) (completed := completed) s m
  exact (moduleAt_of_modules (s := s.modModule m f) modules m).trans ((moduleAt_modModule_same f there).trans value)

theorem length_countMiss (s : State) (m : Nat) : (s.countMiss o completed m).modules.length = s.modules.length := by
  obtain ⟨f, modules, -⟩ := countMiss_modules (o := o) (completed := completed) s m
  rw [modules, List.length_modify]

theorem countMiss_params (s : State) (m : Nat) : (s.countMiss o completed m).params = s.params :=
  congrArg (·.params) (countMiss_frame s m .config (by decide))

theorem moduleAt_countMisses (nodup : o.expected.Nodup) {m : Nat} (there : m < s.modules.length) :
    (s.countMisses o completed).moduleAt m = if m ∈ o.expected then
      (if o.reported.contains m then (s.moduleAt m).fresh
        else if completed then (s.moduleAt m).missed s.params.missLimit else s.moduleAt m) else s.moduleAt m :=
  forEach_once (Inv := fun u => u.params = s.params ∧ u.modules.length = s.modules.length)
    (view := fun u => u.moduleAt m)
    (want := fun r => if o.reported.contains m then r.fresh
      else if completed then r.missed s.params.missLimit else r)
    (fun i u h => ⟨(countMiss_params u i).trans h.1, (length_countMiss u i).trans h.2⟩)
    (fun u h => by
      rw [moduleAt_countMiss_same (by rw [h.2]; exact there), h.1])
    (fun i u other _ => moduleAt_countMiss_other (Ne.symm other)) nodup ⟨rfl, rfl⟩

/-- Whether a close makes module `m`, of the expected set, STALE (R13). -/
def OpenRound.loses (o : OpenRound) (completed : Bool) (s : State) (m : Nat) : Bool :=
  !(o.reported.contains m) && completed && (s.moduleAt m).turnsStale s.params.missLimit

theorem countMiss_notices (s : State) (m : Nat) : (s.countMiss o completed m).notices =
    if o.loses completed s m then enterNotice s.notices ⟨.moduleStale, some m, 1, s.time⟩ else s.notices := by
  rw [State.countMiss, OpenRound.loses]
  cases o.reported.contains m with
  | true => exact rfl
  | false =>
    cases completed with
    | false => exact rfl
    | true => exact missModule_notices s m

theorem countMisses_notices : ∀ {l : List Nat} {s : State}, l.Nodup →
    (s.forEach l (State.countMiss o completed)).notices =
      (l.filter (o.loses completed s)).foldl (fun q m => enterNotice q ⟨.moduleStale, some m, 1, s.time⟩) s.notices := by
  intro l
  induction l with
  | nil => intro s _; rfl
  | cons m l ih =>
    intro s nodup
    obtain ⟨away, rest⟩ := List.nodup_cons.mp nodup
    have same : l.filter (o.loses completed (s.countMiss o completed m)) = l.filter (o.loses completed s) :=
      List.filter_congr fun k hk => by
        have other : k ≠ m := fun eq => away (eq ▸ hk)
        rw [OpenRound.loses, OpenRound.loses, moduleAt_countMiss_other other, countMiss_params]
    have time : (s.countMiss o completed m).time = s.time := countMiss_frame s m .time (by decide)
    have step : (s.forEach (m :: l) (State.countMiss o completed)).notices = _ := ih (s := s.countMiss o completed m) rest
    rw [step, same, time, countMiss_notices, List.filter_cons]
    split <;> rfl

end

theorem countMisses_frame (s : State) (o : OpenRound) (completed : Bool) :
    s.changesOnly (s.countMisses o completed) [.modules, .notices, .counters] :=
  frame_of fun h => h.countMisses (by decide)

theorem countMisses_length (s : State) (o : OpenRound) (completed : Bool) :
    (s.countMisses o completed).modules.length = s.modules.length := by
  rw [countMisses_eq]
  generalize o.expected = l
  induction l generalizing s with
  | nil => rfl
  | cons m l ih => exact (ih _).trans (length_countMiss s m)

/-- A notice lost is the only count that a close's miss counts move. -/
theorem countMisses_counters (s : State) (o : OpenRound) (completed : Bool) : ∃ n : Nat,
    (s.countMisses o completed).counters = { s.counters with noticesLost := n } := by
  rw [countMisses_eq]
  generalize o.expected = l
  induction l generalizing s with
  | nil => exact ⟨_, rfl⟩
  | cons m l ih =>
    obtain ⟨n, rest⟩ := ih (s.countMiss o completed m)
    refine ⟨n, Eq.trans rest ?_⟩
    rw [State.countMiss]
    split
    · exact rfl
    · split
      · rcases missModule_lost s m with h | h <;> rw [h]
      · exact rfl

/-! ### The obligation -/

/-- Settles O45: a round that begins places its first frame or is lost, and one that closes counts its misses. -/
theorem roundsBeginAndClose : Obligations.RoundsBeginAndClose := by
  unfold Obligations.RoundsBeginAndClose
  refine ⟨fun s scope quiet => ?_, fun s o completed open_ nodup => ?_⟩
  · intro o wakes tag begun sends t lost
    have opens : (s.roundOpened scope quiet).rounds.openRound = some (s.roundBegun scope quiet) := rfl
    refine ⟨mem_expected s scope, fun free => ?_, fun full => ?_⟩
    · refine (beginRound_eq s scope quiet).trans (ite_of_iff Iff.rfl ?_ (ite_of_iff Iff.rfl ?_ ?_))
      · exact wakeMonitors_of_free opens free
      · exact holdBleeding_of_free opens free
      · exact sampleCall_of_free opens free
    · refine (beginRound_eq s scope quiet).trans (ite_of_iff Iff.rfl (wakeMonitors_of_full opens full) ?_)
      cases quiet with
      | true => exact holdBleeding_of_full opens full
      | false => exact sampleCall_of_full opens full
  · intro missed misses goesStale usable
    let left := s.leaveRound
    have leftFrame : s.changesOnly left [.rounds, .fieldPort, .counters] := leaveRound_frame s
    have frame : left.changesOnly (left.countMisses o completed) [.modules, .notices, .counters] :=
      countMisses_frame left o completed
    have modules : left.modules = s.modules := leftFrame .modules (by decide)
    have at_ (m : Nat) : left.moduleAt m = s.moduleAt m := moduleAt_of_modules modules m
    have params : left.params = s.params := congrArg (·.params) (leftFrame .config (by decide))
    have time : left.time = s.time := leftFrame .time (by decide)
    have port : (left.countMisses o completed).fieldPort = left.fieldPort := frame .fieldPort (by decide)
    refine ⟨left.countMisses o completed, rfl, ?_, fun mode => ?_, fun mode free => ?_, fun mode full => ?_, ?_, fun m hm => ?_,
      ?_, ?_⟩
    · exact (frame .rounds (by decide)).trans (leaveRound_rounds s)
    · exact port.trans (by rw [show left = _ from leaveRound_of_normal mode]; exact rfl)
    · rw [port, show left = _ from leaveRound_of_holdup open_ mode, placeRoundFrame_of_free (p := s.sleepCall o.serial) rfl free]
      exact rfl
    · have placed : left = (s.placeRoundFrame (s.sleepCall o.serial)).endRound .suspended := leaveRound_of_holdup open_ mode
      rw [placeRoundFrame_of_full (p := s.sleepCall o.serial) rfl full] at placed
      obtain ⟨n, counters⟩ := countMisses_counters left o completed
      refine ⟨port.trans (by rw [placed]; exact rfl), ?_, ?_⟩
      · exact (congrArg Counters.fieldNormalRefused counters).trans (by rw [placed]; exact rfl)
      · exact (congrArg Counters.roundFramesLost counters).trans (by rw [placed]; exact rfl)
    · rw [countMisses_length, modules]
    · have view := moduleAt_countMisses (s := left) (completed := completed) nodup (show m < left.modules.length by rw [modules]; exact hm)
      rw [at_, params] at view
      refine view.trans ?_
      by_cases expected : m ∈ o.expected
      · by_cases reported : m ∈ o.reported
        · rw [if_pos expected, if_pos (List.contains_iff_mem.mpr reported), if_pos ⟨expected, reported⟩]
          rfl
        · have absent : ¬o.reported.contains m = true := fun h => reported (List.contains_iff_mem.mp h)
          have miss : missed m = completed := by simp [missed, expected, reported]
          have stale : goesStale m = (completed && (s.moduleAt m).turnsStale s.params.missLimit) := by
            simp only [goesStale, miss, Bool.and_assoc]
            rfl
          rw [if_pos expected, if_neg absent, if_neg (fun h => reported h.2 : ¬(m ∈ o.expected ∧ m ∈ o.reported)), miss, stale]
          cases completed <;> rfl
      · rw [if_neg expected, if_neg (fun h => expected h.1 : ¬(m ∈ o.expected ∧ m ∈ o.reported)), if_neg (by simp [missed, expected])]
    · have notices := countMisses_notices (o := o) (completed := completed) (s := left) nodup
      rw [time, show left.notices = s.notices from leftFrame .notices (by decide)] at notices
      refine (notices : (left.countMisses o completed).notices = _).trans
        (congrArg (fun l : List Nat => l.foldl _ s.notices) (List.filter_congr fun m hm => ?_))
      simp only [goesStale, missed, hm, decide_true, Bool.true_and, Bool.and_assoc]
      rw [OpenRound.loses, at_, params, Bool.and_assoc]
      rfl
    · exact State.changesOnly_trans (State.changesOnly_mono leftFrame (by decide)) (State.changesOnly_mono frame (by decide))

end Sys2Proof.Machine
end

section
/-! PROOF of O60: a trip cause and the connection record (R110, R111). -/

namespace Sys2Proof.Machine

variable {s t : State}

theorem locks_iff (c : TripCause) : c.locks = true ↔ c = .fire ∨ c = .welded := by
  cases c <;> simp [TripCause.locks, TripCause.lockout]

/-- The lockout that a cause brings where it locks or fills the history (R110). -/
def TripCause.brings (c : TripCause) : Lockout := if c = .fire then .fire else if c = .welded then .welded else .history

theorem brings_eq (c : TripCause) : (if c.locks then c.lockout else .history) = c.brings := by
  cases c <;> rfl

theorem brings_of_locks {c : TripCause} (h : c.locks = true) : c.lockout = c.brings :=
  (if_pos h).symm.trans (brings_eq c)

theorem combine_brings (held : Lockout) (c : TripCause) : held.combine c.brings =
    if held = .none ∨ (held = .history ∧ c.brings ≠ .history) then c.brings else held := by
  have which : c.brings = .fire ∨ c.brings = .welded ∨ c.brings = .history := by
    unfold TripCause.brings
    split
    · exact .inl rfl
    · split
      · exact .inr (.inl rfl)
      · exact .inr (.inr rfl)
  rcases which with h | h | h <;> rw [h] <;> cases held <;> rfl

/-- Whether a trip locks the connection out: the cause locks, or its entry fills the history (R110). -/
def State.tripLocks (s : State) (c : TripCause) : Prop :=
  (c = .fire ∨ c = .welded) ∨ s.tables.t9.tripLimit ≤ s.prunedHistory.length + 1

theorem tripLocks_iff (s : State) (c : TripCause) :
    (c.locks || decide (s.tables.t9.tripLimit ≤ (s.trippedConn c).history.length)) = true ↔ s.tripLocks c := by
  have length : (s.trippedConn c).history.length = s.prunedHistory.length + 1 := List.length_append
  rw [Bool.or_eq_true, locks_iff, decide_eq_true_eq, length]
  exact Iff.rfl

theorem tripOpen_of_locking {c : TripCause} (h : s.tripLocks c) :
    s.tripOpen c = (((((s.setConn (s.trippedConn c)).setCounters { s.counters with
      trips := inc16 s.counters.trips }).setFlags (s.latch .lockout).flags).raise .connectionTripped c.subject).changeEval) := by
  rw [State.tripOpen_eq]
  dsimp only
  rw [if_pos ((tripLocks_iff s c).mpr h)]
  exact rfl

theorem tripOpen_of_waiting {c : TripCause} (h : ¬s.tripLocks c) :
    s.tripOpen c = (((((s.setConn (s.trippedConn c)).setCounters { s.counters with
      trips := inc16 s.counters.trips }).setFlags s.flags).raise .connectionTripped c.subject).changeEval) := by
  rw [State.tripOpen_eq]
  dsimp only
  rw [if_neg fun yes => h ((tripLocks_iff s c).mp yes)]
  exact rfl

theorem trippedConn_of_locking {c : TripCause} (h : s.tripLocks c) : s.trippedConn c = { s.conn with
    state := .opening, tripCause := some c, history := s.historyWith c, reconnectEnd := none
    target := some .openLocked
    lockout := s.conn.lockout.combine c.brings
    tripOut := some (s.after s.tables.t9.tripPulse), closeOut := none
    breakerEnd := some (s.after s.tables.t9.openTimeout) } := by
  have locked : (c.locks || decide (s.tables.t9.tripLimit ≤ (s.historyWith c).length)) = true := (tripLocks_iff s c).mpr h
  simp only [State.trippedConn, locked, if_true, brings_eq]

theorem trippedConn_of_waiting {c : TripCause} (h : ¬s.tripLocks c) : s.trippedConn c = { s.conn with
    state := .opening, tripCause := some c, history := s.historyWith c, reconnectEnd := none
    target := some .openWait
    tripOut := some (s.after s.tables.t9.tripPulse), closeOut := none
    breakerEnd := some (s.after s.tables.t9.openTimeout) } := by
  have waiting : (c.locks || decide (s.tables.t9.tripLimit ≤ (s.historyWith c).length)) = false :=
    Bool.eq_false_iff.mpr fun yes => h ((tripLocks_iff s c).mp yes)
  simp only [State.trippedConn, waiting, Bool.false_eq_true, if_false]

theorem tripOpen_keeps (s : State) (c : TripCause) : (s.tripOpen c).conn = s.trippedConn c ∧
    (s.tripOpen c).counters.trips = inc16 s.counters.trips := by
  refine ⟨tripOpen_conn s c, ?_⟩
  by_cases h : s.tripLocks c
  · rw [tripOpen_of_locking h]
    exact congrArg Counters.trips ((changeEval_unmade _).trans (raise_unmade ..))
  · rw [tripOpen_of_waiting h]
    exact congrArg Counters.trips ((changeEval_unmade _).trans (raise_unmade ..))

theorem raisedEval_flags (s : State) (k : NoticeKind) (x : Option Nat) : (s.raise k x).changeEval.flags = s.flags :=
  (changeEval_frame _ .flags (by decide)).trans (raise_frame _ _ _ .flags (by decide))

theorem tripOpen_flags_of_locking {c : TripCause} (h : s.tripLocks c) : (s.tripOpen c).flags = (s.latch .lockout).flags := by
  rw [tripOpen_of_locking h, raisedEval_flags]
  exact rfl

theorem tripOpen_flags_of_waiting {c : TripCause} (h : ¬s.tripLocks c) : (s.tripOpen c).flags = s.flags := by
  rw [tripOpen_of_waiting h, raisedEval_flags]
  exact rfl

/-! ### The states that are not closed (R111) -/

theorem trip_of_opening (state : s.conn.state = .opening) {c : TripCause} : s.trip c = if c = .fire ∨ c = .welded then
    (s.setConn { s.conn with target := some .openLocked, lockout := s.conn.lockout.combine c.lockout }).setFlags
      (s.latch .lockout).flags
    else s := by
  simp only [State.trip, state]
  exact ite_of_iff (locks_iff c) rfl rfl

theorem trip_of_openWait (state : s.conn.state = .openWait) {c : TripCause} : s.trip c = if c = .fire ∨ c = .welded then
    ((s.setConn { s.conn with state := .openLocked, lockout := s.conn.lockout.combine c.lockout }).setFlags
      (s.latch .lockout).flags).changeEval
    else s := by
  simp only [State.trip, state]
  exact ite_of_iff (locks_iff c) rfl rfl

theorem trip_of_reconnectTiming (state : s.conn.state = .reconnectTiming) {c : TripCause} :
    s.trip c = if c = .fire ∨ c = .welded then
      ((s.setConn { s.conn with reconnectEnd := none, state := .openLocked, lockout := s.conn.lockout.combine c.lockout }).setFlags
        (s.latch .lockout).flags).changeEval
    else (s.setConn { s.conn with reconnectEnd := none, state := .openWait }).changeEval := by
  simp only [State.trip, state]
  exact ite_of_iff (locks_iff c) rfl rfl

theorem trip_of_openLocked (state : s.conn.state = .openLocked) {c : TripCause} :
    s.trip c = if (c = .fire ∨ c = .welded) ∧ s.conn.lockout = .history then
      s.setConn { s.conn with lockout := c.lockout } else s := by
  simp only [State.trip, state]
  refine ite_of_iff ?_ rfl rfl
  rw [Bool.and_eq_true, locks_iff, beq_iff_eq]

/-- A state built around its own connection record. -/
theorem eq_of_conn {build : ConnRec → State} {x : ConnRec} (h : t = build x) (conn : (build x).conn = x) :
    t = build t.conn := by
  rw [h, conn]

/-- Settles O60: from the closed states the one change of record, count and flag, and in the others what R111's table
says. -/
theorem tripCauseOpensTheBreaker : Obligations.TripCauseOpensTheBreaker := by
  unfold Obligations.TripCauseOpensTheBreaker
  intro s c t kept full locked locks lockout held taken subject
  have combined : s.conn.lockout.combine c.brings = taken := combine_brings _ c
  have subjectEq : c.subject = subject := by cases c <;> rfl
  have evalConn (u : State) : u.changeEval.conn = u.conn := changeEval_frame u .conn (by decide)
  have takenOf (h : locks) : s.conn.lockout.combine c.lockout = taken := by
    rw [brings_of_locks ((locks_iff c).mpr h), combined]
  refine ⟨fun state => ?_, fun state => ?_, fun state => ?_, fun state => ?_, fun state => ?_, fun state => ?_, fun state => ?_,
    fun state => ?_, fun state => ?_, State.changesOnly_mono (trip_frame s c) (by decide)⟩
  · obtain ⟨conn, trips⟩ := tripOpen_keeps s c
    have opened : t = s.tripOpen c := trip_of_closed state
    clear_value t
    subst opened
    by_cases h : s.tripLocks c
    · have yes : locks ∨ full := h
      have flags := tripOpen_flags_of_locking h
      refine ⟨?_, trips, ?_, ?_⟩
      · rw [conn, trippedConn_of_locking h, combined, if_pos yes, if_pos yes]
        exact rfl
      · rw [flags, if_pos yes]
      · rw [conn, flags, ← subjectEq]
        exact tripOpen_of_locking h
    · have no : ¬(locks ∨ full) := h
      have flags := tripOpen_flags_of_waiting h
      refine ⟨?_, trips, ?_, ?_⟩
      · rw [conn, trippedConn_of_waiting h, if_neg no, if_neg no]
        exact rfl
      · rw [flags, if_neg no]
      · rw [conn, flags, ← subjectEq]
        exact tripOpen_of_waiting h
  · have eq : t = _ := trip_of_opening state
    by_cases h : locks
    · exact (eq_of_conn (build := fun k => (s.setConn k).setFlags locked) (eq.trans (if_pos h)) rfl).trans (if_pos h).symm
    · exact (eq.trans (if_neg h)).trans (if_neg h).symm
  · have eq : t = _ := trip_of_openWait state
    by_cases h : locks
    · exact (eq_of_conn (build := fun k => ((s.setConn k).setFlags locked).changeEval) (eq.trans (if_pos h))
        (evalConn _)).trans (if_pos h).symm
    · exact (eq.trans (if_neg h)).trans (if_neg h).symm
  · have eq : t = _ := trip_of_reconnectTiming state
    by_cases h : locks
    · exact (eq_of_conn (build := fun k => ((s.setConn k).setFlags locked).changeEval) (eq.trans (if_pos h))
        (evalConn _)).trans (congrArg State.changeEval (if_pos h).symm)
    · exact (eq_of_conn (build := fun k => (s.setConn k).changeEval) (eq.trans (if_neg h))
        (evalConn _)).trans (congrArg State.changeEval (if_neg h).symm)
  · have eq : t = _ := trip_of_openLocked state
    by_cases h : locks ∧ held = .history
    · exact eq_of_conn (build := fun k => s.setConn k) (eq.trans (if_pos h)) rfl
    · exact eq_of_conn (build := fun k => s.setConn k) (x := s.conn) (eq.trans (if_neg h)) rfl
  · have eq : t = _ := trip_of_opening state
    by_cases h : locks
    · rw [eq, if_pos h, if_pos h, ← takenOf h]
      exact rfl
    · rw [eq, if_neg h, if_neg h]
  · have eq : t = _ := trip_of_openWait state
    by_cases h : locks
    · rw [eq, if_pos h, if_pos h, ← takenOf h, evalConn]
      exact rfl
    · rw [eq, if_neg h, if_neg h]
  · have eq : t = _ := trip_of_reconnectTiming state
    by_cases h : locks
    · rw [eq, if_pos h, if_pos h, ← takenOf h, evalConn]
      exact rfl
    · rw [eq, if_neg h, if_neg h, evalConn]
      exact rfl
  · have eq : t = _ := trip_of_openLocked state
    by_cases h : locks ∧ held = .history
    · rw [eq, if_pos h, if_pos h, brings_of_locks ((locks_iff c).mpr h.1)]
      exact rfl
    · rw [eq, if_neg h, if_neg h]

end Sys2Proof.Machine
end

section
/-! PROOF of O51: contactor timers and the silence of nodes (R30, R32, R33, R139, R155, R156). -/

namespace Sys2Proof.Machine

variable {s t : State} {i : Nat}

/-! ### Contactor timers (R32, R33) -/

theorem stringMoved_of_welded {old : StringState} (kept : clearsMasks old .welded = false)
    (welded : (s.stringAt i).state = .welded) : s.stringMoved i old = s.changeEval.trip .welded := by
  simp only [State.stringMoved, welded, kept, Bool.false_eq_true, if_false]
  exact rfl

theorem stringMoved_of_kept {old new : StringState} (kept : clearsMasks old new = false) (state : (s.stringAt i).state = new)
    (sound : new ≠ .welded) : s.stringMoved i old = s.changeEval := by
  simp only [State.stringMoved, state, kept, Bool.false_eq_true, if_false]
  exact if_neg fun h => sound (eq_of_beq h)

/-- A WELDED entry opens a closed breaker toward OPEN_LOCKED (R110). -/
theorem conn_trip_welded (state : s.conn.state = .connected ∨ s.conn.state = .rideThrough ∨ s.conn.state = .closing) :
    (s.trip .welded).conn.state = .opening ∧ (s.trip .welded).conn.target = some .openLocked ∧
      (s.trip .welded).conn.tripCause = some .welded ∧ (s.trip .welded).conn.lockout ≠ .none := by
  have locks : s.tripLocks .welded := .inl (.inr rfl)
  have conn : (s.trip .welded).conn = s.trippedConn .welded :=
    (congrArg (fun u : State => u.conn) (trip_of_closed state)).trans (tripOpen_conn s .welded)
  rw [conn, trippedConn_of_locking locks]
  exact ⟨rfl, rfl, rfl, Lockout.combine_ne_none _ (by decide)⟩

/-- The string's contactor has not opened (R32). -/
def State.weldedString (s : State) (i : Nat) : State :=
  ((s.modString i fun r => { r with state := .welded, retained := .welded, timer := none }).latch .contactorFail).raise
    .contactorFail (some i)

theorem weldedString_strings (s : State) (i : Nat) : (s.weldedString i).strings =
    s.strings.modify i fun r => { r with state := .welded, retained := .welded, timer := none } :=
  raise_frame _ _ _ .strings (by decide)

theorem weldedString_frame (s : State) (i : Nat) :
    s.changesOnly (s.weldedString i) [.strings, .flags, .notices, .counters] :=
  State.changesOnly_trans (State.changesOnly_mono (setStrings_frame s _) (by decide))
    (State.changesOnly_trans (State.changesOnly_mono (latch_frame _ _) (by decide))
      (State.changesOnly_mono (raise_frame _ _ _) (by decide)))

theorem contactorTimedOut_of_welded (h : i < s.strings.length) (state : (s.stringAt i).state = .isolating)
    (live : s.nodeStateOf .stringMonitor i = .live) :
    s.contactorTimedOut i = (s.weldedString i).changeEval.trip .welded := by
  have welded : ((s.weldedString i).stringAt i).state = .welded :=
    congrArg StringRec.state (stringAt_modify (weldedString_strings s i) h)
  have moved := stringMoved_of_welded (old := .isolating) rfl welded
  simp only [State.contactorTimedOut, state, live, beq_self_eq_true, if_true]
  exact moved

theorem contactorTimedOut_of_silent (state : (s.stringAt i).state = .isolating)
    (silent : s.nodeStateOf .stringMonitor i ≠ .live) :
    s.contactorTimedOut i = s.modString i fun r => { r with timer := none } := by
  simp only [State.contactorTimedOut, state]
  exact if_neg fun h => silent (eq_of_beq h)

theorem contactorTimedOut_of_restoring (h : i < s.strings.length) (state : (s.stringAt i).state = .restoring) :
    s.contactorTimedOut i = ((s.modString i fun r =>
      { r with state := .isolated, cause := some .external, timer := none }).raise .contactorFail (some i)).changeEval := by
  have strings : ((s.modString i fun r => { r with state := .isolated, cause := some .external, timer := none }).raise
      .contactorFail (some i)).strings = s.strings.modify i _ := raise_frame _ _ _ .strings (by decide)
  have moved := stringMoved_of_kept (old := .restoring) (new := .isolated) rfl
    (congrArg StringRec.state (stringAt_modify strings h)) (by decide)
  simp only [State.contactorTimedOut, state]
  exact moved

/-! ### Silence (R155, R156) -/

theorem silence_of_due {k : Fin 64} {e : NodeEntry} (runs : s.runs) (entry : s.nodeEntry k = some e)
    (live : (s.nodeAt k).state = .live) (due : s.due (s.nodeAt k).silenceEnd = true) :
    exec (.nodeSilenceExpiry k) s = .next (s.nodeSilenced k e) := by
  change execNodeSilenceExpiry k s = _
  unfold execNodeSilenceExpiry
  refine whileRunning_to runs ?_
  simp only [entry, live, beq_self_eq_true, if_true]
  exact if_pos due

theorem monitorSilent_of_commanded (state : (s.stringAt i).state = .awaiting ∨ (s.stringAt i).state = .inService ∨
    (s.stringAt i).state = .restoring) : s.monitorSilent i = s.raiseCause i .monitorSilent := by
  rcases state with state | state | state <;> simp only [State.monitorSilent, state]

theorem monitorSilent_of_rest (state : (s.stringAt i).state = .isolating ∨ (s.stringAt i).state = .isolated ∨
    (s.stringAt i).state = .lockedOut ∨ (s.stringAt i).state = .welded) :
    s.monitorSilent i = (s.contactorCommand i false).raiseCause i .monitorSilent := by
  rcases state with state | state | state | state <;> simp only [State.monitorSilent, state]

theorem contactorOpen_eq (s : State) (i : Nat) : s.contactorCommand i false = match s.addressOf .stringMonitor i with
    | none => s.setCounters { s.counters with contactorUnaddressed := inc16 s.counters.contactorUnaddressed }
    | some a => s.placeUrgent (s.ownFrame kindContactorCommand a (contactorPayload false)) := by
  unfold State.contactorCommand
  cases s.addressOf .stringMonitor i <;> rfl

/-- The detectors that a panel reaches: in use, from its first on (R138). -/
def State.reachedBy (s : State) (first k : Nat) : Bool := decide (first ≤ k) && (s.detectorEntry k).inUse

theorem panelSilent_eq (s : State) (first : Nat) : s.panelSilent first =
    ((List.range 8).filter fun z => (List.range 16).any fun k =>
      s.reachedBy first k && (s.detectorEntry k).zone == z).foldl (fun t z => t.evaluateZone z)
      (s.setFire { s.fire with detectors := s.fire.detectors.mapIdx fun k d =>
        if k < 16 ∧ s.reachedBy first k = true then { d with
          loop := .silent, grade := .none, openRun := 0, shortRun := 0, normalRun := 0, preRun := 0, alarmRun := 0
          clearRun := 0 }
        else d }) := by
  let reached := (List.range 16).filter (s.reachedBy first)
  have nodup : reached.Nodup := nodup_filter_range _ _
  have silenced := forEach_modDetector (s := s) (fun _ d => { d.zeroRuns with loop := .silent, grade := .none }) nodup
  have mem (k : Nat) : k ∈ reached ↔ k < 16 ∧ s.reachedBy first k = true := by
    rw [List.mem_filter, List.mem_range]
  have detectors : (s.fire.detectors.mapIdx fun k d =>
      if k ∈ reached then ({ d.zeroRuns with loop := .silent, grade := .none } : DetectorRec) else d) =
      s.fire.detectors.mapIdx fun k d => if k < 16 ∧ s.reachedBy first k = true then { d with
          loop := .silent, grade := .none, openRun := 0, shortRun := 0, normalRun := 0, preRun := 0, alarmRun := 0
          clearRun := 0 }
        else d := by
    congr 1
    funext k d
    exact ite_of_iff (mem k) rfl rfl
  have zones : allZones.filter (reached.map fun k => (s.detectorEntry k).zone).contains =
      (List.range 8).filter fun z => (List.range 16).any fun k => s.reachedBy first k && (s.detectorEntry k).zone == z := by
    refine List.filter_congr fun z _ => ?_
    rw [Bool.eq_iff_iff, List.contains_iff_mem, List.mem_map, List.any_eq_true]
    refine exists_congr fun k => ?_
    rw [mem, List.mem_range, Bool.and_eq_true, beq_iff_eq, and_assoc]
  have eq : s.panelSilent first = (s.forEach reached fun _ u => u.modDetector _ _).evaluateZones _ := rfl
  rw [eq, silenced, detectors]
  exact congrArg (State.evaluateZones _) zones

/-- Settles O51: a contactor timer acts by its string's state, and silence by the role. -/
theorem contactorAndNodeTimersAct : Obligations.ContactorAndNodeTimersAct := by
  unfold Obligations.ContactorAndNodeTimersAct
  refine ⟨fun s runs => ⟨fun i there due => ?_, fun k e entry live due => silence_of_due runs entry live due⟩,
    fun s i => ?_⟩
  · have ran : exec (.contactorTimerExpiry i) s = .next (s.contactorTimedOut i) := expires runs due
    refine ⟨fun state live => ⟨_, ran, ?_⟩, fun state silent => ?_, fun state => ?_⟩
    · rw [contactorTimedOut_of_welded there state live]
      have evaluated := changeEval_frame (s.weldedString i)
      have frame := State.changesOnly_trans (State.changesOnly_mono (weldedString_frame s i)
          (by decide : _ ⊆ [.strings, .conn, .envelope, .gate, .fieldPort, .flags, .notices, .counters]))
        (State.changesOnly_trans (State.changesOnly_mono evaluated (by decide))
          (State.changesOnly_mono (trip_frame (s.weldedString i).changeEval .welded) (by decide)))
      have strings : ((s.weldedString i).changeEval.trip .welded).strings = s.strings.modify i _ :=
        ((trip_frame _ _ .strings (by decide)).trans (evaluated .strings (by decide))).trans (weldedString_strings s i)
      have conn : (s.weldedString i).changeEval.conn = s.conn :=
        (evaluated .conn (by decide)).trans (weldedString_frame s i .conn (by decide))
      refine ⟨stringAt_modify strings there, ?_, fun closed => conn_trip_welded (by rwa [conn]),
        fun j other => stringAt_modify_other strings other, keeps_of_changesOnly frame (by decide)⟩
      exact isLatched_trip (isLatched_changeEval
        (isLatched_of_flags (raise_frame _ _ _ .flags (by decide)) (isLatched_latch_self _ .contactorFail)))
    · rw [ran, contactorTimedOut_of_silent state silent]
      exact rfl
    · rw [ran, contactorTimedOut_of_restoring there state]
      exact rfl
  · intro state command lost reached detectors zones
    refine ⟨rfl, rfl, monitorSilent_of_commanded, fun rest => ?_, rfl, fun held => ?_, fun change => ?_,
      panelSilent_eq s i, rfl⟩
    · have commanded : s.contactorCommand i false = command := contactorOpen_eq s i
      rw [← commanded]
      exact monitorSilent_of_rest rest
    · exact coolantTo_of_held held.symm
    · exact coolantTo_of_change (Ne.symm change)

end Sys2Proof.Machine
end

section
/-! PROOF of O56: the breaker and stop lines (R83, R112, R114, R116, R119, R176). -/

namespace Sys2Proof.Machine

variable {s t : State} {i : Nat}

/-! ### A breaker found closed (R114, R119) -/

/-- The connection record with TRIP_OUT pulsed (R112). -/
def State.pulsedConn (s : State) : ConnRec :=
  { s.conn with closeOut := none, tripOut := some (s.after s.tables.t9.tripPulse)
                breakerEnd := some (s.after s.tables.t9.openTimeout) }

theorem foundClosed_frame (s : State) (byHand : Bool) :
    s.changesOnly (s.foundClosed byHand) [.envelope, .gate, .conn, .fieldPort, .notices, .flags, .counters] :=
  frame_of fun h => h.foundClosed (List.Subset.refl _)

theorem barred_iff (s : State) : (s.conn.lockout != .none || s.anyConfirmed) = true ↔
    s.conn.lockout ≠ .none ∨ s.anyConfirmed = true := by
  rw [Bool.or_eq_true, bne_iff_ne]

theorem foundClosed_of_barred {byHand : Bool} (barred : s.conn.lockout ≠ .none ∨ s.anyConfirmed = true) :
    (s.foundClosed byHand).conn = { s.pulsedConn with
      reconnectEnd := none, state := .opening, target := some .openLocked
      tripCause := some (if s.anyConfirmed then .fire else .enforces s.conn.lockout) } := by
  have eq : s.foundClosed byHand = (s.setConn { s.conn with reconnectEnd := none }).enforceOpen :=
    if_pos ((barred_iff s).mpr barred)
  rw [eq]
  exact connTo_conn _ _

/-- The causes that stand after a reset do not lock (R114). -/
theorem standingTrip_cases {c : TripCause} (h : s.standingTrip = some c) : ¬(c = .fire ∨ c = .welded) := by
  unfold State.standingTrip at h
  split at h
  · cases h; simp
  · split at h
    · cases h; simp
    · split at h
      · cases h; simp
      · nomatch h

theorem foundClosed_of_standing {byHand : Bool} {c : TripCause} (free : ¬(s.conn.lockout ≠ .none ∨ s.anyConfirmed = true))
    (standing : s.standingTrip = some c) : (s.foundClosed byHand).conn = { s.pulsedConn with
      reconnectEnd := none, state := .opening, tripCause := some c, history := s.historyWith c
      target := some (if s.tables.t9.tripLimit ≤ s.prunedHistory.length + 1 then .openLocked else .openWait)
      lockout := if s.tables.t9.tripLimit ≤ s.prunedHistory.length + 1 then .history else .none } := by
  let u := s.setConn { s.conn with reconnectEnd := none }
  have standing' : u.standingTrip = some c := standing
  have eq : s.foundClosed byHand = u.tripOpen c := by
    have barred : ¬(u.conn.lockout != .none || u.anyConfirmed) = true := fun h => free ((barred_iff s).mp h)
    unfold State.foundClosed
    dsimp only
    rw [if_neg barred, standing']
  have none_ : s.conn.lockout = .none := Classical.not_not.mp fun h => free (.inl h)
  have causeFree := standingTrip_cases standing
  rw [eq, tripOpen_conn]
  by_cases full : s.tables.t9.tripLimit ≤ s.prunedHistory.length + 1
  · have locks : u.tripLocks c := .inr full
    have brings : c.brings = .history := by
      rw [TripCause.brings, if_neg fun h => causeFree (.inl h), if_neg fun h => causeFree (.inr h)]
    rw [trippedConn_of_locking locks, if_pos full, if_pos full, brings, show u.conn.lockout = .none from none_]
    exact rfl
  · have waits : ¬u.tripLocks c := fun h => h.elim causeFree full
    rw [trippedConn_of_waiting waits, if_neg full, if_neg full, ← none_]
    exact rfl

theorem takeClosed_conn (s : State) : s.takeClosed.conn = { s.conn with state := s.closedState } := by
  unfold State.takeClosed
  dsimp only
  rw [connTo_conn]
  split <;> rfl

theorem foundClosed_of_free {byHand : Bool} (free : ¬(s.conn.lockout ≠ .none ∨ s.anyConfirmed = true))
    (standing : s.standingTrip = none) : (s.foundClosed byHand).conn =
      { s.conn with reconnectEnd := none, state := s.closedState } := by
  let u := s.setConn { s.conn with reconnectEnd := none }
  have standing' : u.standingTrip = none := standing
  have barred : ¬(u.conn.lockout != .none || u.anyConfirmed) = true := fun h => free ((barred_iff s).mp h)
  have eq : s.foundClosed byHand = (if byHand then u.raise .breakerExternal none else u).takeClosed := by
    unfold State.foundClosed
    dsimp only
    rw [if_neg barred, standing']
  rw [eq, takeClosed_conn]
  cases byHand with
  | false => rfl
  | true => rw [State.raise_eq]; rfl

/-! ### The trip condition that stands (R114) -/

theorem standingTrip_eq (s : State) : s.standingTrip =
    match s.tripStages .operated with
    | n :: _ => some (.stage n)
    | [] => if s.lineIsActive .eStop = true then some .eStop
      else if s.nodeStateOf .meter 0 = .silent then some .meterLost else none := by
  unfold State.standingTrip
  cases s.tripStages .operated with
  | cons n rest => rfl
  | nil => exact ite_of_iff Iff.rfl rfl (ite_of_iff (beq_iff_eq (b := NodeState.silent)) rfl rfl)

/-- The lowest of the stages in a given state stands at the front of them. -/
theorem tripStages_head (s : State) {x : StageState} {n : Nat} {rest : List Nat} (h : s.tripStages x = n :: rest) (m : Nat) :
    m = n ↔ m < 8 ∧ m ∈ s.tripStages x ∧ ∀ j < m, j ∉ s.tripStages x := by
  have sorted : (s.tripStages x).Pairwise (· < ·) := List.pairwise_lt_range.filter _
  have range : ∀ k ∈ s.tripStages x, k < 8 := fun k hk => List.mem_range.mp ((List.mem_filter.mp hk).1)
  rw [h] at sorted range ⊢
  have least := (List.pairwise_cons.mp sorted).1
  constructor
  · rintro rfl
    refine ⟨range m (List.mem_cons_self ..), List.mem_cons_self .., fun j hj hm => ?_⟩
    rcases List.mem_cons.mp hm with rfl | later
    · exact absurd hj (Nat.lt_irrefl _)
    · exact absurd (least j later) (Nat.lt_asymm hj)
  · rintro ⟨_, hm, lowest⟩
    rcases List.mem_cons.mp hm with rfl | later
    · rfl
    · exact absurd (List.mem_cons_self ..) (lowest n (least m later))

theorem standingTrip_iff (s : State) (k : TripCause) : s.standingTrip = some k ↔
    (∃ n < 8, k = .stage n ∧ n ∈ s.tripStages .operated ∧ ∀ j < n, j ∉ s.tripStages .operated) ∨
    (s.tripStages .operated = [] ∧ s.lineIsActive .eStop = true ∧ k = .eStop) ∨
    (s.tripStages .operated = [] ∧ s.lineIsActive .eStop = false ∧ s.nodeStateOf .meter 0 = .silent ∧ k = .meterLost) := by
  rw [standingTrip_eq]
  cases stages : s.tripStages .operated with
  | cons n rest =>
    have head (m : Nat) := tripStages_head s stages m
    rw [stages] at head
    constructor
    · intro h
      cases h
      obtain ⟨range, mem, low⟩ := (head n).mp rfl
      exact .inl ⟨n, range, rfl, mem, low⟩
    · rintro (⟨m, range, rfl, mem, low⟩ | ⟨none_, -⟩ | ⟨none_, -⟩)
      · rw [(head m).mpr ⟨range, mem, low⟩]
      · nomatch none_
      · nomatch none_
  | nil =>
    have noStage : ¬∃ n < 8, k = TripCause.stage n ∧ n ∈ ([] : List Nat) ∧ ∀ j < n, j ∉ ([] : List Nat) :=
      fun ⟨_, _, _, mem, _⟩ => List.not_mem_nil mem
    rw [or_iff_right noStage]
    dsimp only
    by_cases stop : s.lineIsActive .eStop = true
    · rw [if_pos stop]
      simp [stop, eq_comm]
    · rw [if_neg stop]
      rw [Bool.not_eq_true] at stop
      by_cases silent : s.nodeStateOf .meter 0 = .silent
      · rw [if_pos silent]
        simp [stop, silent, eq_comm]
      · rw [if_neg silent]
        simp [stop, silent]

/-! ### Other movements of the breaker (R112, R114, R116) -/

theorem externalOpen_conn (s : State) : s.externalOpen.conn = s.externalConn := by
  rw [State.externalOpen_eq]
  refine (changeEval_frame _ .conn (by decide)).trans ((raise_frame _ _ _ .conn (by decide)).trans ?_)
  split <;> rfl

theorem externalConn_eq (s : State) : s.externalConn = { s.conn with
    history := s.historyWith .external
    state := if s.tables.t9.tripLimit ≤ s.prunedHistory.length + 1 then .openLocked else .openWait
    lockout := if s.tables.t9.tripLimit ≤ s.prunedHistory.length + 1 ∧ s.conn.lockout = .none then .history
      else s.conn.lockout } := by
  have length : (s.historyWith .external).length = s.prunedHistory.length + 1 := List.length_append
  by_cases full : s.tables.t9.tripLimit ≤ s.prunedHistory.length + 1
  · simp only [State.externalConn, length, full, decide_true, if_true, true_and]
    cases s.conn.lockout <;> rfl
  · simp only [State.externalConn, length, full, decide_false, Bool.false_eq_true, if_false, false_and]

theorem externalOpen_trips (s : State) : s.externalOpen.counters.trips = inc16 s.counters.trips := by
  rw [State.externalOpen_eq]
  refine (congrArg Counters.trips ((changeEval_unmade _).trans (raise_unmade ..))).trans ?_
  split <;> rfl

theorem isLatched_externalOpen (full : s.tables.t9.tripLimit ≤ s.prunedHistory.length + 1) :
    s.externalOpen.isLatched .lockout = true := by
  have length : s.externalConn.history.length = s.prunedHistory.length + 1 := List.length_append
  rw [State.externalOpen_eq]
  dsimp only
  rw [if_pos (decide_eq_true (length ▸ full))]
  exact isLatched_changeEval (isLatched_of_flags (raise_frame _ _ _ .flags (by decide)) (isLatched_latch_self _ .lockout))

theorem openedAsTold_conn (s : State) : s.openedAsTold.conn = { s.conn with
    breakerEnd := none, tripCause := none, target := none
    state := if s.conn.target = some .openLocked then .openLocked else .openWait } := by
  unfold State.openedAsTold
  dsimp only
  rw [connTo_conn]
  have target : (if s.conn.target == some OpenTarget.openLocked then ConnState.openLocked else .openWait) =
      if s.conn.target = some .openLocked then .openLocked else .openWait := ite_of_iff beq_iff_eq rfl rfl
  rw [target]
  exact rfl

theorem closedAsTold_conn (s : State) : s.closedAsTold.conn = { s.conn with
    breakerEnd := none, state := s.closedState
    request := if s.conn.request = .connect then .none else s.conn.request } := by
  let u := s.setConn { s.conn with
    breakerEnd := none, request := if s.conn.request == .connect then .none else s.conn.request }
  have eq : s.closedAsTold = (u.raise .connected none).takeClosed := rfl
  have request : (if (s.conn.request == .connect) = true then ConnectRequest.none else s.conn.request) =
      if s.conn.request = .connect then .none else s.conn.request := ite_of_iff beq_iff_eq rfl rfl
  rw [eq, takeClosed_conn, State.raise_eq]
  exact congrArg (fun q : ConnectRequest => ({ s.conn with breakerEnd := none, request := q, state := s.closedState } : ConnRec))
    request

/-! ### The stop line (R83, R176) -/

theorem stringMoved_gate_unmade (s : State) (i : Nat) (old : StringState) : (s.stringMoved i old).gate.unmade = s.gate.unmade := by
  have evaluated : (if clearsMasks old (s.stringAt i).state then s.clearStringMasks i else s).changeEval.gate.unmade =
      s.gate.unmade := by
    rw [changeEval_gate_unmade]
    split
    · exact congrArg GateRec.unmade (clearMasks_frame s _ .gate (by decide))
    · rfl
  unfold State.stringMoved
  dsimp only
  split
  · rw [trip_gate_unmade, evaluated]
  · exact evaluated

theorem raiseCause_gate_unmade (s : State) (i : Nat) (c : IsolationCause) :
    (s.raiseCause i c).gate.unmade = s.gate.unmade := by
  have isolated : (s.isolate i (some c) none).gate.unmade = s.gate.unmade := by
    refine (stringMoved_gate_unmade _ _ _).trans (congrArg GateRec.unmade ?_)
    exact contactorCommand_frame s i false .gate (by decide)
  cases state : (s.stringAt i).state with
  | awaiting => rw [raiseCause_of_awaiting c state]; split <;> rfl
  | inService => exact raiseCause_of_serving c (.inl state) ▸ isolated
  | restoring => exact raiseCause_of_serving c (.inr state) ▸ isolated
  | isolating => rw [raiseCause_of_isolating c state]; split <;> rfl
  | isolated =>
    rw [raiseCause_of_isolated c state]
    split
    · exact stringMoved_gate_unmade _ _ _
    · rfl
  | lockedOut => rw [raiseCause_of_out c (.inl state)]
  | welded => rw [raiseCause_of_out c (.inr state)]

/-- The gate held by the stop line (R83). -/
def State.stopped (s : State) : Prop := s.gate.state = .held ∧ s.gate.heldCause = some .eStop

theorem stopped_of_unmade (h : t.gate.unmade = s.gate.unmade) (hs : s.stopped) : t.stopped :=
  ⟨(congrArg GateRec.state h).trans hs.1, (congrArg GateRec.heldCause h).trans hs.2⟩

theorem stopped_holdForEStop (s : State) : s.holdForEStop.stopped := by
  unfold State.holdForEStop
  split
  case isTrue held => exact ⟨eq_of_beq held, rfl⟩
  case isFalse free =>
    have noticed : ((s.setGate { s.gate with state := .held, heldCause := some .eStop }).raise .gateHeld none).stopped := by
      rw [State.stopped, raise_gate]
      exact ⟨rfl, rfl⟩
    dsimp only
    split
    · exact stopped_of_unmade (correct_gate_unmade _) noticed
    · exact noticed

theorem holdForEStop_frame (s : State) :
    s.changesOnly s.holdForEStop [.envelope, .gate, .fieldPort, .notices, .counters] :=
  frame_of fun h => h.holdForEStop (List.Subset.refl _)

/-- The gate held and the envelope evaluated, in the order that is free (R83; log 4). -/
def State.stopHeld (s : State) (gateIsFirst : Bool) : State :=
  if gateIsFirst then s.holdForEStop.changeEval else s.changeEval.holdForEStop

theorem stopHeld_frame (s : State) (b : Bool) :
    s.changesOnly (s.stopHeld b) [.envelope, .gate, .fieldPort, .notices, .counters] := by
  rw [State.stopHeld]
  split
  · exact State.changesOnly_trans (holdForEStop_frame s) (changeEval_frame _)
  · exact State.changesOnly_trans (changeEval_frame s) (holdForEStop_frame _)

theorem stopped_stopHeld (s : State) (b : Bool) : (s.stopHeld b).stopped := by
  rw [State.stopHeld]
  split
  · exact stopped_of_unmade (changeEval_gate_unmade _) (stopped_holdForEStop s)
  · exact stopped_holdForEStop _

/-- The stop line's cause raised for every string (R176). -/
def State.stringsStopped (s : State) : State := s.forEach (List.range 4) fun i s => s.raiseCause i .eStop

theorem stringsStopped_frame (s : State) : s.changesOnly s.stringsStopped causeParts := by
  unfold State.stringsStopped
  generalize List.range 4 = l
  exact keeps_foldl (P := fun u => s.changesOnly u causeParts) (fun u i h => State.changesOnly_trans h (raiseCause_frame u i .eStop))
    (State.changesOnly_refl _ _)

theorem stopped_stringsStopped (hs : s.stopped) : s.stringsStopped.stopped := by
  unfold State.stringsStopped
  generalize List.range 4 = l
  exact keeps_foldl (P := State.stopped) (fun u i h => stopped_of_unmade (raiseCause_gate_unmade u i .eStop) h) hs

theorem outOfService_stringsStopped {k : Nat} (h : k < 4) : s.stringsStopped.outOfService k := by
  have mem : k ∈ List.range 4 := List.mem_range.mpr h
  unfold State.stringsStopped
  generalize List.range 4 = l at mem
  exact forEach_reaches (R := fun _ => True) (Q := fun u => u.outOfService k) (fun u _ => outOfService_raiseCause u k .eStop)
    (fun _ _ _ _ => trivial) (fun _ _ h => (steady_outOfService k).raiseCause h) mem trivial

theorem eStopLine_eq (s : State) : s.eStopLine =
    ((s.setChoices (s.choices + 1)).stopHeld (Config.gateFirst s.choices)).stringsStopped.trip .eStop := rfl

theorem eStopLine_frame (s : State) : s.changesOnly s.eStopLine
    [.modules, .strings, .envelope, .gate, .conn, .fieldPort, .notices, .flags, .counters, .choices] :=
  frame_of fun h => h.eStopLine (List.Subset.refl _)

theorem conn_trip_eStop (state : s.conn.state = .connected ∨ s.conn.state = .rideThrough ∨ s.conn.state = .closing) :
    (s.trip .eStop).conn.state = .opening ∧ (s.trip .eStop).conn.tripCause = some .eStop := by
  rw [trip_of_closed state, tripOpen_conn]
  exact ⟨rfl, rfl⟩

/-! ### The obligation -/

theorem onEStop_of {x : LineState} (line : s.lineOf .eStop = some i) (settled : s.settles i = some x) (f : State → State) :
    s.onEStop x f = f (s.setLineState i x) := by
  simp only [State.onEStop, line, settled, beq_self_eq_true, if_true]

theorem adoption_of {x : LineState} (runs : s.runs) (line : s.lineOf .breakerClosed = some i) (settled : s.settles i = some x)
    (waits : s.conn.startAdopted = false) :
    exec .breakerAdoption s = .next ((s.setLineState i x).adoptBreaker (x == .active)) := by
  refine whileRunning_to (f := fun s => if s.conn.startAdopted then s
    else s.onFunction .breakerClosed fun s x => s.adoptBreaker (x == .active)) runs ?_
  rw [waits]
  exact onFunction_of line settled _

theorem feedback_of {x : LineState} (runs : s.runs) (line : s.lineOf .breakerClosed = some i) (settled : s.settles i = some x)
    (adopted : s.conn.startAdopted = true) :
    exec .breakerFeedbackChange s = .next ((s.setLineState i x).breakerLine (x == .active)) := by
  refine whileRunning_to (f := fun s => if s.conn.startAdopted then
    s.onFunction .breakerClosed fun s x => s.breakerLine (x == .active) else s) runs ?_
  rw [adopted]
  exact onFunction_of line settled _

theorem breakerLine_closes (feedback : s.conn.feedback = .isOpen) : s.breakerLine true = s.breakerMoved true := by
  simp only [State.breakerLine, feedback]
  rfl

theorem breakerLine_opens (feedback : s.conn.feedback = .closed) : s.breakerLine false = s.breakerMoved false := by
  simp only [State.breakerLine, feedback]
  rfl

/-- The connection record with the feedback that the breaker line shows. -/
def State.fedBack (s : State) (f : Feedback) : State := s.setConn { s.conn with feedback := f }

/-- What a movement of the breaker brings, its feedback recorded (R112, R114, R116). -/
def State.breakerActs (s : State) (closed : Bool) : State :=
  match s.conn.state with
  | .connected | .rideThrough => if closed then s else s.externalOpen
  | .opening => if closed then s.pulseTrip else s.openedAsTold
  | .closing => if closed then s.closedAsTold else s
  | .openWait | .reconnectTiming | .openLocked => if closed then s.foundClosed true else s

theorem breakerActs_of_rest (state : s.conn.state = .openWait ∨ s.conn.state = .reconnectTiming ∨
    s.conn.state = .openLocked) : s.breakerActs true = s.foundClosed true ∧ s.breakerActs false = s := by
  rcases state with state | state | state <;>
    exact ⟨by simp only [State.breakerActs, state, if_true], by simp only [State.breakerActs, state, Bool.false_eq_true, if_false]⟩

theorem breakerActs_of_served (state : s.conn.state = .connected ∨ s.conn.state = .rideThrough) :
    s.breakerActs false = s.externalOpen := by
  rcases state with state | state <;> simp only [State.breakerActs, state, Bool.false_eq_true, if_false]

theorem breakerActs_of_closing (state : s.conn.state = .closing) :
    s.breakerActs true = s.closedAsTold ∧ s.breakerActs false = s := by
  constructor
  · simp only [State.breakerActs, state, if_true]
  · simp only [State.breakerActs, state, Bool.false_eq_true, if_false]

theorem breakerActs_of_opening (state : s.conn.state = .opening) :
    s.breakerActs true = s.pulseTrip ∧ s.breakerActs false = s.openedAsTold := by
  constructor
  · simp only [State.breakerActs, state, if_true]
  · simp only [State.breakerActs, state, Bool.false_eq_true, if_false]

theorem told_frame (s : State) : s.changesOnly s.openedAsTold [.envelope, .gate, .conn, .fieldPort, .notices, .counters] ∧
    s.changesOnly s.closedAsTold [.envelope, .gate, .conn, .fieldPort, .notices, .counters] :=
  ⟨frame_of fun h => h.openedAsTold (List.Subset.refl _), frame_of fun h => h.closedAsTold (List.Subset.refl _)⟩

theorem externalOpen_frame (s : State) :
    s.changesOnly s.externalOpen [.envelope, .gate, .conn, .fieldPort, .notices, .flags, .counters] :=
  frame_of fun h => h.externalOpen (List.Subset.refl _)

/-- What a change from the fed-back state on leaves of the state before the line settled. -/
theorem keeps_of_moved {x : LineState} {c : ConnRec} {L K : List Part} (h : ((s.setLineState i x).setConn c).changesOnly t L)
    (hK : ∀ p ∈ K, p ∉ Part.lines :: Part.conn :: L) : s.keeps t K := by
  refine keeps_of_changesOnly (State.changesOnly_trans (t := s.setLineState i x) ?_
    (State.changesOnly_trans (t := (s.setLineState i x).setConn c) ?_ ?_)) hK
  · exact State.changesOnly_mono (setLines_frame s _) (by simp)
  · exact State.changesOnly_mono (setConn_frame _ _) (by simp)
  · exact State.changesOnly_mono h (by simp)

/-- Settles O56: the breaker line's movements by connection state, and the stop line. -/
theorem breakerAndStopLinesAct : Obligations.BreakerAndStopLinesAct := by
  unfold Obligations.BreakerAndStopLinesAct
  intro s i x runs settled v c t9 pulsed barred closedState kept full foundClosed
  let found := v.setConn { c with feedback := .closed, startAdopted := true }
  have taken (byHand : Bool) : foundClosed (found.foundClosed byHand) := by
    refine ⟨fun h => ?_, fun k h standing => ?_, fun h standing => ?_,
      keeps_of_moved (foundClosed_frame found byHand) (by decide)⟩
    · exact foundClosed_of_barred (s := found) h
    · exact foundClosed_of_standing (s := found) h standing
    · exact foundClosed_of_free (s := found) h standing
  refine ⟨standingTrip_iff v, fun line => ?_, fun line => ⟨?_, ?_⟩⟩
  · have moves (adopted : c.startAdopted = true) (feedback : c.feedback = .isOpen) (active : x = .active) :
        exec .breakerFeedbackChange s = .next ((v.fedBack .closed).breakerActs true) := by
      subst active
      exact (feedback_of runs line settled adopted).trans (congrArg Host.Outcome.next (breakerLine_closes (s := v) feedback))
    have opens (adopted : c.startAdopted = true) (feedback : c.feedback = .closed) (inactive : x = .inactive) :
        exec .breakerFeedbackChange s = .next ((v.fedBack .isOpen).breakerActs false) := by
      subst inactive
      exact (feedback_of runs line settled adopted).trans (congrArg Host.Outcome.next (breakerLine_opens (s := v) feedback))
    refine ⟨?_, ?_, ?_, ?_, ?_, ?_, ?_, ?_⟩
    · rintro waits rfl
      exact adoption_of runs line settled waits
    · rintro waits rfl
      exact ⟨_, adoption_of runs line settled waits, taken false⟩
    · intro adopted feedback active state
      have acts := (breakerActs_of_rest (s := v.fedBack .closed) state).1
      have same : v.fedBack .closed = found := by
        unfold State.fedBack
        rw [show v.conn = { c with startAdopted := true } from adopted ▸ rfl]
      rw [same] at acts
      exact ⟨_, (moves adopted feedback active).trans (congrArg Host.Outcome.next (same ▸ acts)), taken true⟩
    · intro adopted feedback inactive state
      refine ⟨_, (opens adopted feedback inactive).trans
        (congrArg Host.Outcome.next (breakerActs_of_served (s := v.fedBack .isOpen) state)), ?_, externalOpen_trips _,
        fun h => isLatched_externalOpen (s := v.fedBack .isOpen) h, keeps_of_moved (externalOpen_frame _) (by decide)⟩
      exact (externalOpen_conn _).trans (externalConn_eq (v.fedBack .isOpen))
    · intro adopted feedback inactive state
      have rests : (v.fedBack .isOpen).breakerActs false = v.fedBack .isOpen := by
        rcases state with state | state | state | state
        · exact (breakerActs_of_rest (s := v.fedBack .isOpen) (.inl state)).2
        · exact (breakerActs_of_rest (s := v.fedBack .isOpen) (.inr (.inl state))).2
        · exact (breakerActs_of_rest (s := v.fedBack .isOpen) (.inr (.inr state))).2
        · exact (breakerActs_of_closing (s := v.fedBack .isOpen) state).2
      exact (opens adopted feedback inactive).trans (congrArg Host.Outcome.next rests)
    · intro adopted feedback active state
      refine ⟨_, (moves adopted feedback active).trans
        (congrArg Host.Outcome.next (breakerActs_of_closing (s := v.fedBack .closed) state).1), ?_,
        keeps_of_moved (told_frame _).2 (by decide)⟩
      exact closedAsTold_conn (v.fedBack .closed)
    · intro adopted feedback active state
      exact (moves adopted feedback active).trans
        (congrArg Host.Outcome.next (breakerActs_of_opening (s := v.fedBack .closed) state).1)
    · intro adopted feedback inactive state
      refine ⟨_, (opens adopted feedback inactive).trans
        (congrArg Host.Outcome.next (breakerActs_of_opening (s := v.fedBack .isOpen) state).2), ?_,
        keeps_of_moved (told_frame _).1 (by decide)⟩
      exact openedAsTold_conn (v.fedBack .isOpen)
  · rintro rfl
    let held := (v.setChoices (v.choices + 1)).stopHeld (Config.gateFirst v.choices)
    have eq : v.eStopLine = held.stringsStopped.trip .eStop := eStopLine_eq v
    have ran : exec .eStopActive s = .next (held.stringsStopped.trip .eStop) :=
      (whileRunning_to (f := fun s => s.onEStop .active State.eStopLine) runs
        (onEStop_of line settled _)).trans (congrArg Host.Outcome.next eq)
    have stopped : (held.stringsStopped.trip .eStop).stopped :=
      stopped_of_unmade (trip_gate_unmade _ _) (stopped_stringsStopped (stopped_stopHeld _ _))
    have conn : held.stringsStopped.conn = c :=
      (stringsStopped_frame held .conn (by decide)).trans (stopHeld_frame _ _ .conn (by decide))
    have frame : s.changesOnly (held.stringsStopped.trip .eStop)
        [.modules, .strings, .envelope, .gate, .conn, .fieldPort, .notices, .flags, .counters, .choices, .lines] :=
      State.changesOnly_trans (State.changesOnly_mono (setLines_frame s _) (by decide))
        (eq ▸ State.changesOnly_mono (eStopLine_frame v) (by decide))
    refine ⟨_, ran, stopped.1, stopped.2, fun closed => conn_trip_eStop (by rwa [conn]), fun k hk => ?_,
      keeps_of_changesOnly frame (by decide)⟩
    have out : (held.stringsStopped.trip .eStop).outOfService k :=
      (steady_outOfService k).trip (outOfService_stringsStopped hk)
    exact ⟨fun h => out (.inl h), fun h => out (.inr h)⟩
  · rintro rfl
    exact whileRunning_to (f := fun s => s.onEStop .inactive State.changeEval) runs (onEStop_of line settled _)

end Sys2Proof.Machine
end

section
/-! PROOF of O59: breakpoint tables, factors, limits and limiting causes of an evaluation (R60 to R76). -/

namespace Sys2Proof.Machine

variable {s t : State} {i : Nat}

/-! ### Breakpoint tables (R62) -/

/-- A value interpolated between two breakpoints lies between their values. -/
theorem interpolated_bounds {lo hi x xi yi xj yj : Int} (from_ : xi ≤ x) (before : x < xj) (hi1 : lo ≤ yi) (hi2 : yi ≤ hi)
    (hj1 : lo ≤ yj) (hj2 : yj ≤ hi) :
    lo ≤ yi + ((yj - yi) * (x - xi)).tdiv (xj - xi) ∧ yi + ((yj - yi) * (x - xi)).tdiv (xj - xi) ≤ hi := by
  have width : 0 < xj - xi := by omega
  have step : 0 ≤ x - xi := by omega
  rcases Int.le_total yi yj with rises | falls
  · have pos : 0 ≤ (yj - yi) * (x - xi) := Int.mul_nonneg (by omega) step
    rw [Int.tdiv_eq_ediv_of_nonneg pos]
    have low : 0 ≤ (yj - yi) * (x - xi) / (xj - xi) := Int.ediv_nonneg pos (Int.le_of_lt width)
    have high : (yj - yi) * (x - xi) / (xj - xi) ≤ yj - yi := by
      refine Int.ediv_le_of_le_mul width ?_
      exact Int.mul_le_mul_of_nonneg_left (by omega) (by omega)
    omega
  · have pos : 0 ≤ (yi - yj) * (x - xi) := Int.mul_nonneg (by omega) step
    have eq : ((yj - yi) * (x - xi)).tdiv (xj - xi) = -((yi - yj) * (x - xi) / (xj - xi)) := by
      rw [← Int.tdiv_eq_ediv_of_nonneg pos, ← Int.neg_tdiv, ← Int.neg_mul, Int.neg_sub]
    rw [eq]
    have low : 0 ≤ (yi - yj) * (x - xi) / (xj - xi) := Int.ediv_nonneg pos (Int.le_of_lt width)
    have high : (yi - yj) * (x - xi) / (xj - xi) ≤ yi - yj := by
      refine Int.ediv_le_of_le_mul width ?_
      exact Int.mul_le_mul_of_nonneg_left (by omega) (by omega)
    omega

theorem segmentsAt_bounds {lo hi x : Int} : ∀ {rest : List (Int × Int)} {xi yi : Int}, xi ≤ x → lo ≤ yi → yi ≤ hi →
    (∀ p ∈ rest, lo ≤ p.2 ∧ p.2 ≤ hi) → lo ≤ segmentsAt x xi yi rest ∧ segmentsAt x xi yi rest ≤ hi := by
  intro rest
  induction rest with
  | nil => exact fun _ low high _ => ⟨low, high⟩
  | cons p rest ih =>
    intro xi yi from_ low high points
    have here := points p (List.mem_cons_self ..)
    rw [segmentsAt]
    split
    case isTrue before => exact interpolated_bounds from_ before low high here.1 here.2
    case isFalse after =>
      exact ih (Int.not_lt.mp after) here.1 here.2 fun q hq => points q (List.mem_cons_of_mem _ hq)

theorem curve_bounds {lo hi x : Int} {c : Curve} (zero : lo ≤ 0 ∧ 0 ≤ hi) (points : ∀ p ∈ c, lo ≤ p.2 ∧ p.2 ≤ hi) :
    lo ≤ c.at x ∧ c.at x ≤ hi := by
  cases c with
  | nil => exact zero
  | cons p rest =>
    have here := points p (List.mem_cons_self ..)
    rw [Curve.at]
    split
    · exact here
    case isFalse after =>
      exact segmentsAt_bounds (by omega) here.1 here.2 fun q hq => points q (List.mem_cons_of_mem _ hq)

/-- Segments that begin at or before `x` are passed. -/
theorem segmentsAt_append {x xn yn : Int} {after : List (Int × Int)} (reached : xn ≤ x) :
    ∀ {before : List (Int × Int)} {xi yi : Int}, (∀ p ∈ before, p.1 ≤ x) →
      segmentsAt x xi yi (before ++ (xn, yn) :: after) = segmentsAt x xn yn after := by
  intro before
  induction before with
  | nil => exact fun _ => if_neg (Int.not_lt.mpr reached)
  | cons p before ih =>
    intro xi yi passed
    exact (if_neg (Int.not_lt.mpr (passed p (List.mem_cons_self ..)))).trans
      (ih fun q hq => passed q (List.mem_cons_of_mem _ hq))

theorem curve_append {x xn yn : Int} {before after : List (Int × Int)} (reached : xn ≤ x)
    (rising : ((before ++ (xn, yn) :: after : Curve)).Pairwise fun p q => p.1 < q.1) :
    Curve.at (before ++ (xn, yn) :: after) x = if x = xn then yn else segmentsAt x xn yn after := by
  have earlier : ∀ p ∈ before, p.1 < xn := fun p hp =>
    (List.pairwise_append.mp rising).2.2 p hp (xn, yn) (List.mem_cons_self ..)
  have here : segmentsAt xn xn yn after = yn := by
    cases after with
    | nil => rfl
    | cons q after =>
      have later : xn < q.1 := (List.pairwise_cons.mp (List.pairwise_append.mp rising).2.1).1 q (List.mem_cons_self ..)
      rw [segmentsAt, if_pos later, Int.sub_self, Int.mul_zero, Int.zero_tdiv, Int.add_zero]
  cases before with
  | nil =>
    have split : (x ≤ xn) = (x = xn) := propext ⟨fun h => Int.le_antisymm h reached, fun h => Int.le_of_eq h⟩
    exact ite_of_iff (iff_of_eq split) rfl rfl
  | cons p before =>
    have first := earlier p (List.mem_cons_self ..)
    have passed : Curve.at (p :: before ++ (xn, yn) :: after) x = segmentsAt x xn yn after :=
      (if_neg (Int.not_le.mpr (Int.lt_of_lt_of_le first reached))).trans
        (segmentsAt_append reached fun q hq => Int.le_of_lt (Int.lt_of_lt_of_le (earlier q (List.mem_cons_of_mem _ hq)) reached))
    rw [passed]
    split
    case isTrue same => rw [same, here]
    case isFalse _ => rfl

/-! ### Least factors and sums -/

/-- The least of a value and those of a list. -/
theorem foldl_min_spec {α : Type} (g : α → Nat) : ∀ (l : List α) (a : Nat),
    l.foldl (fun f z => min f (g z)) a ≤ a ∧ (∀ z ∈ l, l.foldl (fun f z => min f (g z)) a ≤ g z) ∧
      (l.foldl (fun f z => min f (g z)) a = a ∨ ∃ z ∈ l, l.foldl (fun f z => min f (g z)) a = g z) := by
  intro l
  induction l with
  | nil => exact fun a => ⟨Nat.le_refl _, fun _ h => absurd h List.not_mem_nil, .inl rfl⟩
  | cons z l ih =>
    intro a
    obtain ⟨top, each, least⟩ := ih (min a (g z))
    refine ⟨Nat.le_trans top (Nat.min_le_left ..), fun w hw => ?_, ?_⟩
    · rcases List.mem_cons.mp hw with rfl | later
      · exact Nat.le_trans top (Nat.min_le_right ..)
      · exact each w later
    · rcases least with least | ⟨w, hw, least⟩
      · have choice : min a (g z) = a ∨ min a (g z) = g z := by omega
        rcases choice with h | h
        · exact .inl (least.trans h)
        · exact .inr ⟨z, List.mem_cons_self .., least.trans h⟩
      · exact .inr ⟨w, List.mem_cons_of_mem _ hw, least⟩

theorem foldl_add_eq {α : Type} (g : α → Nat) (l : List α) (a : Nat) :
    l.foldl (fun n e => n + g e) a = a + (l.map g).sum := by
  induction l generalizing a with
  | nil => rfl
  | cons e l ih => rw [List.foldl_cons, ih, List.map_cons, List.sum_cons, Nat.add_assoc]

theorem foldl_add_if_eq {α : Type} (p : α → Bool) (g : α → Nat) (l : List α) (a : Nat) :
    l.foldl (fun n e => if p e then n + g e else n) a = a + ((l.filter p).map g).sum := by
  induction l generalizing a with
  | nil => rfl
  | cons e l ih =>
    rw [List.foldl_cons, ih, List.filter_cons]
    split
    · rw [List.map_cons, List.sum_cons, Nat.add_assoc]
    · rfl

/-- A sum that each term of another bounds. -/
theorem sum_map_le_sum_filter {α : Type} (p : α → Bool) (f g : α → Nat) (l : List α)
    (h : ∀ a ∈ l, f a ≤ if p a then g a else 0) : (l.map f).sum ≤ ((l.filter p).map g).sum := by
  induction l with
  | nil => exact Nat.le_refl _
  | cons a l ih =>
    have here := h a (List.mem_cons_self ..)
    have rest := ih fun b hb => h b (List.mem_cons_of_mem _ hb)
    rw [List.map_cons, List.sum_cons, List.filter_cons]
    split at here
    · rw [if_pos ‹_›, List.map_cons, List.sum_cons]
      exact Nat.add_le_add here rest
    · rw [if_neg ‹_›]
      omega

/-! ### The factors of a string (R64 to R67) -/

theorem stringEnvelope_of_counts (counts : s.stringCounts i = true) : s.stringEnvelope i =
    (let r := s.stringAt i
     let ftChg := temperatureFactor (s.curve 3 s.tables.t3 Curve.temperatureDefault) r.extremes
     let ftDis := temperatureFactor (s.curve 4 s.tables.t4 Curve.temperatureDefault) r.extremes
     let fsocChg := socFactor (s.curve 5 s.tables.t5 Curve.socDefault) r.charge s.params.uncalFactor
     let fsocDis := socFactor (s.curve 6 s.tables.t6 Curve.socDefault) r.charge s.params.uncalFactor
     let fvChg := voltageFactorChg s.tables.t1 r.extremes
     let fvDis := voltageFactorDis s.tables.t1 r.extremes
     let fChg := min ftChg (min fsocChg fvChg)
     let fDis := min ftDis (min fsocDis fvDis)
     ⟨true, ftChg, ftDis, fsocChg, fsocDis, fvChg, fvDis, fChg, fDis, (s.stringEntry i).ratedKw * fChg / 1024,
       (s.stringEntry i).ratedKw * fDis / 1024⟩) := if_pos counts

theorem stringEnvelope_of_idle (idle : s.stringCounts i = false) : s.stringEnvelope i = .zero :=
  if_neg fun h => Bool.noConfusion (idle.symm.trans h)

theorem stringEnvelope_counts (s : State) (i : Nat) : (s.stringEnvelope i).counts = s.stringCounts i := by
  cases counts : s.stringCounts i with
  | true => rw [stringEnvelope_of_counts counts]
  | false => rw [stringEnvelope_of_idle counts]; rfl

theorem stringCounts_iff (s : State) (i : Nat) :
    s.stringCounts i = true ↔ (s.stringEntry i).inUse = true ∧ (s.stringAt i).state = .inService := by
  rw [State.stringCounts, Bool.and_eq_true, beq_iff_eq]

theorem voltageFactorChg_le (t : VoltageLimits) (e : Extremes) : voltageFactorChg t e ≤ 1024 := by
  unfold voltageFactorChg
  split
  · exact Nat.zero_le _
  · split
    · exact Nat.le_refl _
    · split
      · exact Nat.zero_le _
      · exact Nat.div_le_of_le_mul (by rw [Nat.mul_comm]; exact Nat.mul_le_mul_right _ (by omega))

theorem voltageFactorDis_le (t : VoltageLimits) (e : Extremes) : voltageFactorDis t e ≤ 1024 := by
  unfold voltageFactorDis
  split
  · exact Nat.zero_le _
  · split
    · exact Nat.le_refl _
    · split
      · exact Nat.zero_le _
      · exact Nat.div_le_of_le_mul (by rw [Nat.mul_comm]; exact Nat.mul_le_mul_right _ (by omega))

theorem factored_le {rated f : Nat} (h : f ≤ 1024) : rated * f / 1024 ≤ rated :=
  Nat.div_le_of_le_mul (by rw [Nat.mul_comm 1024]; exact Nat.mul_le_mul_left _ h)

theorem stringEnvelope_power_le (s : State) (i : Nat) :
    (s.stringEnvelope i).pChg ≤ (if s.stringCounts i then (s.stringEntry i).ratedKw else 0) ∧
    (s.stringEnvelope i).pDis ≤ (if s.stringCounts i then (s.stringEntry i).ratedKw else 0) := by
  cases counts : s.stringCounts i with
  | true =>
    rw [stringEnvelope_of_counts counts]
    exact ⟨factored_le (Nat.le_trans (Nat.min_le_right ..) (Nat.le_trans (Nat.min_le_right ..) (voltageFactorChg_le ..))),
      factored_le (Nat.le_trans (Nat.min_le_right ..) (Nat.le_trans (Nat.min_le_right ..) (voltageFactorDis_le ..)))⟩
  | false => rw [stringEnvelope_of_idle counts]; exact ⟨Nat.le_refl _, Nat.le_refl _⟩

theorem temperatureFactor_of_read {c : Curve} {e : Extremes} {hi lo : Int} (high : e.tMax = some hi) (low : e.tMin = some lo) :
    temperatureFactor c e = min (c.at hi).toNat (c.at lo).toNat := by
  simp only [temperatureFactor, high, low, factorAt]

theorem temperatureFactor_of_absent {c : Curve} {e : Extremes} (absent : e.tMax = none ∨ e.tMin = none) :
    temperatureFactor c e = 0 := by
  unfold temperatureFactor
  split
  case h_1 high low => exact absent.elim (fun h => absurd (h.symm.trans high) nofun) fun h => absurd (h.symm.trans low) nofun
  case h_2 => rfl

theorem voltageFactorChg_of (t : VoltageLimits) (e : Extremes) : (e.vMax = none → voltageFactorChg t e = 0) ∧
    (∀ v k, e.vMax = some (v, k) → voltageFactorChg t e =
      if v ≤ t.maxWarn then 1024 else if t.maxHard ≤ v then 0 else 1024 * (t.maxHard - v) / (t.maxHard - t.maxWarn)) :=
  ⟨fun h => by simp only [voltageFactorChg, h], fun v k h => by simp only [voltageFactorChg, h]⟩

theorem voltageFactorDis_of (t : VoltageLimits) (e : Extremes) : (e.vMin = none → voltageFactorDis t e = 0) ∧
    (∀ v k, e.vMin = some (v, k) → voltageFactorDis t e =
      if t.minWarn ≤ v then 1024 else if v ≤ t.minHard then 0 else 1024 * (v - t.minHard) / (t.minWarn - t.minHard)) :=
  ⟨fun h => by simp only [voltageFactorDis, h], fun v k h => by simp only [voltageFactorDis, h]⟩

/-! ### Factors of valid tables (R60, R61) -/

theorem curve_le_of_valid {xLo xHi x : Int} {c : Curve} (valid : Curve.valid xLo xHi 0 1024 c = true) :
    (c.at x).toNat ≤ 1024 := by
  simp only [Curve.valid, Bool.and_eq_true, List.all_eq_true, decide_eq_true_eq] at valid
  obtain ⟨-, points⟩ := valid
  have bounds := curve_bounds (lo := 0) (hi := 1024) (x := x) (c := c) (by decide) fun p hp =>
    ⟨(points p hp).1.2, (points p hp).2⟩
  omega

theorem factorAt_le {n : Nat} {xLo xHi x : Int} {working default : Curve}
    (valid : Curve.valid xLo xHi 0 1024 working = true) (sound : Curve.valid xLo xHi 0 1024 default = true) :
    factorAt (s.curve n working default) x ≤ 1024 := by
  unfold State.curve
  split
  · exact curve_le_of_valid sound
  · exact curve_le_of_valid valid

theorem temperatureFactor_le {c : Curve} (h : ∀ x, factorAt c x ≤ 1024) (e : Extremes) : temperatureFactor c e ≤ 1024 := by
  unfold temperatureFactor
  split
  · exact Nat.le_trans (Nat.min_le_left ..) (h _)
  · exact Nat.zero_le _

theorem socFactor_le {c : Curve} (h : ∀ x, factorAt c x ≤ 1024) (r : ChargeRec) (u : Nat) : socFactor c r u ≤ 1024 := by
  unfold socFactor
  split
  · exact Nat.le_trans (Nat.min_le_left ..) (h _)
  · exact h _

theorem stringEnvelope_factors_le (t3 : TableContents.valid (.t3 s.tables.t3) = true)
    (t4 : TableContents.valid (.t4 s.tables.t4) = true) (t5 : TableContents.valid (.t5 s.tables.t5) = true)
    (t6 : TableContents.valid (.t6 s.tables.t6) = true) (i : Nat) :
    let x := s.stringEnvelope i
    x.ftChg ≤ 1024 ∧ x.ftDis ≤ 1024 ∧ x.fsocChg ≤ 1024 ∧ x.fsocDis ≤ 1024 ∧ x.fvChg ≤ 1024 ∧ x.fvDis ≤ 1024 ∧
      x.fChg ≤ 1024 ∧ x.fDis ≤ 1024 := by
  intro x
  cases counts : s.stringCounts i with
  | false =>
    have zero : x = .zero := stringEnvelope_of_idle counts
    rw [zero]
    decide
  | true =>
    have ftChg := temperatureFactor_le (fun x => factorAt_le (s := s) (n := 3) (x := x) (default := Curve.temperatureDefault) t3 (by decide)) (s.stringAt i).extremes
    have ftDis := temperatureFactor_le (fun x => factorAt_le (s := s) (n := 4) (x := x) (default := Curve.temperatureDefault) t4 (by decide)) (s.stringAt i).extremes
    have fsocChg := socFactor_le (fun x => factorAt_le (s := s) (n := 5) (x := x) (default := Curve.socDefault) t5 (by decide)) (s.stringAt i).charge
      s.params.uncalFactor
    have fsocDis := socFactor_le (fun x => factorAt_le (s := s) (n := 6) (x := x) (default := Curve.socDefault) t6 (by decide)) (s.stringAt i).charge
      s.params.uncalFactor
    have eq : x = _ := stringEnvelope_of_counts counts
    rw [eq]
    exact ⟨ftChg, ftDis, fsocChg, fsocDis, voltageFactorChg_le .., voltageFactorDis_le .., Nat.le_trans (Nat.min_le_left ..) ftChg,
      Nat.le_trans (Nat.min_le_left ..) ftDis⟩

/-! ### The record of an evaluation (R64 to R77) -/

theorem evaluation_strings (s : State) : s.evaluation.strings = (List.range 4).map s.stringEnvelope := rfl

theorem evaluation_getElem? {x : StringEnvelope} (h : s.evaluation.strings[i]? = some x) :
    i < 4 ∧ x = s.stringEnvelope i := by
  rw [evaluation_strings, List.getElem?_map] at h
  obtain ⟨j, hj, rfl⟩ := Option.map_eq_some_iff.mp h
  obtain ⟨range, rfl⟩ := List.getElem?_eq_some_iff.mp hj
  rw [List.getElem_range]
  exact ⟨by rwa [List.length_range] at range, rfl⟩

theorem evaluation_getD (h : i < 4) : s.evaluation.strings.getD i .zero = s.stringEnvelope i := by
  rw [evaluation_strings, List.getD_eq_getElem?_getD, List.getElem?_map, List.getElem?_range h]
  rfl

theorem evaluation_sums (s : State) : s.evaluation.sumChg = (s.evaluation.strings.map (·.pChg)).sum ∧
    s.evaluation.sumDis = (s.evaluation.strings.map (·.pDis)).sum :=
  ⟨(foldl_add_eq ..).trans (Nat.zero_add _), (foldl_add_eq ..).trans (Nat.zero_add _)⟩

theorem evaluation_ratingSum (s : State) :
    s.evaluation.ratingSum = (((List.range 4).filter s.stringCounts).map fun i => (s.stringEntry i).ratedKw).sum := by
  have sum := foldl_add_if_eq (fun i => (s.evaluation.strings.getD i .zero).counts) (fun i => (s.stringEntry i).ratedKw)
    (List.range 4) 0
  have same : (List.range 4).filter (fun i => (s.evaluation.strings.getD i .zero).counts) = (List.range 4).filter s.stringCounts :=
    List.filter_congr fun i hi => by rw [evaluation_getD (List.mem_range.mp hi), stringEnvelope_counts]
  rw [same, Nat.zero_add] at sum
  exact sum

theorem evaluation_sums_le (s : State) : s.evaluation.sumChg ≤ s.evaluation.ratingSum ∧
    s.evaluation.sumDis ≤ s.evaluation.ratingSum := by
  rw [(evaluation_sums s).1, (evaluation_sums s).2, evaluation_ratingSum, evaluation_strings, List.map_map, List.map_map]
  exact ⟨sum_map_le_sum_filter _ _ _ _ fun i _ => (stringEnvelope_power_le s i).1,
    sum_map_le_sum_filter _ _ _ _ fun i _ => (stringEnvelope_power_le s i).2⟩

theorem gridFactor_eq (c : ConnState) : c.gridFactor = if c = .connected ∨ c = .rideThrough then 1024 else 0 := by
  cases c <;> rfl

theorem evaluation_fc_le (s : State) : s.evaluation.fc ≤ 1024 := by
  refine Nat.le_trans (Nat.min_le_left ..) ?_
  rw [gridFactor_eq]
  split
  · exact Nat.le_refl _
  · exact Nat.zero_le _

theorem scaled_le {sum rating fc cap : Nat} (h : sum ≤ rating) (fc1024 : fc ≤ 1024) : min (sum * fc / 1024) cap ≤ rating :=
  Nat.le_trans (Nat.min_le_left ..) (Nat.le_trans (factored_le fc1024) h)

theorem coolantFactor_eq (s : State) : s.coolantFactor = match s.thermal.coolant with
    | .ok => 1024
    | .degraded => s.params.degradedFactor
    | .lost => s.params.lostFactor := by
  unfold State.coolantFactor
  cases s.thermal.coolant <;> rfl

theorem factorUnless_eq {b : Bool} {P : Prop} [Decidable P] (h : b = true ↔ P) : factorUnless b = if P then 0 else 1024 :=
  ite_of_iff h rfl rfl

theorem anyFault_iff (s : State) : s.anyFault = true ↔ true ∈ s.config.faulted := by
  rw [State.anyFault, List.any_eq_true]
  exact ⟨fun ⟨b, hb, yes⟩ => (show b = true from yes) ▸ hb, fun h => ⟨true, h, rfl⟩⟩

/-- No power is allowed where the combined factor is 0 (R75). -/
theorem limits_of_fc_zero (h : s.evaluation.fc = 0) : s.evaluation.pChgLim = 0 ∧ s.evaluation.pDisLim = 0 := by
  have chg : s.evaluation.pChgLim = min (s.evaluation.sumChg * s.evaluation.fc / 1024) s.tables.t9.importCap := rfl
  have dis : s.evaluation.pDisLim = min (s.evaluation.sumDis * s.evaluation.fc / 1024) s.tables.t9.exportCap := rfl
  rw [chg, dis, h, Nat.mul_zero, Nat.mul_zero]
  exact ⟨Nat.zero_min _, Nat.zero_min _⟩

theorem limits_of_ratingSum_zero (h : s.evaluation.ratingSum = 0) : s.evaluation.pChgLim = 0 ∧ s.evaluation.pDisLim = 0 := by
  obtain ⟨chg, dis⟩ := evaluation_sums_le s
  rw [h] at chg dis
  exact ⟨Nat.le_zero.mp (scaled_le chg (evaluation_fc_le s)), Nat.le_zero.mp (scaled_le dis (evaluation_fc_le s))⟩

/-! ### The limiting cause (R76) -/

theorem lowestFactor_mem : ∀ {l : List (Nat × Nat)} {c : Nat × Nat}, lowestFactor l = some c → c ∈ l := by
  intro l
  induction l with
  | nil => exact nofun
  | cons a l ih =>
    intro c h
    rw [lowestFactor] at h
    split at h
    · cases h
      exact List.mem_cons_self ..
    case h_2 d found =>
      split at h
      · cases h
        exact List.mem_cons_of_mem _ (ih found)
      · cases h
        exact List.mem_cons_self ..

/-- The first of the least is found. -/
theorem lowestFactor_map {f : Nat → Nat} : ∀ {l : List Nat}, l.Pairwise (· < ·) → i ∈ l →
    (∀ j ∈ l, f i < f j ∨ (f i = f j ∧ i ≤ j)) → lowestFactor (l.map fun j => (j, f j)) = some (i, f i) := by
  intro l
  induction l with
  | nil => exact fun _ h => absurd h List.not_mem_nil
  | cons a l ih =>
    intro sorted mem least
    obtain ⟨first, rest⟩ := List.pairwise_cons.mp sorted
    rw [List.map_cons, lowestFactor]
    rcases List.mem_cons.mp mem with rfl | later
    · split
      · rfl
      case h_2 d found =>
        obtain ⟨j, hj, rfl⟩ := List.mem_map.mp (lowestFactor_mem found)
        have := least j (List.mem_cons_of_mem _ hj)
        exact if_neg (by dsimp only; omega)
    · rw [ih rest later fun j hj => least j (List.mem_cons_of_mem _ hj)]
      have := least a (List.mem_cons_self ..)
      have := first i later
      exact if_pos (by dsimp only; omega)

theorem isAbsent_iff (e : Extremes) : e.isAbsent = true ↔
    e.vMax = none ∧ e.vMin = none ∧ e.tMax = none ∧ e.tMin = none := by
  simp only [Extremes.isAbsent, Bool.and_eq_true, Option.isNone_iff_eq_none, and_assoc]

theorem stringCause_of_least {p f ft fsoc : Nat → Nat} {counts : Nat → Bool} (hi : i < 4) (counted : counts i = true)
    (below : p i < (s.stringEntry i).ratedKw)
    (least : ∀ j < 4, counts j = true → p j < (s.stringEntry j).ratedKw → f i < f j ∨ (f i = f j ∧ i ≤ j)) :
    s.stringCause p f ft fsoc counts = .string i
      (if (s.stringAt i).extremes.vMax = none ∧ (s.stringAt i).extremes.vMin = none ∧ (s.stringAt i).extremes.tMax = none ∧
          (s.stringAt i).extremes.tMin = none then .noReadings
        else if ft i = f i then .temperature else if fsoc i = f i then .soc else .voltage) := by
  let found := (List.range 4).filter fun j => counts j && decide (p j < (s.stringEntry j).ratedKw)
  have mem (j : Nat) : j ∈ found ↔ j < 4 ∧ counts j = true ∧ p j < (s.stringEntry j).ratedKw := by
    rw [List.mem_filter, List.mem_range, Bool.and_eq_true, decide_eq_true_eq]
  have lowest : lowestFactor (found.map fun j => (j, f j)) = some (i, f i) :=
    lowestFactor_map (List.pairwise_lt_range.filter _) ((mem i).mpr ⟨hi, counted, below⟩) fun j hj =>
      least j ((mem j).mp hj).1 ((mem j).mp hj).2.1 ((mem j).mp hj).2.2
  unfold State.stringCause
  dsimp only
  rw [show lowestFactor (List.map (fun i => (i, f i)) _) = some (i, f i) from lowest]
  exact congrArg (LimitCause.string i) (ite_of_iff (isAbsent_iff _) rfl
    (ite_of_iff (beq_iff_eq (a := ft i)) rfl (ite_of_iff (beq_iff_eq (a := fsoc i)) rfl rfl)))

theorem limitCause_of_some {any : Bool} (h : any = true) {limit rating scaled cap fc : Nat} {capCause string : LimitCause}
    {container : ContainerFactor} : limitCause any limit rating scaled cap fc capCause container string =
      if limit = rating then .none else if cap < scaled then capCause else if fc < 1024 then .container container
      else string := by
  simp only [limitCause, h, Bool.not_true, Bool.false_eq_true, if_false, beq_iff_eq]

/-- The rows of R76 for one direction's limit. -/
theorem limitCause_rows {limit rating scaled cap fc : Nat} {capCause string : LimitCause} {container : ContainerFactor}
    {any : Bool} {P : Prop} (hP : any = true ↔ P) :
    let cause := limitCause any limit rating scaled cap fc capCause container string
    (¬P → cause = .noString) ∧ (P → limit = rating → cause = .none) ∧
      (P → limit ≠ rating → cap < scaled → cause = capCause) ∧
      (P → limit ≠ rating → scaled ≤ cap → fc < 1024 → cause = .container container) ∧
      (P → limit ≠ rating → scaled ≤ cap → 1024 ≤ fc → cause = string) := by
  intro cause
  have counted (h : P) : cause = if limit = rating then .none else if cap < scaled then capCause
      else if fc < 1024 then .container container else string := limitCause_of_some (hP.mpr h)
  refine ⟨fun h => ?_, fun h same => ?_, fun h other capped => ?_, fun h other free low => ?_, fun h other free high => ?_⟩
  · have none_ : any = false := Bool.eq_false_iff.mpr fun yes => h (hP.mp yes)
    clear counted
    subst none_
    exact rfl
  · rw [counted h, if_pos same]
  · rw [counted h, if_neg other, if_pos capped]
  · rw [counted h, if_neg other, if_neg (Nat.not_lt.mpr free), if_pos low]
  · rw [counted h, if_neg other, if_neg (Nat.not_lt.mpr free), if_neg (Nat.not_lt.mpr high)]

theorem containerCause_eq (e : EnvelopeRec) : containerCause e =
    if e.fGrid = e.fc then .grid else if e.fFire = e.fc then .fire else if e.fCoolant = e.fc then .coolant
      else if e.fCells = e.fc then .cells else if e.fConfig = e.fc then .config else .eStop := by
  simp only [containerCause, beq_iff_eq]

theorem evaluation_any (s : State) : (s.evaluation.strings.any (·.counts)) = true ↔ ∃ i < 4, s.stringCounts i = true := by
  rw [evaluation_strings, List.any_map, List.any_eq_true]
  refine exists_congr fun i => and_congr List.mem_range ?_
  rw [Function.comp_apply, stringEnvelope_counts]

/-! ### The obligation -/

theorem curve_clauses (c : Curve) (x : Int) (rising : c.Pairwise fun p q => p.1 < q.1) :
    (∀ x1 y1 rest, c = (x1, y1) :: rest → x ≤ x1 → c.at x = y1) ∧
    (∀ before xn yn, c = before ++ [(xn, yn)] → xn ≤ x → c.at x = yn) ∧
    (∀ before after xi yi xj yj, c = before ++ (xi, yi) :: (xj, yj) :: after → xi ≤ x → x < xj →
      c.at x = yi + ((yj - yi) * (x - xi)).tdiv (xj - xi)) := by
  refine ⟨?_, ?_, ?_⟩
  · rintro x1 y1 rest rfl low
    exact if_pos low
  · rintro before xn yn rfl reached
    rw [curve_append reached rising]
    split <;> rfl
  · rintro before after xi yi xj yj rfl reached inside
    rw [curve_append reached rising]
    split
    case isTrue same => rw [same, Int.sub_self, Int.mul_zero, Int.zero_tdiv, Int.add_zero]
    case isFalse _ => exact if_pos inside

/-- Settles O59: the factors, limits and causes of an evaluation, and their bounds. -/
theorem envelopeStaysWithinCapsAndRatings : Obligations.EnvelopeStaysWithinCapsAndRatings := by
  unfold Obligations.EnvelopeStaysWithinCapsAndRatings
  refine ⟨fun s => ?_, curve_clauses, fun s i x h => ?_, fun s => ?_⟩
  · intro e zone
    obtain ⟨fireTop, fireEach, fireLeast⟩ := foldl_min_spec (zoneFactor s.tables.t13) s.fire.zones 1024
    obtain ⟨chg, dis⟩ := evaluation_sums_le s
    have fc := evaluation_fc_le s
    have fcells : e.fCells = if s.cellsHold = true then 0 else 1024 := factorUnless_eq Iff.rfl
    have fconfig : e.fConfig = if true ∈ s.config.faulted then 0 else 1024 := factorUnless_eq (anyFault_iff s)
    have festop : e.fEstop = if s.lineIsActive .eStop = true then 0 else 1024 := factorUnless_eq Iff.rfl
    have fcoolant : e.fCoolant = s.coolantFactor := rfl
    have fcEq : e.fc = min e.fGrid (min e.fFire (min e.fCoolant (min e.fCells (min e.fConfig e.fEstop)))) := rfl
    refine ⟨rfl, gridFactor_eq _, fireTop, fireEach, fireLeast, ?_, fcells, fconfig, festop, rfl, (evaluation_sums s).1,
      (evaluation_sums s).2, rfl, rfl, rfl, rfl, scaled_le chg fc, scaled_le dis fc, evaluation_ratingSum s, fun none_ => ?_,
      fun blocked => ?_, ?_⟩
    · exact fcoolant.trans (coolantFactor_eq s)
    · refine limits_of_ratingSum_zero ?_
      have empty : (List.range 4).filter s.stringCounts = [] :=
        List.filter_eq_nil_iff.mpr fun i hi => by rw [none_ i (List.mem_range.mp hi)]; decide
      exact (evaluation_ratingSum s).trans
        (congrArg (fun l : List Nat => (l.map fun i => (s.stringEntry i).ratedKw).sum) empty)
    · refine limits_of_fc_zero ?_
      change e.fc = 0
      rcases blocked with ⟨notConnected, notRiding⟩ | confirmed | cells | config | stop
      · have grid : e.fGrid = 0 := (gridFactor_eq _).trans (if_neg fun h => h.elim notConnected notRiding)
        omega
      · have fire : e.fFire = 0 := fireFactor_of_confirmed confirmed
        omega
      · rw [if_pos cells] at fcells
        omega
      · rw [if_pos ((anyFault_iff s).mp config)] at fconfig
        omega
      · rw [if_pos stop] at festop
        omega
    · intro t3 t4 t5 t6 prealarm unwatched degraded lost
      have grid : e.fGrid ≤ 1024 := by
        rw [show e.fGrid = _ from gridFactor_eq _]
        split
        · exact Nat.le_refl _
        · exact Nat.zero_le _
      have coolant : e.fCoolant ≤ 1024 := by
        rw [fcoolant, State.coolantFactor]
        split
        · exact Nat.le_refl _
        · exact degraded
        · exact lost
      have held_le (b : Bool) : factorUnless b ≤ 1024 := by cases b <;> decide
      refine ⟨fc, grid, fireTop, coolant, held_le _, held_le _, held_le _, fun x hx => ?_⟩
      obtain ⟨i, -, rfl⟩ := List.mem_map.mp hx
      exact stringEnvelope_factors_le t3 t4 t5 t6 i
  · obtain ⟨range, rfl⟩ := evaluation_getElem? h
    intro r t counts inForce curve3 curve4 soc
    have countsIff := stringCounts_iff s i
    refine ⟨range, (stringEnvelope_counts s i) ▸ countsIff, fun idle => ?_, fun counted => ?_⟩
    · exact stringEnvelope_of_idle (Bool.eq_false_iff.mpr fun h => idle (countsIff.mp h))
    · rw [stringEnvelope_of_counts (countsIff.mpr counted)]
      refine ⟨fun hi lo hiEq loEq => ?_, fun absent => ?_, rfl, rfl, fun none_ => ?_, fun none_ => ?_, fun v k some_ => ?_,
        fun v k some_ => ?_, rfl, rfl, rfl, rfl⟩
      · exact ⟨temperatureFactor_of_read hiEq loEq, temperatureFactor_of_read hiEq loEq⟩
      · exact ⟨temperatureFactor_of_absent absent, temperatureFactor_of_absent absent⟩
      · exact (voltageFactorChg_of _ _).1 none_
      · exact (voltageFactorDis_of _ _).1 none_
      · exact (voltageFactorChg_of _ _).2 v k some_
      · exact (voltageFactorDis_of _ _).2 v k some_
  · intro e x any container named causes
    have xEq {i : Nat} (hi : i < 4) : (x i).counts = s.stringCounts i := by
      rw [show x i = s.stringEnvelope i from evaluation_getD hi, stringEnvelope_counts]
    have rowsOf {limit scaled cap : Nat} {capCause : LimitCause} {p f ft fsoc : Nat → Nat} {cause : LimitCause}
        (eq : cause = limitCause (e.strings.any (·.counts)) limit e.ratingSum scaled cap e.fc capCause container
          (s.stringCause p f ft fsoc fun i => (x i).counts)) :
        (¬any → cause = .noString) ∧ (any → limit = e.ratingSum → cause = .none) ∧
          (any → limit ≠ e.ratingSum → cap < scaled → cause = capCause) ∧
          (any → limit ≠ e.ratingSum → scaled ≤ cap → e.fc < 1024 → cause = .container container) ∧
          (∀ i < 4, limit ≠ e.ratingSum → scaled ≤ cap → 1024 ≤ e.fc → s.stringCounts i = true →
            p i < (s.stringEntry i).ratedKw →
            (∀ j < 4, s.stringCounts j = true → p j < (s.stringEntry j).ratedKw → f i < f j ∨ (f i = f j ∧ i ≤ j)) →
            cause = named i (ft i) (fsoc i) (f i)) := by
      obtain ⟨none_, same, capped, contained, strung⟩ := limitCause_rows (limit := limit) (rating := e.ratingSum)
        (scaled := scaled) (cap := cap) (fc := e.fc) (capCause := capCause)
        (string := s.stringCause p f ft fsoc fun i => (x i).counts) (container := container) (evaluation_any s)
      rw [eq]
      refine ⟨none_, same, capped, contained, fun i hi other free high counted below least => ?_⟩
      refine (strung ⟨i, hi, counted⟩ other free high).trans (stringCause_of_least hi ((xEq hi).trans counted) below ?_)
      exact fun j hj countedJ => least j hj ((xEq hj).symm.trans countedJ)
    exact ⟨rowsOf (congrArg (fun k => limitCause _ _ _ _ _ _ _ k _) (containerCause_eq _)),
      rowsOf (congrArg (fun k => limitCause _ _ _ _ _ _ _ k _) (containerCause_eq _))⟩

end Sys2Proof.Machine
end

section
/-! PROOF of O46: what a close judges of modules and strings (R19, R22 to R29). -/

namespace Sys2Proof.Machine

variable {s t : State} {i : Nat}

/-! ### Module records but for their masks (R40, R41) -/

/-- A module record without what bleeding writes in it. -/
def ModuleRec.bare (r : ModuleRec) : ModuleRec := { r with mask := [], resend := false }

theorem bare_setMask (m k : Nat) (f : ModuleRec → List Nat) :
    ((s.modModule m fun r => { r with mask := f r }).moduleAt k).bare = (s.moduleAt k).bare :=
  moduleAt_modModule_keeps (view := ModuleRec.bare) (f := fun r => { r with mask := f r }) (fun _ => rfl) m k

theorem bare_of_unsent {r u : ModuleRec} (h : r.unsent = u.unsent) : r.bare = u.bare :=
  congrArg (fun x : ModuleRec => { x with mask := [] }) h

theorem bare_placeBleedSet (m k : Nat) : ((s.placeBleedSet m).moduleAt k).bare = (s.moduleAt k).bare :=
  bare_of_unsent (unsent_placeBleedSet m k)

theorem bare_clearMask (cleared : List Nat) (m k : Nat) : ((s.clearMask cleared m).moduleAt k).bare = (s.moduleAt k).bare := by
  unfold State.clearMask
  dsimp only
  split
  · exact (bare_placeBleedSet m k).trans (bare_setMask m k fun _ => [])
  · split
    · exact bare_placeBleedSet m k
    · rfl

theorem bare_forEach {f : Nat → State → State} (h : ∀ m u k, ((f m u).moduleAt k).bare = (u.moduleAt k).bare)
    (l : List Nat) (s : State) (k : Nat) : ((s.forEach l f).moduleAt k).bare = (s.moduleAt k).bare :=
  keeps_foldl (P := fun u : State => (u.moduleAt k).bare = (s.moduleAt k).bare) (fun u m hu => (h m u k).trans hu) rfl

theorem bare_clearMasks (cleared : List Nat) (k : Nat) : ((s.clearMasks cleared).moduleAt k).bare = (s.moduleAt k).bare :=
  bare_forEach (fun m u k => bare_clearMask (s := u) cleared m k) _ s k

theorem bare_of_modules (h : t.modules = s.modules) (k : Nat) : (t.moduleAt k).bare = (s.moduleAt k).bare :=
  congrArg ModuleRec.bare (moduleAt_of_modules h k)

theorem bare_stringMoved (old : StringState) (k : Nat) : ((s.stringMoved i old).moduleAt k).bare = (s.moduleAt k).bare := by
  have masked : ((if clearsMasks old (s.stringAt i).state then s.clearStringMasks i else s).moduleAt k).bare =
      (s.moduleAt k).bare := by
    split
    · exact bare_clearMasks _ k
    · rfl
  have evaluated := (bare_of_modules (changeEval_frame
    (if clearsMasks old (s.stringAt i).state then s.clearStringMasks i else s) .modules (by decide)) k).trans masked
  unfold State.stringMoved
  dsimp only
  split
  · exact (bare_of_modules (trip_frame _ .welded .modules (by decide)) k).trans evaluated
  · exact evaluated

theorem bare_raiseCause (s : State) (i : Nat) (c : IsolationCause) (k : Nat) :
    ((s.raiseCause i c).moduleAt k).bare = (s.moduleAt k).bare := by
  have isolated : ((s.isolate i (some c) none).moduleAt k).bare = (s.moduleAt k).bare :=
    (bare_stringMoved _ k).trans (bare_of_modules (contactorCommand_frame s i false .modules (by decide)) k)
  cases state : (s.stringAt i).state with
  | awaiting => rw [raiseCause_of_awaiting c state]; split <;> rfl
  | inService => exact raiseCause_of_serving c (.inl state) ▸ isolated
  | restoring => exact raiseCause_of_serving c (.inr state) ▸ isolated
  | isolating => rw [raiseCause_of_isolating c state]; split <;> rfl
  | isolated =>
    rw [raiseCause_of_isolated c state]
    split
    · exact bare_stringMoved _ k
    · rfl
  | lockedOut => rw [raiseCause_of_out c (.inl state)]
  | welded => rw [raiseCause_of_out c (.inr state)]

/-! ### The conditions that a close judges (R24 to R26) -/

/-- The configuration and the module records, but for masks, on which the conditions rest. -/
def State.sameCells (s t : State) : Prop := t.config = s.config ∧ ∀ k, (t.moduleAt k).bare = (s.moduleAt k).bare

theorem sameCells_refl (s : State) : s.sameCells s := ⟨rfl, fun _ => rfl⟩

theorem sameCells_trans {u : State} (h : s.sameCells t) (k : t.sameCells u) : s.sameCells u :=
  ⟨k.1.trans h.1, fun m => (k.2 m).trans (h.2 m)⟩

theorem sameCells_of (config : t.config = s.config) (modules : t.modules = s.modules) : s.sameCells t :=
  ⟨config, bare_of_modules modules⟩

theorem sameCells_raiseCause (s : State) (i : Nat) (c : IsolationCause) : s.sameCells (s.raiseCause i c) :=
  ⟨raiseCause_frame s i c .config (by decide), bare_raiseCause s i c⟩

theorem modulesOf_of_config (h : t.config = s.config) (i : Nat) : t.modulesOf i = s.modulesOf i := by
  have used : t.moduleInUse = s.moduleInUse := funext fun m => by
    rw [State.moduleInUse, stringEntry_of_config h, State.moduleInUse]
  rw [State.modulesOf, used, State.modulesOf]

theorem cellsOf_of_same (h : s.sameCells t) (m : Nat) : t.cellsOf m = s.cellsOf m := by
  have cells : (t.moduleAt m).cells = (s.moduleAt m).cells := (congrArg ModuleRec.cells (h.2 m) :)
  rw [State.cellsOf, stringEntry_of_config h.1, cells, State.cellsOf]

theorem hardCells_of_same (h : s.sameCells t) (i : Nat) : t.hardCells i = s.hardCells i := by
  rw [State.hardCells, modulesOf_of_config h.1]
  simp only [cellsOf_of_same h, State.tables, h.1]
  rfl

theorem staleCondition_of_same (h : s.sameCells t) (i : Nat) : t.staleCondition i = s.staleCondition i := by
  have quality (m : Nat) : (t.moduleAt m).quality = (s.moduleAt m).quality := (congrArg ModuleRec.quality (h.2 m) :)
  rw [State.staleCondition, modulesOf_of_config h.1]
  simp only [cellsOf_of_same h, quality, State.params, h.1]
  rfl

theorem hotModules_of_same (h : s.sameCells t) (c : CloseRecord) (i : Nat) : t.hotModules c i = s.hotModules c i := by
  have temps (m : Nat) : (t.moduleAt m).temps = (s.moduleAt m).temps := (congrArg ModuleRec.temps (h.2 m) :)
  rw [State.hotModules, modulesOf_of_config h.1]
  simp only [temps, State.tables, h.1]
  rfl

theorem hardCells_iff (s : State) (i : Nat) : s.hardCells i = true ↔
    ∃ m ∈ s.modulesOf i, ∃ p k, (p < 16 ∧ p < (s.stringEntry (m / 12)).cells ∧ (s.moduleAt m).cells[p]? = some k) ∧
      s.tables.t1.hardPersist ≤ k.hardCount := by
  rw [State.hardCells, List.any_eq_true]
  refine exists_congr fun m => and_congr_right fun _ => (anyCell_iff m _).trans ?_
  simp only [decide_eq_true_eq]

theorem hotModules_ne_nil_iff (s : State) (c : CloseRecord) (i : Nat) : s.hotModules c i ≠ [] ↔
    ∃ m ∈ s.modulesOf i, m ∈ c.reported ∧ ∃ x ∈ (s.moduleAt m).temps, s.tables.t2.tMaxHard ≤ x := by
  have some_ : s.hotModules c i ≠ [] ↔ ∃ m, m ∈ s.hotModules c i :=
    ⟨List.exists_mem_of_ne_nil _, fun ⟨_, h⟩ => List.ne_nil_of_mem h⟩
  rw [some_]
  refine exists_congr fun m => ?_
  rw [State.hotModules, List.mem_filter, Bool.and_eq_true, List.contains_iff_mem]
  refine and_congr_right fun _ => and_congr_right fun _ => ?_
  exact maxTemp_any _ _

/-! ### Strings taken from service at a close (R24 to R26) -/

/-- A string state that no cause of a close leads back from. -/
def StringState.away (x : StringState) : Prop := x ≠ .inService ∧ x ≠ .restoring ∧ x ≠ .isolated

theorem away_of {x y : StringState} (h : x = y) (hy : y.away := by unfold StringState.away; decide) : x.away := h ▸ hy

theorem state_modString_keeps {f : StringRec → StringRec} (h : ∀ r, (f r).state = r.state) (j : Nat) :
    ((s.modString i f).stringAt j).state = (s.stringAt j).state := by
  by_cases same : j = i
  · subst same
    rcases Nat.lt_or_ge j s.strings.length with hj | hj
    · rw [stringAt_modString f hj, h]
    · simp [State.stringAt, State.modString, hj]
  · rw [stringAt_modify_other (t := s.modString i f) rfl same]

theorem away_raiseCause {c : IsolationCause} (h : c.locks = true ∨ (s.stringAt i).state.away) :
    ((s.raiseCause i c).stringAt i).state.away := by
  cases state : (s.stringAt i).state with
  | awaiting =>
    rw [raiseCause_of_awaiting c state]
    split
    · refine away_of (y := .awaiting) (Eq.trans (state_modString_keeps ?_ i) state)
      exact fun _ => rfl
    · exact away_of state
  | inService =>
    rw [raiseCause_of_serving c (.inl state)]
    exact away_of (y := .isolating) (congrArg StringRec.state
      (stringAt_modify (isolate_strings s i _ _) (lt_of_left state StringState.noConfusion)) :)
  | restoring =>
    rw [raiseCause_of_serving c (.inr state)]
    exact away_of (y := .isolating) (congrArg StringRec.state
      (stringAt_modify (isolate_strings s i _ _) (lt_of_left state StringState.noConfusion)) :)
  | isolating =>
    rw [raiseCause_of_isolating c state]
    split
    · refine away_of (y := .isolating) (Eq.trans (state_modString_keeps ?_ i) state)
      exact fun _ => rfl
    · exact away_of state
  | isolated =>
    have locks : c.locks = true := h.resolve_right fun away => away.2.2 state
    rw [stringAt_raiseCause_isolated (lt_of_left state StringState.noConfusion) state, if_pos locks]
    exact away_of (y := .lockedOut) rfl
  | lockedOut => rw [raiseCause_of_out c (.inl state)]; exact away_of state
  | welded => rw [raiseCause_of_out c (.inr state)]; exact away_of state

theorem stringAt_raiseCause_other {c : IsolationCause} {j : Nat} (other : j ≠ i) :
    (s.raiseCause i c).stringAt j = s.stringAt j := by
  obtain ⟨f, strings⟩ := raiseCause_strings s i c
  exact stringAt_modify_other strings other

/-- A hard cause raised for a string, with its notice and flag (R24, R25). -/
def State.hardCause (s : State) (k : NoticeKind) (subject : Nat) (f : Flag) (i : Nat) (c : IsolationCause) : State :=
  ((s.raise k (some subject)).latch f).raiseCause i c

section
variable {k : NoticeKind} {subject : Nat} {f : Flag} {c : IsolationCause}

theorem raisedLatched_frame (s : State) (k : NoticeKind) (subject : Nat) (f : Flag) :
    s.changesOnly ((s.raise k (some subject)).latch f) [.notices, .flags, .counters] :=
  State.changesOnly_trans (State.changesOnly_mono (raise_frame s k _) (by decide))
    (State.changesOnly_mono (latch_frame _ f) (by decide))

theorem sameCells_hardCause (s : State) : s.sameCells (s.hardCause k subject f i c) :=
  sameCells_trans (sameCells_of (raisedLatched_frame s k subject f .config (by decide))
    (raisedLatched_frame s k subject f .modules (by decide))) (sameCells_raiseCause _ i c)

theorem away_hardCause (locks : c.locks = true) : ((s.hardCause k subject f i c).stringAt i).state.away :=
  away_raiseCause (.inl locks)

theorem stringAt_hardCause_other {j : Nat} (other : j ≠ i) : (s.hardCause k subject f i c).stringAt j = s.stringAt j :=
  (stringAt_raiseCause_other other).trans
    (stringAt_of_strings (raisedLatched_frame s k subject f .strings (by decide)) j)

theorem isLatched_hardCause (g : Flag) : (s.hardCause k subject f i c).isLatched g = true ↔ s.isLatched g = true ∨ g = f := by
  have flags : (s.hardCause k subject f i c).flags = ((s.raise k (some subject)).latch f).flags :=
    raiseCause_frame _ i c .flags (by decide)
  have raised : (s.raise k (some subject)).isLatched g = s.isLatched g := by
    rw [State.isLatched, raise_frame s k _ .flags (by decide), State.isLatched]
  rw [State.isLatched, flags, ← State.isLatched, isLatched_latch_iff, raised]

end

/-- The modules at or above T_max_hard raise their cause one after the other (R25). -/
def State.hotCauses (s : State) (i : Nat) (hot : List Nat) : State :=
  s.forEach hot fun m s => s.hardCause .tempHard m .tempHard i .tempHard

theorem raiseCloseCauses_eq (c : CloseRecord) (i : Nat) (s : State) : s.raiseCloseCauses c i =
    (let u := if s.hardCells i then s.hardCause .cellHard i .cellHard i .cellHard else s
     let v := u.hotCauses i (s.hotModules c i)
     if s.staleCondition i && (s.stringEntry i).stalePolicy == .string then v.raiseCause i .moduleStale else v) := rfl

theorem sameCells_hotCauses (s : State) (hot : List Nat) : s.sameCells (s.hotCauses i hot) :=
  keeps_foldl (P := fun u => s.sameCells u) (fun u m h => sameCells_trans h (sameCells_hardCause u)) (sameCells_refl s)

theorem away_hotCauses {hot : List Nat} (h : (s.stringAt i).state.away ∨ hot ≠ []) :
    ((s.hotCauses i hot).stringAt i).state.away := by
  induction hot generalizing s with
  | nil => exact h.resolve_right fun h => h rfl
  | cons m hot ih => exact ih (s := s.hardCause .tempHard m .tempHard i .tempHard) (.inl (away_hardCause rfl))

theorem stringAt_hotCauses_other {hot : List Nat} {j : Nat} (other : j ≠ i) : (s.hotCauses i hot).stringAt j = s.stringAt j :=
  keeps_foldl (P := fun u : State => u.stringAt j = s.stringAt j) (fun _ _ h => (stringAt_hardCause_other other).trans h) rfl

theorem isLatched_hotCauses (hot : List Nat) (g : Flag) :
    (s.hotCauses i hot).isLatched g = true ↔ s.isLatched g = true ∨ (g = .tempHard ∧ hot ≠ []) := by
  induction hot generalizing s with
  | nil => exact ⟨.inl, fun h => h.resolve_right fun h => h.2 rfl⟩
  | cons m hot ih =>
    refine (ih (s := s.hardCause .tempHard m .tempHard i .tempHard)).trans ?_
    rw [isLatched_hardCause]
    constructor
    · rintro ((h | h) | h)
      · exact .inl h
      · exact .inr ⟨h, nofun⟩
      · exact .inr ⟨h.1, nofun⟩
    · exact fun h => .inl (h.imp_right fun h => h.1)

section
variable {c : CloseRecord}

theorem sameCells_raiseCloseCauses (s : State) : s.sameCells (s.raiseCloseCauses c i) := by
  rw [raiseCloseCauses_eq]
  have first : s.sameCells (if s.hardCells i then s.hardCause .cellHard i .cellHard i .cellHard else s) := by
    split
    · exact sameCells_hardCause s
    · exact sameCells_refl s
  have second := sameCells_trans first (sameCells_hotCauses (i := i) _ (s.hotModules c i))
  dsimp only
  split
  · exact sameCells_trans second (sameCells_raiseCause _ i _)
  · exact second

theorem stringAt_raiseCloseCauses_other {j : Nat} (other : j ≠ i) : (s.raiseCloseCauses c i).stringAt j = s.stringAt j := by
  rw [raiseCloseCauses_eq]
  have first : (if s.hardCells i then s.hardCause .cellHard i .cellHard i .cellHard else s).stringAt j = s.stringAt j := by
    split
    · exact stringAt_hardCause_other other
    · rfl
  have second := (stringAt_hotCauses_other (hot := s.hotModules c i) other).trans first
  dsimp only
  split
  · exact (stringAt_raiseCause_other other).trans second
  · exact second

/-- A string in none of the conditions is left as it stands. -/
theorem raiseCloseCauses_of_sound (hard : s.hardCells i = false) (hot : s.hotModules c i = [])
    (held : (s.staleCondition i && (s.stringEntry i).stalePolicy == .string) = false) : s.raiseCloseCauses c i = s := by
  rw [raiseCloseCauses_eq, hot, hard, held]
  exact rfl

theorem away_raiseCloseCauses (h : s.hardCells i = true ∨ s.hotModules c i ≠ [] ∨ (s.stringAt i).state.away) :
    ((s.raiseCloseCauses c i).stringAt i).state.away := by
  rw [raiseCloseCauses_eq]
  have second : (((if s.hardCells i then s.hardCause .cellHard i .cellHard i .cellHard else s).hotCauses i
      (s.hotModules c i)).stringAt i).state.away := by
    refine away_hotCauses ?_
    rcases h with hard | hot | away
    · rw [if_pos hard]
      exact .inl (away_hardCause rfl)
    · exact .inr hot
    · left
      split
      · exact away_hardCause rfl
      · exact away
  dsimp only
  split
  · exact away_raiseCause (.inr second)
  · exact second

theorem outOfService_raiseCloseCauses (h : s.hardCells i = true ∨ s.hotModules c i ≠ [] ∨
    (s.staleCondition i && (s.stringEntry i).stalePolicy == .string) = true) : (s.raiseCloseCauses c i).outOfService i := by
  by_cases held : (s.staleCondition i && (s.stringEntry i).stalePolicy == .string) = true
  · rw [raiseCloseCauses_eq]
    dsimp only
    rw [if_pos held]
    exact outOfService_raiseCause _ i _
  · have away := away_raiseCloseCauses (h.imp_right fun h => .inl (h.resolve_right held))
    exact fun serving => serving.elim away.1 away.2.1

theorem isLatched_raiseCloseCauses (g : Flag) : (s.raiseCloseCauses c i).isLatched g = true ↔ s.isLatched g = true ∨
    (g = .cellHard ∧ s.hardCells i = true) ∨ (g = .tempHard ∧ s.hotModules c i ≠ []) := by
  have first : (if s.hardCells i then s.hardCause .cellHard i .cellHard i .cellHard else s).isLatched g = true ↔
      s.isLatched g = true ∨ (g = .cellHard ∧ s.hardCells i = true) := by
    split
    case isTrue hard =>
      rw [isLatched_hardCause]
      simp only [hard, and_true]
    case isFalse sound => simp only [sound, and_false, or_false, Bool.false_eq_true]
  have second := isLatched_hotCauses (s := if s.hardCells i then s.hardCause .cellHard i .cellHard i .cellHard else s)
    (i := i) (s.hotModules c i) g
  rw [first, or_assoc] at second
  rw [raiseCloseCauses_eq]
  dsimp only
  split
  · refine Iff.trans ?_ second
    rw [State.isLatched, raiseCause_frame _ i .moduleStale .flags (by decide), ← State.isLatched]
  · exact second

/-! ### All strings in use -/

theorem isLatched_closeCauses (l : List Nat) (g : Flag) :
    (s.forEach l (State.raiseCloseCauses c)).isLatched g = true ↔ s.isLatched g = true ∨
      ∃ i ∈ l, (g = .cellHard ∧ s.hardCells i = true) ∨ (g = .tempHard ∧ s.hotModules c i ≠ []) := by
  induction l generalizing s with
  | nil => exact ⟨.inl, fun h => h.resolve_right fun ⟨_, h, _⟩ => List.not_mem_nil h⟩
  | cons i l ih =>
    refine (ih (s := s.raiseCloseCauses c i)).trans ?_
    have same := sameCells_raiseCloseCauses (c := c) (i := i) s
    simp only [isLatched_raiseCloseCauses, hardCells_of_same same, hotModules_of_same same, exists_mem_cons_or, or_assoc]

/-- A string in none of the conditions, or not in the list, stands. -/
theorem stringAt_closeCauses_of_sound {l : List Nat} (h : i ∈ l → s.hardCells i = false ∧ s.hotModules c i = [] ∧
    (s.staleCondition i && (s.stringEntry i).stalePolicy == .string) = false) :
    (s.forEach l (State.raiseCloseCauses c)).stringAt i = s.stringAt i := by
  have steps : ∀ (is : List Nat) (u : State), is ⊆ l → s.sameCells u → u.stringAt i = s.stringAt i →
      (u.forEach is (State.raiseCloseCauses c)).stringAt i = s.stringAt i := by
    intro is
    induction is with
    | nil => exact fun _ _ _ h => h
    | cons j is ih =>
      intro u sub same string
      obtain ⟨hj, his⟩ := List.cons_subset.mp sub
      refine ih (u.raiseCloseCauses c j) his (sameCells_trans same (sameCells_raiseCloseCauses u)) ?_
      by_cases here : i = j
      · subst here
        obtain ⟨hard, hot, held⟩ := h hj
        rw [raiseCloseCauses_of_sound ((hardCells_of_same same i).trans hard) ((hotModules_of_same same c i).trans hot)
          (by rw [staleCondition_of_same same, stringEntry_of_config same.1]; exact held), string]
      · exact (stringAt_raiseCloseCauses_other here).trans string
  exact steps l s (List.Subset.refl l) (sameCells_refl s) rfl

theorem away_closeCauses {l : List Nat} (mem : i ∈ l) (h : s.hardCells i = true ∨ s.hotModules c i ≠ []) :
    ((s.forEach l (State.raiseCloseCauses c)).stringAt i).state.away := by
  refine forEach_reaches (R := fun u => s.sameCells u) (Q := fun u => (u.stringAt i).state.away) ?_ ?_ ?_ mem
    (sameCells_refl s)
  · intro u same
    refine away_raiseCloseCauses (h.imp (fun h => ?_) fun h => .inl ?_)
    · rwa [hardCells_of_same same]
    · rwa [hotModules_of_same same]
  · exact fun j u _ same => sameCells_trans same (sameCells_raiseCloseCauses u)
  · intro j u away
    by_cases here : i = j
    · subst here
      exact away_raiseCloseCauses (.inr (.inr away))
    · rwa [stringAt_raiseCloseCauses_other here]

theorem outOfService_closeCauses {l : List Nat} (mem : i ∈ l) (h : s.hardCells i = true ∨ s.hotModules c i ≠ [] ∨
    (s.staleCondition i && (s.stringEntry i).stalePolicy == .string) = true) :
    (s.forEach l (State.raiseCloseCauses c)).outOfService i := by
  refine forEach_reaches (R := fun u => s.sameCells u) (Q := fun u => u.outOfService i) ?_ ?_ ?_ mem (sameCells_refl s)
  · intro u same
    refine outOfService_raiseCloseCauses ?_
    rwa [hardCells_of_same same, hotModules_of_same same, staleCondition_of_same same, stringEntry_of_config same.1]
  · exact fun j u _ same => sameCells_trans same (sameCells_raiseCloseCauses u)
  · exact fun j u out => (steady_outOfService i).raiseCloseCauses out

end

/-! ### Module records at a close (R22, R24, R25) -/

/-- A module record at a close, its quiet voltages taken where its round gives them (R22). -/
def ModuleRec.quieted (r : ModuleRec) (c : CloseRecord) (m : Nat) : ModuleRec :=
  if c.quietUsable && c.quietValid.contains m then r.adoptQuiet else r

theorem quieted_view {β : Type} {view : ModuleRec → β} (h : ∀ r : ModuleRec, view r.adoptQuiet = view r) (r : ModuleRec)
    (c : CloseRecord) (m : Nat) : view (r.quieted c m) = view r := by
  unfold ModuleRec.quieted
  split
  · exact h r
  · rfl

/-- Whether module `m` reports into the close. -/
def State.reports (s : State) (c : CloseRecord) (m : Nat) : Bool := s.moduleInUse m && c.reported.contains m

/-- Whether module `m` is silent at the close: in use, not reporting and STALE. -/
def State.silentAt (s : State) (c : CloseRecord) (m : Nat) (r : ModuleRec) : Bool :=
  s.moduleInUse m && !(c.reported.contains m) && r.quality == .stale

theorem judgeModule_eq (s : State) (c : CloseRecord) (m : Nat) (r : ModuleRec) : s.judgeModule c m r =
    if s.reports c m then (r.quieted c m).reporting s.tables.t1 (s.stringEntry (m / 12)).cells
    else if s.silentAt c m r then (r.quieted c m).unknownBands else r.quieted c m := by
  have quality : (r.quieted c m).quality = r.quality := quieted_view (view := ModuleRec.quality) (fun _ => rfl) r c m
  have eq : s.judgeModule c m r = if s.moduleInUse m then
      if c.reported.contains m then (r.quieted c m).reporting s.tables.t1 (s.stringEntry (m / 12)).cells
      else if (r.quieted c m).quality == .stale then (r.quieted c m).unknownBands else r.quieted c m
    else r.quieted c m := rfl
  rw [eq, quality, State.reports, State.silentAt]
  cases s.moduleInUse m <;> cases c.reported.contains m <;> rfl

theorem judgeModule_kept (s : State) (c : CloseRecord) (m : Nat) (r : ModuleRec) :
    s.judgeModule c m r = { r with cells := (s.judgeModule c m r).cells, history := (s.judgeModule c m r).history } := by
  have kept : ({ r.quieted c m with cells := [], history := [] } : ModuleRec) = { r with cells := [], history := [] } :=
    quieted_view (view := fun r : ModuleRec => ({ r with cells := [], history := [] } : ModuleRec)) (fun _ => rfl) r c m
  have full (u : ModuleRec) (h : ({ u with cells := [], history := [] } : ModuleRec) = { r with cells := [], history := [] }) :
      u = { r with cells := u.cells, history := u.history } :=
    (congrArg (fun x : ModuleRec => ({ x with cells := u.cells, history := u.history } : ModuleRec)) h :)
  refine full _ ?_
  rw [judgeModule_eq]
  split
  · exact kept
  · split
    · exact kept
    · exact kept

theorem judgeModule_history (s : State) (c : CloseRecord) (m : Nat) (r : ModuleRec) :
    (s.judgeModule c m r).history = match r.temps.max? with
      | some x => if s.moduleInUse m && c.reported.contains m then lastEntries 8 (r.history ++ [x]) else r.history
      | none => r.history := by
  have history : (r.quieted c m).history = r.history := quieted_view (view := ModuleRec.history) (fun _ => rfl) r c m
  have temps : (r.quieted c m).temps = r.temps := quieted_view (view := ModuleRec.temps) (fun _ => rfl) r c m
  rw [judgeModule_eq, ← State.reports]
  by_cases h : s.reports c m = true
  · have eq : ((r.quieted c m).reporting s.tables.t1 (s.stringEntry (m / 12)).cells).history =
        historyWith (r.quieted c m).history (maxTemp (r.quieted c m).temps) := rfl
    rw [if_pos h, eq, history, temps, maxTemp]
    simp only [h, if_true]
    cases r.temps.max? <;> rfl
  · have other : (if s.silentAt c m r then (r.quieted c m).unknownBands else r.quieted c m).history = r.history := by
      split <;> exact history
    rw [if_neg h, other]
    simp only [h]
    cases r.temps.max? <;> rfl

/-- A cell record at a close, its quiet voltage taken where its round gives it (R22). -/
def CellRec.quieted (k : CellRec) (c : CloseRecord) (m : Nat) : CellRec :=
  if c.quietUsable && c.quietValid.contains m then { k with quiet := k.latest } else k

theorem quieted_cells {r : ModuleRec} {p : Nat} {k : CellRec} (h : r.cells[p]? = some k) (c : CloseRecord) (m : Nat) :
    (r.quieted c m).cells[p]? = some (k.quieted c m) := by
  unfold ModuleRec.quieted CellRec.quieted
  split
  · exact (List.getElem?_map ..).trans (congrArg _ h)
  · exact h

theorem length_judgeModule (s : State) (c : CloseRecord) (m : Nat) (r : ModuleRec) :
    (s.judgeModule c m r).cells.length = r.cells.length := by
  have length : (r.quieted c m).cells.length = r.cells.length :=
    quieted_view (view := fun r => r.cells.length) (fun _ => List.length_map ..) r c m
  rw [judgeModule_eq]
  split
  · exact (List.length_mapIdx ..).trans length
  · split
    · exact (List.length_map ..).trans length
    · exact length

/-- What a close makes of one cell of a module. -/
def CellRec.closed (k : CellRec) (v : VoltageLimits) (reports silent : Bool) : CellRec :=
  if reports then { k with
    band := bandOf v k.latest
    hardCount := if bandOf v k.latest = .lowHard ∨ bandOf v k.latest = .highHard then capNat 4 (k.hardCount + 1) else 0
    absentRun := if k.latest = none then inc8 k.absentRun else 0 }
  else if silent then { k with band := .unknown, hardCount := 0 }
  else k

theorem judged_eq (k : CellRec) (v : VoltageLimits) : k.judged v = k.closed v true false := by
  have hard : (if (bandOf v k.latest == .lowHard || bandOf v k.latest == .highHard) = true then capNat 4 (k.hardCount + 1)
      else 0) = if bandOf v k.latest = .lowHard ∨ bandOf v k.latest = .highHard then capNat 4 (k.hardCount + 1) else 0 :=
    ite_of_iff (by rw [Bool.or_eq_true, beq_iff_eq, beq_iff_eq]) rfl rfl
  have absent : (if k.latest.isNone = true then inc8 k.absentRun else 0) = if k.latest = none then inc8 k.absentRun else 0 :=
    ite_of_iff Option.isNone_iff_eq_none rfl rfl
  rw [CellRec.closed, if_pos rfl, ← hard, ← absent]
  rfl

theorem cells_judgeModule {r : ModuleRec} {p : Nat} {k : CellRec} (h : r.cells[p]? = some k) (s : State) (c : CloseRecord)
    (m : Nat) : (s.judgeModule c m r).cells[p]? = some ((k.quieted c m).closed s.tables.t1
      (s.reports c m && decide (p < (s.stringEntry (m / 12)).cells)) (s.silentAt c m r)) := by
  have quieted := quieted_cells h c m
  rw [judgeModule_eq]
  by_cases reports : s.reports c m = true
  · have silent : s.silentAt c m r = false := by
      obtain ⟨-, reported⟩ := Bool.and_eq_true_iff.mp reports
      rw [State.silentAt, reported]
      cases s.moduleInUse m <;> rfl
    have cells : ((r.quieted c m).reporting s.tables.t1 (s.stringEntry (m / 12)).cells).cells[p]? = some
        (if p < (s.stringEntry (m / 12)).cells then (k.quieted c m).judged s.tables.t1 else k.quieted c m) := by
      refine (List.getElem?_mapIdx ..).trans ?_
      rw [quieted]
      rfl
    rw [if_pos reports, cells, reports, silent, judged_eq]
    by_cases low : p < (s.stringEntry (m / 12)).cells
    · rw [if_pos low, decide_eq_true low]
      rfl
    · rw [if_neg low, decide_eq_false low]
      rfl
  · rw [if_neg reports, Bool.not_eq_true] at *
    rw [reports]
    cases s.silentAt c m r with
    | true => exact (List.getElem?_map ..).trans (congrArg _ quieted)
    | false => exact quieted

/-! ### Extremes (R27) -/

/-- The first of the readings that no other beats. -/
theorem foldl_extreme_spec {beats : Nat → Nat → Bool} (irrefl : ∀ a, beats a a = false)
    (trans : ∀ a b c, beats a b = true → beats b c = true → beats a c = true)
    (total : ∀ a b, beats a b = true ∨ a = b ∨ beats b a = true) : ∀ (l : List (Nat × Nat)) (x : Nat × Nat),
      (x :: l).Pairwise (fun p q => p.2 < q.2) →
      let best := l.foldl (fun best y => if beats y.1 best.1 then y else best) x
      best ∈ x :: l ∧ ∀ y ∈ x :: l, beats best.1 y.1 = true ∨ (y.1 = best.1 ∧ best.2 ≤ y.2) := by
  intro l
  induction l with
  | nil =>
    intro x _ best
    refine ⟨List.mem_cons_self .., fun y hy => ?_⟩
    rcases List.mem_cons.mp hy with rfl | h
    · exact .inr ⟨rfl, Nat.le_refl _⟩
    · exact absurd h List.not_mem_nil
  | cons z l ih =>
    intro x sorted best
    obtain ⟨first, rest⟩ := List.pairwise_cons.mp sorted
    obtain ⟨second, later⟩ := List.pairwise_cons.mp rest
    by_cases wins : beats z.1 x.1 = true
    · obtain ⟨mem, least⟩ := ih z rest
      have eq : best = l.foldl (fun best y => if beats y.1 best.1 then y else best) z := by
        change (z :: l).foldl _ x = _
        rw [List.foldl_cons, if_pos wins]
      rw [eq]
      refine ⟨List.mem_cons_of_mem _ mem, fun y hy => ?_⟩
      rcases List.mem_cons.mp hy with rfl | h
      · left
        rcases least z (List.mem_cons_self ..) with h | ⟨h, -⟩
        · exact trans _ _ _ h wins
        · rwa [← h]
      · exact least y h
    · have sorted' : (x :: l).Pairwise fun p q => p.2 < q.2 :=
        List.pairwise_cons.mpr ⟨fun q hq => first q (List.mem_cons_of_mem _ hq), later⟩
      obtain ⟨mem, least⟩ := ih x sorted'
      have eq : best = l.foldl (fun best y => if beats y.1 best.1 then y else best) x := by
        change (z :: l).foldl _ x = _
        rw [List.foldl_cons, if_neg wins]
      rw [eq]
      refine ⟨List.mem_cons.mpr ((List.mem_cons.mp mem).imp_right (List.mem_cons_of_mem _)), fun y hy => ?_⟩
      rcases List.mem_cons.mp hy with rfl | h
      · exact least y (List.mem_cons_self ..)
      · rcases List.mem_cons.mp h with rfl | h
        · have own := least x (List.mem_cons_self ..)
          have before := first y (List.mem_cons_self ..)
          rcases total x.1 y.1 with xy | xy | yx
          · left
            rcases own with own | ⟨own, -⟩
            · exact trans _ _ _ own xy
            · rwa [← own]
          · rcases own with own | ⟨own, low⟩
            · left
              rwa [← xy]
            · exact .inr ⟨xy.symm.trans own, by omega⟩
          · exact absurd yx wins
        · exact least y (List.mem_cons_of_mem _ h)

/-- The extreme of readings in rising order of their indices: the reading that beats every other, the lower index on a
tie. -/
theorem extremeOf_eq_some_iff {beats : Nat → Nat → Bool} (irrefl : ∀ a, beats a a = false)
    (trans : ∀ a b c, beats a b = true → beats b c = true → beats a c = true)
    (total : ∀ a b, beats a b = true ∨ a = b ∨ beats b a = true) {l : List (Nat × Nat)}
    (sorted : l.Pairwise fun p q => p.2 < q.2) (v k : Nat) :
    extremeOf beats l = some (v, k) ↔
      (v, k) ∈ l ∧ ∀ v' k', (v', k') ∈ l → beats v v' = true ∨ (v' = v ∧ k ≤ k') := by
  cases l with
  | nil => exact ⟨nofun, fun h => absurd h.1 List.not_mem_nil⟩
  | cons x l =>
    obtain ⟨mem, best⟩ := foldl_extreme_spec irrefl trans total l x sorted
    have eq : extremeOf beats (x :: l) = some (l.foldl (fun best y => if beats y.1 best.1 then y else best) x) := rfl
    rw [eq, Option.some.injEq]
    generalize l.foldl (fun best y => if beats y.1 best.1 then y else best) x = found at mem best
    constructor
    · rintro rfl
      exact ⟨mem, fun v' k' h => best (v', k') h⟩
    · rintro ⟨here, most⟩
      have one := best (v, k) here
      have two := most found.1 found.2 mem
      dsimp only at one two
      rcases one with one | ⟨same, low⟩
      · rcases two with two | ⟨same, -⟩
        · exact absurd (trans _ _ _ one two) (by rw [irrefl]; decide)
        · rw [same, irrefl] at one
          nomatch one
      · rcases two with two | ⟨-, low'⟩
        · rw [same, irrefl] at two
          nomatch two
        · exact Prod.ext same.symm (by omega)

/-- A FRESH module of a string. -/
def State.freshIn (s : State) (i m : Nat) : Prop := m ∈ s.modulesOf i ∧ (s.moduleAt m).quality = .fresh

/-- The FRESH modules of a string, in order (R27). -/
def State.freshOf (s : State) (i : Nat) : List Nat := (s.modulesOf i).filter fun m => (s.moduleAt m).quality == .fresh

theorem mem_freshOf (s : State) (i m : Nat) : m ∈ s.freshOf i ↔ s.freshIn i m := by
  rw [State.freshOf, List.mem_filter, beq_iff_eq]
  exact Iff.rfl

theorem sorted_modulesOf (s : State) (i : Nat) : (s.modulesOf i).Pairwise (· < ·) := by
  refine List.Pairwise.filter _ (List.pairwise_map.mpr ?_)
  exact List.pairwise_lt_range.imp fun h => Nat.add_lt_add_left h _

theorem sorted_freshOf (s : State) (i : Nat) : (s.freshOf i).Pairwise (· < ·) := (sorted_modulesOf s i).filter _

/-- The readings of a string's FRESH modules, with their cell indices (R27). -/
def State.readings (s : State) (i : Nat) : List (Nat × Nat) :=
  ((s.freshOf i).map fun m => (s.cellsOf m).filterMap fun (c, k) => k.latest.map fun v => (v, 16 * (m % 12) + c)).flatten

theorem mem_readings (s : State) (i v k : Nat) : (v, k) ∈ s.readings i ↔
    ∃ m p x, s.freshIn i m ∧ (p < 16 ∧ p < (s.stringEntry (m / 12)).cells ∧ (s.moduleAt m).cells[p]? = some x) ∧
      x.latest = some v ∧ k = 16 * (m % 12) + p := by
  rw [State.readings, List.mem_flatten]
  constructor
  · rintro ⟨l, hl, mem⟩
    obtain ⟨m, hm, rfl⟩ := List.mem_map.mp hl
    obtain ⟨⟨p, x⟩, hx, eq⟩ := List.mem_filterMap.mp mem
    obtain ⟨w, latest, pair⟩ := Option.map_eq_some_iff.mp eq
    obtain ⟨rfl, rfl⟩ := Prod.mk.inj pair
    exact ⟨m, p, x, (mem_freshOf s i m).mp hm, (mem_cellsOf m p x).mp hx, latest, rfl⟩
  · rintro ⟨m, p, x, fresh, cell, latest, rfl⟩
    refine ⟨_, List.mem_map.mpr ⟨m, (mem_freshOf s i m).mpr fresh, rfl⟩,
      List.mem_filterMap.mpr ⟨(p, x), (mem_cellsOf m p x).mpr cell, ?_⟩⟩
    dsimp only
    rw [latest]
    rfl

theorem sorted_cellsOf (s : State) (m : Nat) : (s.cellsOf m).Pairwise fun p q => p.1 < q.1 := by
  rw [State.cellsOf, List.pairwise_iff_getElem]
  intro a b ha hb hab
  simp only [List.getElem_take, List.getElem_zip, List.getElem_range]
  exact hab

theorem sorted_readings (s : State) (i : Nat) : (s.readings i).Pairwise fun p q => p.2 < q.2 := by
  rw [State.readings, List.pairwise_flatten]
  constructor
  · intro l hl
    obtain ⟨m, -, rfl⟩ := List.mem_map.mp hl
    rw [List.pairwise_filterMap]
    refine (sorted_cellsOf s m).imp ?_
    rintro ⟨p, x⟩ ⟨q, y⟩ low a ha b hb
    obtain ⟨_, -, rfl⟩ := Option.map_eq_some_iff.mp ha
    obtain ⟨_, -, rfl⟩ := Option.map_eq_some_iff.mp hb
    exact Nat.add_lt_add_left low _
  · refine List.pairwise_map.mpr ((List.Pairwise.and_mem.mp (sorted_freshOf s i)).imp ?_)
    rintro m n ⟨hm, hn, low⟩ ⟨v, k⟩ ha ⟨w, l⟩ hb
    obtain ⟨⟨p, x⟩, hx, ha⟩ := List.mem_filterMap.mp ha
    obtain ⟨⟨q, y⟩, -, hb⟩ := List.mem_filterMap.mp hb
    obtain ⟨_, -, pairA⟩ := Option.map_eq_some_iff.mp ha
    obtain ⟨_, -, pairB⟩ := Option.map_eq_some_iff.mp hb
    obtain ⟨-, rfl⟩ := Prod.mk.inj pairA
    obtain ⟨-, rfl⟩ := Prod.mk.inj pairB
    have range := ((mem_cellsOf m p x).mp hx).1
    have ofM := ((mem_modulesOf s i m).mp ((mem_freshOf s i m).mp hm).1).1
    have ofN := ((mem_modulesOf s i n).mp ((mem_freshOf s i n).mp hn).1).1
    dsimp only
    omega

theorem extremesOf_eq (s : State) (i : Nat) : s.extremesOf i =
    { vMax := extremeOf (fun a b => decide (b < a)) (s.readings i), vMin := extremeOf (fun a b => decide (a < b)) (s.readings i)
      tMax := ((s.freshOf i).filterMap fun m => maxTemp (s.moduleAt m).temps).max?
      tMin := ((s.freshOf i).filterMap fun m => minTemp (s.moduleAt m).temps).min? } := rfl

theorem vMax_iff (s : State) (i v k : Nat) : (s.extremesOf i).vMax = some (v, k) ↔
    (v, k) ∈ s.readings i ∧ ∀ v' k', (v', k') ∈ s.readings i → v' < v ∨ (v' = v ∧ k ≤ k') := by
  refine (extremeOf_eq_some_iff (beats := fun a b => decide (b < a)) ?_ ?_ ?_ (sorted_readings s i) v k).trans ?_
  · exact fun a => decide_eq_false (Nat.lt_irrefl a)
  · intro a b c h1 h2
    rw [decide_eq_true_eq] at h1 h2 ⊢
    omega
  · intro a b
    rw [decide_eq_true_eq, decide_eq_true_eq]
    omega
  · simp only [decide_eq_true_eq]

theorem vMin_iff (s : State) (i v k : Nat) : (s.extremesOf i).vMin = some (v, k) ↔
    (v, k) ∈ s.readings i ∧ ∀ v' k', (v', k') ∈ s.readings i → v < v' ∨ (v' = v ∧ k ≤ k') := by
  refine (extremeOf_eq_some_iff (beats := fun a b => decide (a < b)) ?_ ?_ ?_ (sorted_readings s i) v k).trans ?_
  · exact fun a => decide_eq_false (Nat.lt_irrefl a)
  · intro a b c h1 h2
    rw [decide_eq_true_eq] at h1 h2 ⊢
    omega
  · intro a b
    rw [decide_eq_true_eq, decide_eq_true_eq]
    omega
  · simp only [decide_eq_true_eq]

theorem tMax_iff (s : State) (i : Nat) (x : Int) : (s.extremesOf i).tMax = some x ↔
    (∃ m, s.freshIn i m ∧ x ∈ (s.moduleAt m).temps) ∧ ∀ y, (∃ m, s.freshIn i m ∧ y ∈ (s.moduleAt m).temps) → y ≤ x := by
  rw [extremesOf_eq, List.max?_eq_some_iff]
  have mem (z : Int) : z ∈ (s.freshOf i).filterMap (fun m => maxTemp (s.moduleAt m).temps) ↔
      ∃ m, s.freshIn i m ∧ z ∈ (s.moduleAt m).temps ∧ ∀ y ∈ (s.moduleAt m).temps, y ≤ z := by
    rw [List.mem_filterMap]
    refine exists_congr fun m => ?_
    rw [mem_freshOf, maxTemp, List.max?_eq_some_iff]
  simp only [mem]
  constructor
  · rintro ⟨⟨m, fresh, here, _⟩, most⟩
    refine ⟨⟨m, fresh, here⟩, fun y ⟨n, fresh', hy⟩ => ?_⟩
    cases greatest : (s.moduleAt n).temps.max? with
    | none =>
      rw [List.max?_eq_none_iff] at greatest
      rw [greatest] at hy
      exact absurd hy List.not_mem_nil
    | some z =>
      obtain ⟨hz, top⟩ := List.max?_eq_some_iff.mp greatest
      exact Int.le_trans (top y hy) (most z ⟨n, fresh', hz, top⟩)
  · rintro ⟨⟨m, fresh, here⟩, most⟩
    exact ⟨⟨m, fresh, here, fun y hy => most y ⟨m, fresh, hy⟩⟩, fun z ⟨n, fresh', hz, _⟩ => most z ⟨n, fresh', hz⟩⟩

theorem tMin_iff (s : State) (i : Nat) (x : Int) : (s.extremesOf i).tMin = some x ↔
    (∃ m, s.freshIn i m ∧ x ∈ (s.moduleAt m).temps) ∧ ∀ y, (∃ m, s.freshIn i m ∧ y ∈ (s.moduleAt m).temps) → x ≤ y := by
  rw [extremesOf_eq, List.min?_eq_some_iff]
  have mem (z : Int) : z ∈ (s.freshOf i).filterMap (fun m => minTemp (s.moduleAt m).temps) ↔
      ∃ m, s.freshIn i m ∧ z ∈ (s.moduleAt m).temps ∧ ∀ y ∈ (s.moduleAt m).temps, z ≤ y := by
    rw [List.mem_filterMap]
    refine exists_congr fun m => ?_
    rw [mem_freshOf, minTemp, List.min?_eq_some_iff]
  simp only [mem]
  constructor
  · rintro ⟨⟨m, fresh, here, _⟩, most⟩
    refine ⟨⟨m, fresh, here⟩, fun y ⟨n, fresh', hy⟩ => ?_⟩
    cases least : (s.moduleAt n).temps.min? with
    | none =>
      rw [List.min?_eq_none_iff] at least
      rw [least] at hy
      exact absurd hy List.not_mem_nil
    | some z =>
      obtain ⟨hz, low⟩ := List.min?_eq_some_iff.mp least
      exact Int.le_trans (most z ⟨n, fresh', hz, low⟩) (low y hy)
  · rintro ⟨⟨m, fresh, here⟩, most⟩
    exact ⟨⟨m, fresh, here, fun y hy => most y ⟨m, fresh, hy⟩⟩, fun z ⟨n, fresh', hz, _⟩ => most z ⟨n, fresh', hz⟩⟩

/-! ### The obligation -/

/-- Judging reads the quiet voltage of a cell nowhere. -/
theorem closed_quieted (k : CellRec) (c : CloseRecord) (m : Nat) (v : VoltageLimits) (reports silent : Bool) :
    (k.quieted c m).closed v reports silent =
      if reports then { k.quieted c m with
        band := bandOf v k.latest
        hardCount := if bandOf v k.latest = .lowHard ∨ bandOf v k.latest = .highHard then capNat 4 (k.hardCount + 1) else 0
        absentRun := if k.latest = none then inc8 k.absentRun else 0 }
      else if silent then { k.quieted c m with band := .unknown, hardCount := 0 }
      else k.quieted c m := by
  unfold CellRec.quieted
  split <;> rfl

/-- The state in which modules and strings are judged. -/
def State.closeJudged (s : State) (c : CloseRecord) : State := (s.judgeModules c).judgeStrings

theorem closeJudged_frame (s : State) (c : CloseRecord) : s.changesOnly (s.closeJudged c) [.modules, .strings, .cellsHold, .limits] :=
  State.changesOnly_trans (t := s.judgeModules c) (State.changesOnly_trans
      (State.changesOnly_mono (setModules_frame s _) (by decide)) (State.changesOnly_mono (setLimits_frame _ _) (by decide)))
    (State.changesOnly_trans (State.changesOnly_mono (setStrings_frame _ _) (by decide))
      (State.changesOnly_mono (setCellsHold_frame _ _) (by decide)))

theorem closeJudged_strings {r : StringRec} (c : CloseRecord) (h : s.strings[i]? = some r) :
    (s.closeJudged c).strings[i]? = some { r with
      extremes := if (s.stringEntry i).inUse then (s.judgeModules c).extremesOf i else r.extremes } := by
  refine (List.getElem?_mapIdx ..).trans ?_
  rw [show (s.judgeModules c).strings = s.strings from rfl, h]
  have entry : (s.judgeModules c).stringEntry i = s.stringEntry i := rfl
  rw [entry]
  cases (s.stringEntry i).inUse <;> rfl

theorem temps_closeJudged (s : State) (c : CloseRecord) (m : Nat) :
    ((s.closeJudged c).moduleAt m).temps = (s.moduleAt m).temps := by
  have modules : (s.closeJudged c).modules = s.modules.mapIdx (s.judgeModule c) := rfl
  rw [State.moduleAt, State.moduleAt, modules, List.getD_eq_getElem?_getD, List.getD_eq_getElem?_getD, List.getElem?_mapIdx]
  cases s.modules[m]? with
  | none => rfl
  | some r => exact (congrArg ModuleRec.temps (judgeModule_kept s c m r) :)

theorem holdsCells_iff (s : State) : s.holdsCells = true ↔ ∃ i < 4, (s.stringEntry i).inUse = true ∧
    (s.stringEntry i).stalePolicy = .container ∧ s.staleCondition i = true := by
  rw [State.holdsCells, List.any_eq_true]
  refine exists_congr fun i => and_congr List.mem_range ?_
  rw [Bool.and_eq_true, Bool.and_eq_true, beq_iff_eq, and_assoc]

/-- The close evaluation up to what its end hands on. -/
def State.causesRaised (s : State) (c : CloseRecord) : State :=
  (s.closeJudged c).forEach (s.closeJudged c).stringsInUse (State.raiseCloseCauses c)

theorem bleedClose_frame (s : State) (c : CloseRecord) : s.changesOnly (s.bleedClose c) [.modules, .fieldPort, .counters] :=
  frame_of fun h => h.bleedClose (List.Subset.refl _)

theorem raiseCloseCauses_frame (s : State) (c : CloseRecord) (i : Nat) :
    s.changesOnly (s.raiseCloseCauses c i) [.modules, .strings, .envelope, .gate, .fieldPort, .notices, .flags, .counters] := by
  have hardened (u : State) (k : NoticeKind) (n : Nat) (f : Flag) (x : IsolationCause) : u.changesOnly (u.hardCause k n f i x)
      [.modules, .strings, .envelope, .gate, .fieldPort, .notices, .flags, .counters] :=
    State.changesOnly_trans (State.changesOnly_mono (raisedLatched_frame u k n f) (by decide))
      (State.changesOnly_mono (raiseCause_frame _ i x) (by decide))
  rw [raiseCloseCauses_eq]
  have first : s.changesOnly (if s.hardCells i then s.hardCause .cellHard i .cellHard i .cellHard else s)
      [.modules, .strings, .envelope, .gate, .fieldPort, .notices, .flags, .counters] := by
    split
    · exact hardened s _ _ _ _
    · exact State.changesOnly_refl _ _
  have second : s.changesOnly ((if s.hardCells i then s.hardCause .cellHard i .cellHard i .cellHard else s).hotCauses i
      (s.hotModules c i)) [.modules, .strings, .envelope, .gate, .fieldPort, .notices, .flags, .counters] :=
    keeps_foldl (P := fun u => s.changesOnly u _) (fun u m h => State.changesOnly_trans h (hardened u _ _ _ _)) first
  dsimp only
  split
  · exact State.changesOnly_trans second (State.changesOnly_mono (raiseCause_frame _ i _) (by decide))
  · exact second

theorem causesRaised_frame (s : State) (c : CloseRecord) : (s.closeJudged c).changesOnly (s.causesRaised c)
    [.modules, .strings, .envelope, .gate, .fieldPort, .notices, .flags, .counters] :=
  keeps_foldl (P := fun u => (s.closeJudged c).changesOnly u _)
    (fun u i h => State.changesOnly_trans h (raiseCloseCauses_frame u c i)) (State.changesOnly_refl _ _)

theorem mem_stringsInUse (s : State) (i : Nat) : i ∈ s.stringsInUse ↔ i < 4 ∧ (s.stringEntry i).inUse = true := by
  rw [State.stringsInUse, List.mem_filter, List.mem_range]

/-- Settles O46: the judging of a close, module by module and string by string. -/
theorem closeJudgesModulesAndStrings : Obligations.CloseJudgesModulesAndStrings := by
  unfold Obligations.CloseJudgesModulesAndStrings
  intro s c j u w inCell fresh stale hard hot
  have jFrame : s.changesOnly j [.modules, .strings, .cellsHold, .limits] := closeJudged_frame s c
  have uFrame : s.changesOnly u [.modules, .strings, .cellsHold, .limits, .envelope, .gate, .fieldPort, .notices, .flags, .counters] :=
    State.changesOnly_trans (State.changesOnly_mono jFrame (by decide))
      (State.changesOnly_trans (State.changesOnly_mono (causesRaised_frame s c) (by decide))
        (State.changesOnly_mono (bleedClose_frame (s.causesRaised c) c) (by decide)))
  have modules : j.modules = s.modules.mapIdx (s.judgeModule c) := rfl
  have config : j.config = s.config := jFrame .config (by decide)
  have staleIff (i : Nat) : j.staleCondition i = true ↔ stale i := staleCondition_iff j i
  have hardIff (i : Nat) : j.hardCells i = true ↔ hard i := hardCells_iff j i
  have hotIff (i : Nat) : j.hotModules c i ≠ [] ↔ hot i := by
    refine (hotModules_ne_nil_iff j c i).trans (exists_congr fun m => and_congr_right fun _ => and_congr_right fun _ => ?_)
    rw [show (j.moduleAt m).temps = (s.moduleAt m).temps from temps_closeJudged s c m]
    exact Iff.rfl
  have entry (i : Nat) : j.stringEntry i = s.stringEntry i := stringEntry_of_config config i
  have flags (g : Flag) : u.isLatched g = (s.causesRaised c).isLatched g := by
    rw [State.isLatched, show u.flags = (s.causesRaised c).flags from bleedClose_frame (s.causesRaised c) c .flags (by decide)]
    rfl
  have jFlags (g : Flag) : j.isLatched g = s.isLatched g := by
    rw [State.isLatched, show j.flags = s.flags from jFrame .flags (by decide)]
    rfl
  have latched (g : Flag) : u.isLatched g = true ↔ s.isLatched g = true ∨ ∃ i < 4, (s.stringEntry i).inUse = true ∧
      ((g = .cellHard ∧ hard i) ∨ (g = .tempHard ∧ hot i)) := by
    rw [flags, State.causesRaised, isLatched_closeCauses]
    refine or_congr (iff_of_eq (congrArg (· = true) (jFlags g))) (exists_congr fun i => ?_)
    rw [mem_stringsInUse, and_assoc]
    refine and_congr_right fun _ => and_congr (by rw [← entry i]; exact Iff.rfl) ?_
    exact or_congr (and_congr_right fun _ => hardIff i) (and_congr_right fun _ => hotIff i)
  have string (i : Nat) : u.stringAt i = (s.causesRaised c).stringAt i :=
    stringAt_of_strings (bleedClose_frame (s.causesRaised c) c .strings (by decide)) i
  have inUse {i : Nat} (hi : i < 4) (used : (s.stringEntry i).inUse = true) : i ∈ j.stringsInUse :=
    (mem_stringsInUse j i).mpr ⟨hi, (entry i).symm ▸ used⟩
  have heldIff (i : Nat) : (j.staleCondition i && (j.stringEntry i).stalePolicy == .string) = true ↔
      stale i ∧ (s.stringEntry i).stalePolicy = .string := by
    rw [Bool.and_eq_true, staleIff, beq_iff_eq, entry]
  refine ⟨rfl, rfl, ?_, fun m r t hr ht => ?_, fun i r hr => ?_, ?_, ?_, ?_, fun i hi used => ?_, ?_, uFrame⟩
  · rw [modules, List.length_mapIdx]
  · have eq : t = s.judgeModule c m r := by
      rw [modules, List.getElem?_mapIdx, hr] at ht
      exact (Option.some.inj ht).symm
    subst eq
    intro reporting silent
    refine ⟨judgeModule_kept s c m r, judgeModule_history s c m r, length_judgeModule s c m r, fun p k hk => ?_⟩
    have cells := cells_judgeModule hk s c m
    rw [closed_quieted] at cells
    exact cells
  · refine ⟨_, closeJudged_strings c hr, fun idle => ?_, fun used => ?_⟩
    · rw [idle]
      rfl
    · rw [used]
      intro reading temp
      have readingIff (v k : Nat) : (v, k) ∈ (s.judgeModules c).readings i ↔ reading v k := mem_readings (s.judgeModules c) i v k
      have vMax := vMax_iff (s.judgeModules c) i
      have vMin := vMin_iff (s.judgeModules c) i
      simp only [readingIff] at vMax vMin
      exact ⟨vMax, vMin, tMax_iff (s.judgeModules c) i, tMin_iff (s.judgeModules c) i⟩
  · refine (holdsCells_iff (s.judgeModules c)).trans (exists_congr fun i => and_congr_right fun _ => and_congr_right fun _ =>
      and_congr_right fun _ => ?_)
    exact staleIff i
  · simp only [latched, reduceCtorEq, false_and, or_false, true_and]
  · simp only [latched, reduceCtorEq, false_and, false_or, true_and]
  · intro held
    refine ⟨fun h => ?_, fun h => ?_, fun sound cool calm => ?_⟩
    · have out : (s.causesRaised c).outOfService i := by
        refine outOfService_closeCauses (inUse hi used) ?_
        exact h.imp (hardIff i).mpr fun h => h.imp (hotIff i).mpr (heldIff i).mpr
      rw [string]
      exact ⟨fun h => out (.inl h), fun h => out (.inr h)⟩
    · have away : ((s.causesRaised c).stringAt i).state.away :=
        away_closeCauses (inUse hi used) (h.imp (hardIff i).mpr (hotIff i).mpr)
      rw [string]
      exact away.2.2
    · rw [string]
      refine stringAt_closeCauses_of_sound fun _ => ⟨?_, ?_, ?_⟩
      · exact Bool.eq_false_iff.mpr fun h => sound ((hardIff i).mp h)
      · exact Classical.not_not.mp fun h => cool ((hotIff i).mp h)
      · exact Bool.eq_false_iff.mpr fun h => calm ((heldIff i).mp h)
  · have limits : u.limits = j.limits := (bleedClose_frame (s.causesRaised c) c .limits (by decide)).trans
      (causesRaised_frame s c .limits (by decide))
    exact limits

end Sys2Proof.Machine
end

section
/-! PROOF of O47: bleed masks, BLEED SET frames and charge calibrations at a close (R37 to R41, R50 to R53). -/

namespace Sys2Proof.Machine

variable {s t : State} {i : Nat}

/-! ### Calibration (R50 to R53) -/

/-- A charge record after its calibration at a close, by the latches that its quiet extremes reach (R51 to R53). -/
def ChargeRec.atClose (r : ChargeRec) (p : Params) (now : PartTime) (x : QuietExtremes) : ChargeRec :=
  (match r.fullArmed && decide (p.fullLevel ≤ x.vMax), r.emptyArmed && decide ((x.vMin : Int) ≤ p.emptyLevel) with
    | true, true => r
    | true, false => r.calibrated true now
    | false, true => r.calibrated false now
    | false, false => r).rearmed p x

theorem modCharge_strings (f : ChargeRec → ChargeRec) :
    (s.modCharge i f).strings = s.strings.modify i fun r => { r with charge := f r.charge } := rfl

theorem charge_modCharge (f : ChargeRec → ChargeRec) (h : i < s.strings.length) :
    ((s.modCharge i f).stringAt i).charge = f (s.stringAt i).charge :=
  congrArg StringRec.charge (stringAt_modify (modCharge_strings f) h)

theorem length_modCharge (f : ChargeRec → ChargeRec) : (s.modCharge i f).strings.length = s.strings.length :=
  List.length_modify ..

theorem charge_calibrate (x : QuietExtremes) (h : i < s.strings.length) :
    ((s.calibrate i x).stringAt i).charge = (s.stringAt i).charge.atClose s.params s.time x := by
  have raised (u : State) (k : NoticeKind) : ((u.raise k (some i)).stringAt i).charge = (u.stringAt i).charge :=
    congrArg StringRec.charge (stringAt_of_strings (raise_strings u k _) i)
  unfold State.calibrate ChargeRec.atClose
  dsimp only
  cases (s.stringAt i).charge.fullArmed && decide (s.params.fullLevel ≤ x.vMax) <;>
    cases (s.stringAt i).charge.emptyArmed && decide ((x.vMin : Int) ≤ s.params.emptyLevel)
  case false.false => exact charge_modCharge _ h
  case false.true =>
    refine (charge_modCharge _ (by rw [raise_strings, length_modCharge]; exact h)).trans ?_
    rw [raised, charge_modCharge _ h]
  case true.false =>
    refine (charge_modCharge _ (by rw [raise_strings, length_modCharge]; exact h)).trans ?_
    rw [raised, charge_modCharge _ h]
  case true.true =>
    refine (charge_modCharge _ (by rw [raise_strings]; exact h)).trans ?_
    rw [raised]

theorem calibrate_frame (s : State) (i : Nat) (x : QuietExtremes) :
    s.changesOnly (s.calibrate i x) [.strings, .notices, .counters] :=
  frame_of fun h => h.calibrate (List.Subset.refl _)

theorem calibrate_others (x : QuietExtremes) : (s.calibrate i x).strings.length = s.strings.length ∧
    ∀ j, j ≠ i → (s.calibrate i x).stringAt j = s.stringAt j := by
  have charged (u : State) (f : ChargeRec → ChargeRec) (same : u.strings.length = s.strings.length ∧
      ∀ j, j ≠ i → u.stringAt j = s.stringAt j) : (u.modCharge i f).strings.length = s.strings.length ∧
        ∀ j, j ≠ i → (u.modCharge i f).stringAt j = s.stringAt j :=
    ⟨(length_modCharge f).trans same.1, fun j other =>
      (stringAt_modify_other (modCharge_strings f) other).trans (same.2 j other)⟩
  have raised (u : State) (k : NoticeKind) (same : u.strings.length = s.strings.length ∧
      ∀ j, j ≠ i → u.stringAt j = s.stringAt j) : (u.raise k (some i)).strings.length = s.strings.length ∧
        ∀ j, j ≠ i → (u.raise k (some i)).stringAt j = s.stringAt j :=
    ⟨(congrArg List.length (raise_strings u k _)).trans same.1, fun j other =>
      (stringAt_of_strings (raise_strings u k _) j).trans (same.2 j other)⟩
  have own : s.strings.length = s.strings.length ∧ ∀ j, j ≠ i → s.stringAt j = s.stringAt j := ⟨rfl, fun _ _ => rfl⟩
  unfold State.calibrate
  dsimp only
  refine charged _ _ ?_
  split
  · exact raised _ _ own
  · exact raised _ _ (charged _ _ own)
  · exact raised _ _ (charged _ _ own)
  · exact own

theorem calibrateAll_frame (s : State) (c : CloseRecord) : s.changesOnly (s.calibrateAll c) [.strings, .notices, .counters] :=
  frame_of fun h => h.calibrateAll (List.Subset.refl _)

/-- The quiet voltages of a string's modules in the quiet-valid set (R50). -/
def State.quietOf (s : State) (valid : List Nat) (i : Nat) : List Nat :=
  (((s.modulesOf i).filter valid.contains).map fun m => (s.quietVoltages m).map (·.2)).flatten

theorem quietExtremes_eq (s : State) (valid : List Nat) (i : Nat) : s.quietExtremes valid i =
    match (s.quietOf valid i).max?, (s.quietOf valid i).min? with
    | some hi, some lo => some ⟨hi, lo, (s.modulesOf i).all valid.contains⟩
    | _, _ => none := by
  exact rfl

theorem mem_quietOf (s : State) (valid : List Nat) (i v : Nat) : v ∈ s.quietOf valid i ↔
    ∃ m ∈ (s.modulesOf i).filter (fun m => valid.contains m), ∃ q, (q, v) ∈ s.quietVoltages m := by
  rw [State.quietOf, List.mem_flatten]
  constructor
  · rintro ⟨l, hl, hv⟩
    obtain ⟨m, hm, rfl⟩ := List.mem_map.mp hl
    obtain ⟨⟨q, w⟩, hq, rfl⟩ := List.mem_map.mp hv
    exact ⟨m, hm, q, hq⟩
  · rintro ⟨m, hm, q, hq⟩
    exact ⟨_, List.mem_map.mpr ⟨m, hm, rfl⟩, List.mem_map.mpr ⟨(q, v), hq, rfl⟩⟩

theorem quietExtremes_of_none {valid : List Nat} (h : s.quietOf valid i = []) : s.quietExtremes valid i = none := by
  simp only [quietExtremes_eq, h, List.max?_nil]

theorem quietExtremes_of_some {valid : List Nat} {hi lo : Nat} (top : hi ∈ s.quietOf valid i) (low : lo ∈ s.quietOf valid i)
    (between : ∀ v ∈ s.quietOf valid i, lo ≤ v ∧ v ≤ hi) :
    s.quietExtremes valid i = some ⟨hi, lo, (s.modulesOf i).all valid.contains⟩ := by
  have max : (s.quietOf valid i).max? = some hi := List.max?_eq_some_iff.mpr ⟨top, fun v hv => (between v hv).2⟩
  have min : (s.quietOf valid i).min? = some lo := List.min?_eq_some_iff.mpr ⟨low, fun v hv => (between v hv).1⟩
  rw [quietExtremes_eq, max, min]

theorem quietExtremes_of_frame (h : s.changesOnly t [.strings, .notices, .counters]) (valid : List Nat) (i : Nat) :
    t.quietExtremes valid i = s.quietExtremes valid i := by
  have config : t.config = s.config := h .config (by decide)
  have modules : t.modules = s.modules := h .modules (by decide)
  have voltages (m : Nat) : t.quietVoltages m = s.quietVoltages m := by
    rw [State.quietVoltages, cellsOf_of_same (sameCells_of config modules), State.quietVoltages]
  unfold State.quietExtremes
  simp only [modulesOf_of_config config, voltages]

/-- One string's calibration at a close that is quiet usable (R51). -/
def State.calibrateOne (c : CloseRecord) (i : Nat) (s : State) : State :=
  match s.quietExtremes c.quietValid i with
  | some x => s.calibrate i x
  | none => s

theorem calibrateAll_of_usable {c : CloseRecord} (h : c.quietUsable = true) :
    s.calibrateAll c = s.forEach (List.range 4) (State.calibrateOne c) := if_pos h

/-- The charge record that the calibration of a string leaves. -/
def ChargeRec.byExtremes (r : ChargeRec) (p : Params) (now : PartTime) (x : Option QuietExtremes) : ChargeRec :=
  match x with
  | some x => r.atClose p now x
  | none => r

theorem charge_calibrateAll {c : CloseRecord} (usable : c.quietUsable = true) (hi : i < 4) (there : i < s.strings.length) :
    ((s.calibrateAll c).stringAt i).charge =
      (s.stringAt i).charge.byExtremes s.params s.time (s.quietExtremes c.quietValid i) := by
  rw [calibrateAll_of_usable usable]
  have framed (u : State) (j : Nat) : u.changesOnly (u.calibrateOne c j) [.strings, .notices, .counters] := by
    unfold State.calibrateOne
    split
    · exact calibrate_frame u j _
    · exact State.changesOnly_refl _ _
  have length (u : State) (j : Nat) : (u.calibrateOne c j).strings.length = u.strings.length := by
    unfold State.calibrateOne
    split
    · exact (calibrate_others _).1
    · rfl
  have once := forEach_once (m := i) (f := State.calibrateOne c) (view := fun u => (u.stringAt i).charge)
    (want := fun r => r.byExtremes s.params s.time (s.quietExtremes c.quietValid i))
    (Inv := fun u => s.changesOnly u [.strings, .notices, .counters] ∧ u.strings.length = s.strings.length)
    (fun j u h => ⟨State.changesOnly_trans h.1 (framed u j), (length u j).trans h.2⟩)
    (fun u h => by
      unfold State.calibrateOne
      rw [quietExtremes_of_frame h.1]
      cases s.quietExtremes c.quietValid i with
      | none => rfl
      | some x =>
        have params : u.params = s.params := congrArg (·.params) (h.1 .config (by decide))
        have time : u.time = s.time := h.1 .time (by decide)
        refine (charge_calibrate x (h.2 ▸ there)).trans ?_
        rw [params, time]
        rfl)
    (fun j u other _ => by
      unfold State.calibrateOne
      split
      · exact congrArg StringRec.charge ((calibrate_others _).2 i (Ne.symm other))
      · rfl)
    (List.nodup_range (n := 4)) ⟨State.changesOnly_refl _ _, rfl⟩
  exact once.trans (if_pos (List.mem_range.mpr hi))

theorem calibrationClauses (s : State) (c : CloseRecord) (i : Nat) (hi : i < 4) (there : i < s.strings.length) :
    let t := s.calibrateAll c
    let p := s.params
    let r := (s.stringAt i).charge
    let ms := (s.modulesOf i).filter fun m => c.quietValid.contains m
    let quiet := fun v => ∃ m ∈ ms, ∃ q, (q, v) ∈ s.quietVoltages m
    (c.quietUsable = false ∨ (∀ v, ¬quiet v) → (t.stringAt i).charge = r) ∧
    (∀ hi lo, c.quietUsable = true → quiet hi → quiet lo → (∀ v, quiet v → lo ≤ v ∧ v ≤ hi) →
      let full := r.fullArmed = true ∧ p.fullLevel ≤ hi
      let empty := r.emptyArmed = true ∧ (lo : Int) ≤ p.emptyLevel
      let whole := ms.length = (s.modulesOf i).length
      let k : ChargeRec :=
        if full ∧ ¬empty then { r with
          lastCalibration := some ⟨true, s.time, r.q⟩, q := r.qCap, soc := socOf r.qCap r.qCap
          fullArmed := false, uncalibrated := false }
        else if empty ∧ ¬full then { r with
          lastCalibration := some ⟨false, s.time, r.q⟩, q := 0, soc := socOf 0 r.qCap
          emptyArmed := false, uncalibrated := false }
        else r
      (t.stringAt i).charge = { k with
        fullArmed := k.fullArmed || decide (whole ∧ (hi : Int) ≤ min p.fullRearm (p.fullLevel - 1))
        emptyArmed := k.emptyArmed || decide (whole ∧ max p.emptyRearm (p.emptyLevel + 1) ≤ lo) }) ∧
    s.changesOnly t [.strings, .notices, .counters] := by
  intro t p r ms quiet
  have mem (v : Nat) : v ∈ s.quietOf c.quietValid i ↔ quiet v := mem_quietOf s c.quietValid i v
  refine ⟨fun none_ => ?_, fun hi' lo usable top low between => ?_, calibrateAll_frame s c⟩
  · cases usable : c.quietUsable with
    | false => exact congrArg (fun u : State => (u.stringAt i).charge) (if_neg (by rw [usable]; decide) : s.calibrateAll c = s)
    | true =>
      have silent : s.quietOf c.quietValid i = [] := by
        rcases none_ with h | h
        · exact nomatch h.symm.trans usable
        · exact List.eq_nil_iff_forall_not_mem.mpr fun v hv => h v ((mem v).mp hv)
      rw [charge_calibrateAll usable hi there, quietExtremes_of_none silent]
      rfl
  · intro full empty whole k
    have extremes := quietExtremes_of_some ((mem hi').mpr top) ((mem lo).mpr low) fun v hv => between v ((mem v).mp hv)
    have all : (s.modulesOf i).all c.quietValid.contains = decide whole := by
      rw [Bool.eq_iff_iff, List.all_eq_true, decide_eq_true_eq]
      exact List.length_filter_eq_length_iff.symm
    have kEq : k = match decide full, decide empty with
        | true, true => r
        | true, false => r.calibrated true s.time
        | false, true => r.calibrated false s.time
        | false, false => r := by
      by_cases f : full
      · by_cases e : empty
        · rw [decide_eq_true f, decide_eq_true e]
          exact (if_neg fun h => h.2 e).trans (if_neg fun h => h.2 f)
        · rw [decide_eq_true f, decide_eq_false e]
          exact if_pos ⟨f, e⟩
      · by_cases e : empty
        · rw [decide_eq_false f, decide_eq_true e]
          exact (if_neg fun h => f h.1).trans (if_pos ⟨e, f⟩)
        · rw [decide_eq_false f, decide_eq_false e]
          exact (if_neg fun h => f h.1).trans (if_neg fun h => e h.1)
    have fullEq : (r.fullArmed && decide (p.fullLevel ≤ hi')) = decide full := by
      rw [Bool.eq_iff_iff, Bool.and_eq_true, decide_eq_true_eq, decide_eq_true_eq]
    have emptyEq : (r.emptyArmed && decide ((lo : Int) ≤ p.emptyLevel)) = decide empty := by
      rw [Bool.eq_iff_iff, Bool.and_eq_true, decide_eq_true_eq, decide_eq_true_eq]
    have closed : r.atClose p s.time ⟨hi', lo, decide whole⟩ = k.rearmed p ⟨hi', lo, decide whole⟩ := by
      rw [kEq, ChargeRec.atClose, fullEq, emptyEq]
    rw [charge_calibrateAll usable hi there, extremes, all]
    refine (closed : ChargeRec.byExtremes r p s.time (some ⟨hi', lo, decide whole⟩) = _).trans ?_
    have both {P Q : Prop} [Decidable P] [Decidable Q] : (decide P && decide Q) = decide (P ∧ Q) := by
      rw [Bool.eq_iff_iff, Bool.and_eq_true, decide_eq_true_eq, decide_eq_true_eq, decide_eq_true_eq]
    rw [ChargeRec.rearmed, both, both]
    exact rfl

end Sys2Proof.Machine
end

section
/-! PROOF of O47, continued: the bleeding of a close (R38 to R41). -/

namespace Sys2Proof.Machine

variable {s t : State} {i m : Nat}

/-! ### A BLEED SET that is placed (R40) -/

/-- The BLEED SET with a module's present mask, to address `a`. -/
def State.bleedFrame (s : State) (m a : Nat) : Placed :=
  s.ownFrame kindBleedSet a (bleedSetPayload (s.moduleAt m).mask)

theorem placeBleedSet_of_unaddressed (h : s.addressOf .moduleMonitor m = none) : s.placeBleedSet m = s := by
  simp only [State.placeBleedSet, h]

theorem placeBleedSet_port {a : Nat} (h : s.addressOf .moduleMonitor m = some a) :
    (s.placeBleedSet m).fieldPort = (s.placeNormal (s.bleedFrame m a)).fieldPort := by
  simp only [State.placeBleedSet, h]
  split <;> rfl

theorem resend_placeBleedSet {a : Nat} (h : s.addressOf .moduleMonitor m = some a) (there : m < s.modules.length) :
    ((s.placeBleedSet m).moduleAt m).resend = !(s.fieldPort.admits (s.bleedFrame m a)) := by
  have length : (s.placeNormal (s.bleedFrame m a)).modules.length = s.modules.length :=
    congrArg List.length (placeNormal_frame s _ .modules (by decide))
  have marked := congrArg ModuleRec.resend (moduleAt_modModule_same (s := s.placeNormal (s.bleedFrame m a)) (m := m)
    (fun r => { r with resend := !(s.fieldPort.admits (s.bleedFrame m a)) }) (length ▸ there))
  simp only [State.placeBleedSet, h]
  split
  · exact marked
  · exact marked

theorem moduleAt_placeBleedSet_other {k : Nat} (other : k ≠ m) : (s.placeBleedSet m).moduleAt k = s.moduleAt k := by
  have placed : ∀ p, (s.placeNormal p).moduleAt k = s.moduleAt k := fun p =>
    moduleAt_of_modules (placeNormal_frame s p .modules (by decide)) k
  unfold State.placeBleedSet
  split
  · rfl
  · dsimp only
    split
    · exact (moduleAt_modModule_other _ other).trans (placed _)
    · exact (moduleAt_modModule_other _ other).trans (placed _)

theorem mem_placeNormal_of_admitted {p : Placed} (h : s.fieldPort.admits p = true) :
    p ∈ (s.placeNormal p).fieldPort.normal := by
  by_cases replaces : supersedable p.frame.kind = true ∧ s.fieldPort.normal.any p.matches = true
  · rw [placeNormal_of_replaces replaces]
    exact mem_replaceIn replaces.2
  · rw [placeNormal_of_joins replaces (((admits_iff ..).mp h).resolve_left replaces)]
    exact List.mem_append_right _ (List.mem_singleton_self p)

/-- A waiting frame that another placed does not match goes on waiting. -/
theorem mem_placeNormal_of_kept {p q : Placed} (h : q ∈ s.fieldPort.normal) (other : p.matches q = false) :
    q ∈ (s.placeNormal p).fieldPort.normal := by
  by_cases replaces : supersedable p.frame.kind = true ∧ s.fieldPort.normal.any p.matches = true
  · rw [placeNormal_of_replaces replaces]
    exact List.mem_map.mpr ⟨q, h, if_neg (by rw [other]; decide)⟩
  · by_cases free : s.fieldPort.normalUsed < 32
    · rw [placeNormal_of_joins replaces free]
      exact List.mem_append_left _ h
    · rw [placeNormal_of_refused replaces (Nat.not_lt.mp free)]
      exact h

/-- Kind and destination of a frame, by which it keeps its place. -/
def Placed.place (w : Placed) : Nat × Nat := (w.frame.kind, w.frame.dest)

/-- The NORMAL queue keeps its places, and what joins behind are BLEED SETs. -/
def State.growsTo (s t : State) : Prop := ∃ added, t.fieldPort.normal.map Placed.place = s.fieldPort.normal.map Placed.place ++ added ∧
  ∀ x ∈ added, x.1 = kindBleedSet

theorem growsTo_of_port (h : t.fieldPort = s.fieldPort) : s.growsTo t :=
  ⟨[], by rw [h, List.append_nil], fun _ h => absurd h List.not_mem_nil⟩

theorem growsTo_trans {u : State} (h : s.growsTo t) (k : t.growsTo u) : s.growsTo u := by
  obtain ⟨a, ha, bleedA⟩ := h
  obtain ⟨b, hb, bleedB⟩ := k
  refine ⟨a ++ b, by rw [hb, ha, List.append_assoc], fun x hx => ?_⟩
  exact (List.mem_append.mp hx).elim (bleedA x) (bleedB x)

theorem growsTo_placeNormal {p : Placed} (bleed : p.frame.kind = kindBleedSet) : s.growsTo (s.placeNormal p) := by
  by_cases replaces : supersedable p.frame.kind = true ∧ s.fieldPort.normal.any p.matches = true
  · refine ⟨[], ?_, fun _ h => absurd h List.not_mem_nil⟩
    rw [placeNormal_of_replaces replaces, List.append_nil]
    change (replaceIn p s.fieldPort.normal).map Placed.place = _
    rw [replaceIn, List.map_map]
    refine List.map_congr_left fun w _ => ?_
    rw [Function.comp_apply]
    split
    case isTrue same =>
      rw [Placed.matches, Bool.and_eq_true, beq_iff_eq, beq_iff_eq] at same
      exact Prod.ext same.1.symm same.2.symm
    case isFalse => rfl
  · by_cases free : s.fieldPort.normalUsed < 32
    · refine ⟨[p.place], ?_, fun x hx => ?_⟩
      · rw [placeNormal_of_joins replaces free]
        exact List.map_append ..
      · rw [List.mem_singleton.mp hx]
        exact bleed
    · rw [placeNormal_of_refused replaces (Nat.not_lt.mp free)]
      exact growsTo_of_port rfl

theorem growsTo_placeBleedSet (s : State) (m : Nat) : s.growsTo (s.placeBleedSet m) := by
  cases address : s.addressOf .moduleMonitor m with
  | none => rw [placeBleedSet_of_unaddressed address]; exact growsTo_of_port rfl
  | some a =>
    exact growsTo_trans (growsTo_placeNormal (p := s.bleedFrame m a) rfl)
      (growsTo_of_port (placeBleedSet_port address))

/-! ### One module served (R40) -/

/-- No other module has the monitor address of `m`. -/
def State.ownAddress (s : State) (m a : Nat) : Prop :=
  s.addressOf .moduleMonitor m = some a ∧ ∀ k, s.addressOf .moduleMonitor k = some a → k = m

/-- The mask of module `m` waits in a BLEED SET to it, unless its bleed resend is set. -/
def State.served (s : State) (m a : Nat) : Prop := (s.moduleAt m).resend = false → s.bleedFrame m a ∈ s.fieldPort.normal

theorem served_of {a : Nat} (modules : t.moduleAt m = s.moduleAt m) (sys : t.sys = s.sys)
    (port : s.bleedFrame m a ∈ s.fieldPort.normal → s.bleedFrame m a ∈ t.fieldPort.normal) (h : s.served m a) :
    t.served m a := by
  have frame : t.bleedFrame m a = s.bleedFrame m a := by
    rw [State.bleedFrame, modules, ownFrame_of_sys sys, State.bleedFrame]
  intro sent
  rw [modules] at sent
  rw [frame]
  exact port (h sent)

theorem served_placeBleedSet_same {a : Nat} (address : s.addressOf .moduleMonitor m = some a) (there : m < s.modules.length) :
    (s.placeBleedSet m).served m a := by
  intro sent
  rw [resend_placeBleedSet address there, Bool.not_eq_false'] at sent
  have frame : (s.placeBleedSet m).bleedFrame m a = s.bleedFrame m a := by
    rw [State.bleedFrame, mask_placeBleedSet, ownFrame_of_sys (placeBleedSet_frame s m .sys (by decide)), State.bleedFrame]
  rw [frame, placeBleedSet_port address]
  exact mem_placeNormal_of_admitted sent

theorem served_placeBleedSet {a k : Nat} (own : s.ownAddress m a) (there : m < s.modules.length) (h : s.served m a) :
    (s.placeBleedSet k).served m a := by
  by_cases here : k = m
  · subst here
    exact served_placeBleedSet_same own.1 there
  · refine served_of (moduleAt_placeBleedSet_other (Ne.symm here)) (placeBleedSet_frame s k .sys (by decide)) (fun mem => ?_) h
    cases address : s.addressOf .moduleMonitor k with
    | none => rwa [placeBleedSet_of_unaddressed address]
    | some b =>
      have apart : (s.bleedFrame k b).matches (s.bleedFrame m a) = false := by
        refine Bool.eq_false_iff.mpr fun same => here (own.2 k ?_)
        rw [Placed.matches, Bool.and_eq_true, beq_iff_eq, beq_iff_eq] at same
        exact address.trans (congrArg some same.2.symm)
      rw [placeBleedSet_port address]
      exact mem_placeNormal_of_kept mem apart

theorem ownAddress_of_config (h : t.config = s.config) {a : Nat} (own : s.ownAddress m a) : t.ownAddress m a :=
  ⟨(addressOf_of_config h _ _).trans own.1, fun k hk => own.2 k ((addressOf_of_config h _ _).symm.trans hk)⟩

/-! ### Clearings (R41) -/

theorem emptyMask_of_named {cleared : List Nat} (h : cleared.contains m = true ∧ (s.moduleAt m).mask ≠ []) :
    s.emptyMask cleared m = (s.modModule m fun r => { r with mask := [] }).placeBleedSet m :=
  if_pos (by rw [Bool.and_eq_true, Bool.not_eq_true', List.isEmpty_eq_false_iff]; exact h)

theorem emptyMask_of_kept {cleared : List Nat} (h : ¬(cleared.contains m = true ∧ (s.moduleAt m).mask ≠ [])) :
    s.emptyMask cleared m = s :=
  if_neg (by rw [Bool.and_eq_true, Bool.not_eq_true', List.isEmpty_eq_false_iff]; exact h)

/-- A clearing is that of its module, or the BLEED SET for bleed resend, or nothing (R40, R41). -/
theorem clearMask_cases (cleared : List Nat) (s : State) (m : Nat) :
    (s.clearMask cleared m = s.emptyMask cleared m ∧
      ((s.moduleAt m).resend = true → cleared.contains m = true ∧ (s.moduleAt m).mask ≠ [])) ∨
    (s.clearMask cleared m = s.placeBleedSet m ∧ ¬(cleared.contains m = true ∧ (s.moduleAt m).mask ≠ [])) := by
  by_cases named : cleared.contains m = true ∧ (s.moduleAt m).mask ≠ []
  · refine .inl ⟨?_, fun _ => named⟩
    rw [emptyMask_of_named named]
    exact if_pos (by rw [Bool.and_eq_true, Bool.not_eq_true', List.isEmpty_eq_false_iff]; exact named)
  · have first : s.clearMask cleared m = if (s.moduleAt m).resend then s.placeBleedSet m else s :=
      if_neg (by rw [Bool.and_eq_true, Bool.not_eq_true', List.isEmpty_eq_false_iff]; exact named)
    cases resend : (s.moduleAt m).resend with
    | true => exact .inr ⟨by rw [first, if_pos resend], named⟩
    | false =>
      refine .inl ⟨?_, nofun⟩
      rw [first, resend, emptyMask_of_kept named]
      rfl

/-- The mask of a module after a clearing of those named. -/
def clearedMask (cleared : List Nat) (m : Nat) (mask : List Nat) : List Nat := if cleared.contains m then [] else mask

theorem length_emptyMask (cleared : List Nat) (s : State) (k : Nat) :
    (s.emptyMask cleared k).modules.length = s.modules.length := by
  unfold State.emptyMask
  split
  · exact (length_placeBleedSet _ k).trans (List.length_modify ..)
  · rfl

theorem length_clearMask (cleared : List Nat) (s : State) (k : Nat) :
    (s.clearMask cleared k).modules.length = s.modules.length := by
  rcases clearMask_cases cleared s k with ⟨eq, -⟩ | ⟨eq, -⟩
  · rw [eq, length_emptyMask]
  · rw [eq, length_placeBleedSet]

theorem mask_emptyMask_same {cleared : List Nat} (there : m < s.modules.length) :
    ((s.emptyMask cleared m).moduleAt m).mask = clearedMask cleared m (s.moduleAt m).mask := by
  by_cases named : cleared.contains m = true ∧ (s.moduleAt m).mask ≠ []
  · rw [emptyMask_of_named named, mask_placeBleedSet, moduleAt_modModule_same _ there, clearedMask, if_pos named.1]
  · rw [emptyMask_of_kept named, clearedMask]
    split
    case isTrue h => exact Classical.not_not.mp fun some_ => named ⟨h, some_⟩
    case isFalse => rfl

theorem mask_emptyMask_other {cleared : List Nat} {k : Nat} (other : k ≠ m) :
    ((s.emptyMask cleared k).moduleAt m).mask = (s.moduleAt m).mask := by
  unfold State.emptyMask
  split
  · rw [mask_placeBleedSet, moduleAt_modModule_other _ (Ne.symm other)]
  · rfl

theorem mask_clearMask_same {cleared : List Nat} (there : m < s.modules.length) :
    ((s.clearMask cleared m).moduleAt m).mask = clearedMask cleared m (s.moduleAt m).mask := by
  rcases clearMask_cases cleared s m with ⟨eq, -⟩ | ⟨eq, named⟩
  · rw [eq, mask_emptyMask_same there]
  · rw [eq, mask_placeBleedSet, clearedMask]
    split
    case isTrue h => exact Classical.not_not.mp fun some_ => named ⟨h, some_⟩
    case isFalse => rfl

theorem mask_clearMask_other {cleared : List Nat} {k : Nat} (other : k ≠ m) :
    ((s.clearMask cleared k).moduleAt m).mask = (s.moduleAt m).mask := by
  rcases clearMask_cases cleared s k with ⟨eq, -⟩ | ⟨eq, -⟩
  · rw [eq, mask_emptyMask_other other]
  · rw [eq, mask_placeBleedSet]

/-- Each module is cleared once. -/
theorem mask_forEach {cleared : List Nat} {f : Nat → State → State} (hm : m < 48) (there : m < s.modules.length)
    (length : ∀ u k, (f k u).modules.length = u.modules.length)
    (same : ∀ u : State, m < u.modules.length → ((f m u).moduleAt m).mask = clearedMask cleared m (u.moduleAt m).mask)
    (other : ∀ (u : State) k, k ≠ m → ((f k u).moduleAt m).mask = (u.moduleAt m).mask) :
    ((s.forEach (List.range 48) f).moduleAt m).mask = clearedMask cleared m (s.moduleAt m).mask :=
  (forEach_once (m := m) (f := f) (view := fun u => (u.moduleAt m).mask) (want := clearedMask cleared m)
    (Inv := fun u => u.modules.length = s.modules.length) (fun k u h => (length u k).trans h)
    (fun u h => same u (h ▸ there)) (fun k u apart _ => other u k apart) (List.nodup_range (n := 48)) rfl).trans
      (if_pos (List.mem_range.mpr hm))

theorem emptyMask_frame (cleared : List Nat) (s : State) (k : Nat) :
    s.changesOnly (s.emptyMask cleared k) [.modules, .fieldPort, .counters] := by
  unfold State.emptyMask
  split
  · exact State.changesOnly_trans (State.changesOnly_mono (setModules_frame s _) (by decide)) (placeBleedSet_frame _ k)
  · exact State.changesOnly_refl _ _

theorem bare_emptyMask (cleared : List Nat) (k m : Nat) : ((s.emptyMask cleared k).moduleAt m).bare = (s.moduleAt m).bare := by
  unfold State.emptyMask
  split
  · exact (bare_placeBleedSet k m).trans (bare_setMask k m fun _ => [])
  · rfl

theorem growsTo_emptyMask (cleared : List Nat) (s : State) (k : Nat) : s.growsTo (s.emptyMask cleared k) := by
  unfold State.emptyMask
  split
  · exact growsTo_trans (growsTo_of_port rfl) (growsTo_placeBleedSet _ k)
  · exact growsTo_of_port rfl

theorem growsTo_clearMask (cleared : List Nat) (s : State) (k : Nat) : s.growsTo (s.clearMask cleared k) := by
  rcases clearMask_cases cleared s k with ⟨eq, -⟩ | ⟨eq, -⟩
  · rw [eq]; exact growsTo_emptyMask cleared s k
  · rw [eq]; exact growsTo_placeBleedSet s k

theorem growsTo_forEach {f : Nat → State → State} (h : ∀ k (u : State), u.growsTo (f k u)) (l : List Nat) (s : State) :
    s.growsTo (s.forEach l f) :=
  keeps_foldl (P := fun u => s.growsTo u) (fun u k hu => growsTo_trans hu (h k u)) (growsTo_of_port rfl)

theorem served_emptyMask {cleared : List Nat} {a k : Nat} (own : s.ownAddress m a) (there : m < s.modules.length)
    (h : s.served m a) : (s.emptyMask cleared k).served m a := by
  by_cases named : cleared.contains k = true ∧ (s.moduleAt k).mask ≠ []
  · let u := s.modModule k fun r => { r with mask := [] }
    have ownU : u.ownAddress m a := own
    have thereU : m < u.modules.length := lt_of_lt_of_eq there (List.length_modify ..).symm
    rw [emptyMask_of_named named]
    by_cases here : k = m
    · subst here
      exact served_placeBleedSet_same ownU.1 thereU
    · refine served_placeBleedSet ownU thereU (served_of (moduleAt_modModule_other _ (Ne.symm here)) rfl (fun mem => mem) h)
  · rwa [emptyMask_of_kept named]

/-! ### The decision of a quiet usable round (R38, R39) -/

/-- What a module of a string takes from one visit, from what the visits to other strings keep. -/
theorem forEach_visits {R Q : State → Prop} {f : Nat → State → State} {i : Nat} (here : ∀ s, R s → Q (f i s))
    (waits : ∀ j s, j ≠ i → R s → R (f j s)) (keeps : ∀ j s, j ≠ i → Q s → Q (f j s)) :
    ∀ {is : List Nat} {s : State}, is.Nodup → i ∈ is → R s → Q (s.forEach is f) := by
  intro is
  induction is with
  | nil => exact fun _ h => absurd h List.not_mem_nil
  | cons j is ih =>
    intro s nodup mem hs
    obtain ⟨away, rest⟩ := List.nodup_cons.mp nodup
    by_cases same : j = i
    · subst same
      have later : ∀ (l : List Nat) (u : State), j ∉ l → Q u → Q (u.forEach l f) := by
        intro l
        induction l with
        | nil => exact fun _ _ h => h
        | cons k l ihl =>
          intro u absent hu
          exact ihl (f k u) (fun h => absent (List.mem_cons_of_mem _ h))
            (keeps k u (fun eq => absent (eq ▸ List.mem_cons_self ..)) hu)
      exact later is (f j s) away (here s hs)
    · exact ih (s := f j s) rest ((List.mem_cons.mp mem).resolve_left (Ne.symm same)) (waits j s same hs)

/-- The modules of a string that a round's scope covers. -/
def State.inScope (s : State) (c : CloseRecord) (i : Nat) : List Nat := (s.modulesOf i).filter c.scope.covers

/-- The modules of a string that are eligible (R38). -/
def State.eligibleOf (s : State) (c : CloseRecord) (i : Nat) : List Nat :=
  if s.stringEligible i then (s.inScope c i).filter (s.moduleEligible c) else []

/-- The quiet voltages from which a string's reference is taken (R39). -/
def State.referenceVoltages (s : State) (c : CloseRecord) (i : Nat) : List Nat :=
  ((s.eligibleOf c i).map fun m => (s.quietVoltages m).map (·.2)).flatten

/-- The mask that a decision gives a module of string `i` (R39). -/
def State.newMask (s : State) (c : CloseRecord) (i m : Nat) : List Nat :=
  match (s.referenceVoltages c i).min? with
  | some v => if (s.eligibleOf c i).contains m then s.decidedMask v m else []
  | none => []

theorem balanceString_eq (s : State) (c : CloseRecord) (i : Nat) : s.balanceString c i =
    s.setModules (s.modules.mapIdx fun m r => if m ∈ s.inScope c i then { r with mask := s.newMask c i m } else r) := by
  have nodup : (s.inScope c i).Nodup := ((sorted_modulesOf s i).imp Nat.ne_of_lt).filter _
  exact forEach_modModule (fun m r => { r with mask := s.newMask c i m }) nodup

theorem moduleAt_balanceString (s : State) (c : CloseRecord) (i : Nat) (there : m < s.modules.length) :
    (s.balanceString c i).moduleAt m =
      if m ∈ s.inScope c i then { s.moduleAt m with mask := s.newMask c i m } else s.moduleAt m := by
  rw [balanceString_eq]
  simp only [State.moduleAt, State.setModules_modules, List.getD_eq_getElem?_getD, List.getElem?_mapIdx,
    List.getElem?_eq_getElem there, Option.map_some, Option.getD_some]

theorem balanceString_frame (s : State) (c : CloseRecord) (i : Nat) : s.changesOnly (s.balanceString c i) [.modules] := by
  rw [balanceString_eq]
  exact setModules_frame s _

theorem length_balanceString (s : State) (c : CloseRecord) (i : Nat) :
    (s.balanceString c i).modules.length = s.modules.length := by
  rw [balanceString_eq]
  exact List.length_mapIdx ..

theorem bare_balanceString (s : State) (c : CloseRecord) (i m : Nat) :
    ((s.balanceString c i).moduleAt m).bare = (s.moduleAt m).bare := by
  by_cases there : m < s.modules.length
  · rw [moduleAt_balanceString s c i there]
    split <;> rfl
  · rw [State.moduleAt, State.moduleAt, balanceString_eq]
    simp [there]

theorem mem_inScope (s : State) (c : CloseRecord) (i m : Nat) : m ∈ s.inScope c i ↔
    m / 12 = i ∧ s.moduleInUse m = true ∧ c.scope.covers m = true := by
  rw [State.inScope, List.mem_filter, mem_modulesOf, and_assoc]

/-- What the eligibility of modules rests on: all but what bleeding writes. -/
structure State.SameBut (s t : State) : Prop where
  frame : s.changesOnly t [.modules, .fieldPort, .counters]
  cells : ∀ k, (t.moduleAt k).bare = (s.moduleAt k).bare

/-- What the decision for one module rests on: its mask too. -/
structure State.SameFor (s t : State) (m : Nat) : Prop extends State.SameBut s t where
  mask : (t.moduleAt m).mask = (s.moduleAt m).mask

theorem State.SameBut.same (h : s.SameBut t) : s.sameCells t := ⟨h.frame .config (by decide), h.cells⟩

theorem quietVoltages_of_same (h : s.sameCells t) (k : Nat) : t.quietVoltages k = s.quietVoltages k := by
  rw [State.quietVoltages, cellsOf_of_same h, State.quietVoltages]

theorem modulesInUse_of_config (h : t.config = s.config) : t.modulesInUse = s.modulesInUse := by
  have used : t.moduleInUse = s.moduleInUse := funext fun m => by
    rw [State.moduleInUse, stringEntry_of_config h, State.moduleInUse]
  rw [State.modulesInUse, used, State.modulesInUse]

theorem zoneCool_of_same (h : s.sameCells t) (k : Nat) : t.zoneCool k = s.zoneCool k := by
  have field {β : Type} (view : ModuleRec → β) (blind : ∀ r : ModuleRec, view r = view r.bare) (k : Nat) :
      view (t.moduleAt k) = view (s.moduleAt k) := by
    rw [blind, h.2, ← blind]
  have temp (z : Nat) : t.zoneTemp z = s.zoneTemp z := by
    rw [State.zoneTemp, modulesInUse_of_config h.1, State.zoneTemp]
    congr 1
    refine congrArg (List.filterMap · s.modulesInUse) (funext fun k => ?_)
    exact field (fun r => if r.zone == z && r.quality == .fresh then maxTemp r.temps else none) (fun _ => rfl) k
  have params : t.params = s.params := congrArg (·.params) h.1
  rw [State.zoneCool, temp, params, field ModuleRec.zone (fun _ => rfl), State.zoneCool]

theorem stringEligible_of_frame (h : s.changesOnly t [.modules, .fieldPort, .counters]) (i : Nat) :
    t.stringEligible i = s.stringEligible i := by
  have params : t.params = s.params := congrArg (·.params) (h .config (by decide))
  have supply : t.supply = s.supply := h .supply (by decide)
  have fire : t.fire = s.fire := h .fire (by decide)
  rw [State.stringEligible, stringAt_of_strings (h .strings (by decide)), params, supply, State.anyPreAlarm, fire]
  rfl

theorem eligibleOf_of_same (h : s.SameBut t) (c : CloseRecord) (i : Nat) : t.eligibleOf c i = s.eligibleOf c i := by
  have scope : t.inScope c i = s.inScope c i := by
    rw [State.inScope, modulesOf_of_config h.same.1, State.inScope]
  have eligible : t.moduleEligible c = s.moduleEligible c := funext fun k => by
    have quality : (t.moduleAt k).quality = (s.moduleAt k).quality := (congrArg ModuleRec.quality (h.cells k) :)
    rw [State.moduleEligible, quality, zoneCool_of_same h.same, State.moduleEligible]
  rw [State.eligibleOf, scope, eligible, stringEligible_of_frame h.frame, State.eligibleOf]

theorem referenceVoltages_of_same (h : s.SameBut t) (c : CloseRecord) (i : Nat) :
    t.referenceVoltages c i = s.referenceVoltages c i := by
  rw [State.referenceVoltages, eligibleOf_of_same h, State.referenceVoltages]
  simp only [quietVoltages_of_same h.same]

theorem newMask_of_same (h : s.SameBut t) (c : CloseRecord) (i : Nat)
    (mask : (s.eligibleOf c i).contains m = true → (t.moduleAt m).mask = (s.moduleAt m).mask) :
    t.newMask c i m = s.newMask c i m := by
  have params : t.params = s.params := congrArg (·.params) h.same.1
  rw [State.newMask, referenceVoltages_of_same h, eligibleOf_of_same h, State.newMask]
  by_cases eligible : (s.eligibleOf c i).contains m = true
  · have decided (v : Nat) : t.decidedMask v m = s.decidedMask v m := by
      rw [State.decidedMask, mask eligible, params, quietVoltages_of_same h.same, State.decidedMask]
    simp only [decided]
  · simp only [if_neg eligible]

/-- All strings in use decide, each once. -/
theorem mask_balanceStrings {c : CloseRecord} (there : m < s.modules.length) {l : List Nat} (nodup : l.Nodup) :
    ((s.forEach l (State.balanceString c)).moduleAt m).mask =
      if m / 12 ∈ l ∧ m ∈ s.inScope c (m / 12) then s.newMask c (m / 12) m else (s.moduleAt m).mask := by
  have scope {u : State} (config : u.config = s.config) (j : Nat) : u.inScope c j = s.inScope c j := by
    rw [State.inScope, modulesOf_of_config config, State.inScope]
  have stays (u : State) (j : Nat) (h : s.SameFor u m) (length : u.modules.length = s.modules.length)
      (outside : m ∉ s.inScope c j) : s.SameFor (u.balanceString c j) m := by
    refine ⟨⟨State.changesOnly_trans h.frame (State.changesOnly_mono (balanceString_frame u c j) (by decide)),
      fun k => (bare_balanceString u c j k).trans (h.cells k)⟩, ?_⟩
    rw [moduleAt_balanceString u c j (length ▸ there), scope h.same.1, if_neg outside, h.mask]
  have start : s.SameFor s m := ⟨⟨State.changesOnly_refl _ _, fun _ => rfl⟩, rfl⟩
  have elsewhere {j : Nat} (other : j ≠ m / 12) : m ∉ s.inScope c j := fun mem => other ((mem_inScope s c j m).mp mem).1.symm
  split
  case isTrue decided =>
    refine forEach_visits (i := m / 12)
      (R := fun u => s.SameFor u m ∧ u.modules.length = s.modules.length)
      (Q := fun u => u.config = s.config ∧ u.modules.length = s.modules.length ∧
        (u.moduleAt m).mask = s.newMask c (m / 12) m) ?_ ?_ ?_ nodup decided.1 ⟨start, rfl⟩ |>.2.2
    · intro u ⟨h, length⟩
      refine ⟨(balanceString_frame u c _ .config (by decide)).trans h.same.1, (length_balanceString u c _).trans length, ?_⟩
      rw [moduleAt_balanceString u c _ (length ▸ there), scope h.same.1, if_pos decided.2, newMask_of_same h.toSameBut c _ fun _ => h.mask]
    · exact fun j u other ⟨h, length⟩ => ⟨stays u j h length (elsewhere other), (length_balanceString u c j).trans length⟩
    · intro j u other ⟨config, length, mask⟩
      refine ⟨(balanceString_frame u c _ .config (by decide)).trans config, (length_balanceString u c _).trans length, ?_⟩
      rw [moduleAt_balanceString u c _ (length ▸ there), scope config, if_neg (elsewhere other), mask]
  case isFalse outside =>
    have kept : ∀ (is : List Nat) (u : State), is ⊆ l → s.SameFor u m → u.modules.length = s.modules.length →
        s.SameFor (u.forEach is (State.balanceString c)) m := by
      intro is
      induction is with
      | nil => exact fun _ _ h _ => h
      | cons j is ih =>
        intro u sub h length
        obtain ⟨hj, his⟩ := List.cons_subset.mp sub
        refine ih (u.balanceString c j) his (stays u j h length fun mem => outside ?_) ((length_balanceString u c j).trans length)
        have here := ((mem_inScope s c j m).mp mem).1
        subst here
        exact ⟨hj, mem⟩
    exact (kept l s (List.Subset.refl l) start rfl).mask

end Sys2Proof.Machine
end

section
/-! PROOF of O47, concluded: the masks and frames that a close leaves (R38 to R41). -/

namespace Sys2Proof.Machine

variable {s t : State} {i m : Nat}

/-! ### The eligible modules and their masks (R38, R39) -/

theorem zoneCool_iff (s : State) (k : Nat) : s.zoneCool k = true ↔
    ∃ x, s.zoneTemp (s.moduleAt k).zone = some x ∧ x < s.params.balanceTempLimit := by
  rw [State.zoneCool, Option.any_eq_true]
  simp only [decide_eq_true_eq, Option.mem_def]

theorem stringEligible_iff (s : State) (i : Nat) : s.stringEligible i = true ↔
    ((s.stringAt i).state = .inService ∨ (s.stringAt i).state = .isolated) ∧
      (∃ x, (s.stringAt i).current = some x ∧ x.natAbs ≤ s.params.balanceCurrentLimit) ∧ s.supply.mode = .normal ∧
      ∀ z ∈ s.fire.zones, z.stage ≠ .preAlarm ∧ z.stage.confirmed = false := by
  have calm : (!s.anyPreAlarm) = true ↔ ∀ z ∈ s.fire.zones, z.stage ≠ .preAlarm ∧ z.stage.confirmed = false := by
    rw [Bool.not_eq_true', ← Bool.not_eq_true, anyPreAlarm_iff]
    simp only [not_exists, not_and, not_or, Bool.not_eq_true]
  simp only [State.stringEligible, Bool.and_eq_true, Bool.or_eq_true, beq_iff_eq, calm, Option.any_eq_true, decide_eq_true_eq,
    Option.mem_def, and_assoc]

theorem mem_eligibleOf (s : State) (c : CloseRecord) (i k : Nat) : k ∈ s.eligibleOf c i ↔
    (((s.stringAt i).state = .inService ∨ (s.stringAt i).state = .isolated) ∧
      (∃ x, (s.stringAt i).current = some x ∧ x.natAbs ≤ s.params.balanceCurrentLimit) ∧ s.supply.mode = .normal ∧
      ∀ z ∈ s.fire.zones, z.stage ≠ .preAlarm ∧ z.stage.confirmed = false) ∧
    k ∈ s.modulesOf i ∧ c.scope.covers k = true ∧ (s.moduleAt k).quality = .fresh ∧ k ∈ c.quietValid ∧
      ∃ x, s.zoneTemp (s.moduleAt k).zone = some x ∧ x < s.params.balanceTempLimit := by
  rw [← stringEligible_iff, ← zoneCool_iff, State.eligibleOf]
  cases fit : s.stringEligible i with
  | false => exact ⟨fun h => absurd h List.not_mem_nil, fun h => nomatch h.1⟩
  | true =>
    rw [if_pos rfl, List.mem_filter, State.inScope, List.mem_filter, State.moduleEligible]
    simp only [Bool.and_eq_true, beq_iff_eq, List.contains_iff_mem]
    constructor
    · rintro ⟨⟨of, covers⟩, ⟨⟨_, fresh⟩, valid⟩, cool⟩
      exact ⟨trivial, of, covers, fresh, valid, cool⟩
    · rintro ⟨_, of, covers, fresh, valid, cool⟩
      exact ⟨⟨of, covers⟩, ⟨⟨covers, fresh⟩, valid⟩, cool⟩

theorem mem_quietVoltages (s : State) (m q v : Nat) : (q, v) ∈ s.quietVoltages m ↔
    q < 16 ∧ q < (s.stringEntry (m / 12)).cells ∧ ∃ k, (s.moduleAt m).cells[q]? = some k ∧ k.quiet = some v := by
  rw [State.quietVoltages, List.mem_filterMap]
  constructor
  · rintro ⟨⟨p, k⟩, hk, eq⟩
    obtain ⟨w, quiet, pair⟩ := Option.map_eq_some_iff.mp eq
    obtain ⟨rfl, rfl⟩ := Prod.mk.inj pair
    obtain ⟨range, low, cell⟩ := (mem_cellsOf m p k).mp hk
    exact ⟨range, low, k, cell, quiet⟩
  · rintro ⟨range, low, k, cell, quiet⟩
    refine ⟨(q, k), (mem_cellsOf m q k).mpr ⟨range, low, cell⟩, ?_⟩
    dsimp only
    rw [quiet]
    rfl

theorem mem_referenceVoltages (s : State) (c : CloseRecord) (i v : Nat) : v ∈ s.referenceVoltages c i ↔
    ∃ k ∈ s.eligibleOf c i, ∃ q, (q, v) ∈ s.quietVoltages k := by
  rw [State.referenceVoltages, List.mem_flatten]
  constructor
  · rintro ⟨l, hl, hv⟩
    obtain ⟨k, hk, rfl⟩ := List.mem_map.mp hl
    obtain ⟨⟨q, w⟩, hq, rfl⟩ := List.mem_map.mp hv
    exact ⟨k, hk, q, hq⟩
  · rintro ⟨k, hk, q, hq⟩
    exact ⟨_, List.mem_map.mpr ⟨k, hk, rfl⟩, List.mem_map.mpr ⟨(q, v), hq, rfl⟩⟩

theorem newMask_of_none {c : CloseRecord} (h : m ∉ s.eligibleOf c i ∨ s.referenceVoltages c i = []) : s.newMask c i m = [] := by
  rcases h with outside | none_
  · have no : ¬(s.eligibleOf c i).contains m = true := fun h => outside (List.contains_iff_mem.mp h)
    rw [State.newMask]
    split
    · exact if_neg no
    · rfl
  · simp only [State.newMask, none_, List.min?_nil]

theorem newMask_of_reference {c : CloseRecord} {reference : Nat} (eligible : m ∈ s.eligibleOf c i)
    (mem : reference ∈ s.referenceVoltages c i) (least : ∀ v ∈ s.referenceVoltages c i, reference ≤ v) :
    s.newMask c i m = s.decidedMask reference m := by
  have min : (s.referenceVoltages c i).min? = some reference := List.min?_eq_some_iff.mpr ⟨mem, least⟩
  simp only [State.newMask, min, if_pos (List.contains_iff_mem.mpr eligible)]

theorem decidedMask_eq (s : State) (reference m : Nat) :
    let p := s.params
    let wanted := (s.quietVoltages m).filter fun x => decide (reference + p.onDelta ≤ x.2 ∨
      (x.1 ∈ (s.moduleAt m).mask ∧ reference + min p.offDelta (p.onDelta - 1) < x.2))
    s.decidedMask reference m = (wanted.filter fun x =>
      decide ((wanted.filter fun y => decide (x.2 < y.2 ∨ (y.2 = x.2 ∧ y.1 < x.1))).length < p.maxBleed)).map (·.1) := by
  intro p wanted
  have chosen : (s.quietVoltages m).filter (fun x => decide (reference + p.onDelta ≤ x.2) ||
      ((s.moduleAt m).mask.contains x.1 && decide (reference + min p.offDelta (p.onDelta - 1) < x.2))) = wanted :=
    List.filter_congr fun x _ => by
      rw [Bool.eq_iff_iff]
      simp only [Bool.or_eq_true, Bool.and_eq_true, decide_eq_true_eq, List.contains_iff_mem]
  have eq : s.decidedMask reference m = keepHighest p.maxBleed ((s.quietVoltages m).filter fun x =>
    decide (reference + p.onDelta ≤ x.2) ||
      ((s.moduleAt m).mask.contains x.1 && decide (reference + min p.offDelta (p.onDelta - 1) < x.2))) := rfl
  rw [eq, chosen, keepHighest]
  refine congrArg (List.map _) (List.filter_congr fun x _ => ?_)
  have beaten : wanted.filter (fun y => decide (x.2 < y.2) || (y.2 == x.2 && decide (y.1 < x.1))) =
      wanted.filter fun y => decide (x.2 < y.2 ∨ (y.2 = x.2 ∧ y.1 < x.1)) := List.filter_congr fun y _ => by
    rw [Bool.eq_iff_iff]
    simp only [Bool.or_eq_true, Bool.and_eq_true, decide_eq_true_eq, beq_iff_eq]
  rw [beaten]

/-! ### The parts of bleeding at a close (R39 to R41) -/

/-- After a quiet round: every mask cleared that a close clears. -/
def State.bleedEmptied (s : State) : State := s.forEach (List.range 48) (State.emptyMask s.clearedAtClose)

/-- After a quiet round: the decisions made. -/
def State.bleedDecided (s : State) (c : CloseRecord) : State :=
  if c.quietUsable then s.bleedEmptied.forEach s.bleedEmptied.stringsInUse (State.balanceString c) else s.bleedEmptied

/-- The modules that get a BLEED SET after a quiet round. -/
def State.bleedTargets (s : State) : List Nat := (List.range 48).filter fun m => s.moduleInUse m || (s.moduleAt m).resend

theorem bleedClose_of_quiet {c : CloseRecord} (h : c.quiet = true) :
    s.bleedClose c = (s.bleedDecided c).forEach (s.bleedDecided c).bleedTargets State.placeBleedSet := if_pos h

theorem bleedClose_of_plain {c : CloseRecord} (h : c.quiet = false) :
    s.bleedClose c = s.forEach (List.range 48) (State.clearMask s.clearedAtClose) :=
  if_neg (by rw [h]; decide)

theorem mem_clearedAtClose (s : State) (hm : m < 48) : s.clearedAtClose.contains m = true ↔
    (s.moduleAt m).quality = .stale ∨ ¬∃ x, s.zoneTemp (s.moduleAt m).zone = some x ∧ x < s.params.balanceTempLimit := by
  rw [List.contains_iff_mem, State.clearedAtClose, List.mem_filter, List.mem_range, Bool.or_eq_true, beq_iff_eq, ← zoneCool_iff,
    Bool.not_eq_true', Bool.not_eq_true]
  exact and_iff_right hm

theorem mask_bleedEmptied (hm : m < 48) (there : m < s.modules.length) :
    (s.bleedEmptied.moduleAt m).mask = clearedMask s.clearedAtClose m (s.moduleAt m).mask :=
  mask_forEach hm there (fun u k => length_emptyMask _ u k) (fun _ h => mask_emptyMask_same h)
    fun _ _ other => mask_emptyMask_other other

theorem length_forEach {f : Nat → State → State} (h : ∀ k (u : State), (f k u).modules.length = u.modules.length)
    (l : List Nat) (s : State) : (s.forEach l f).modules.length = s.modules.length :=
  keeps_foldl (P := fun u : State => u.modules.length = s.modules.length) (fun u k hu => (h k u).trans hu) rfl

theorem frame_forEach {f : Nat → State → State} {L : List Part} (h : ∀ k (u : State), u.changesOnly (f k u) L)
    (l : List Nat) (s : State) : s.changesOnly (s.forEach l f) L :=
  keeps_foldl (P := fun u => s.changesOnly u L) (fun u k hu => State.changesOnly_trans hu (h k u)) (State.changesOnly_refl _ _)

theorem length_bleedEmptied (s : State) : s.bleedEmptied.modules.length = s.modules.length :=
  length_forEach (fun k u => length_emptyMask _ u k) _ s

theorem sameBut_bleedEmptied (s : State) : s.SameBut s.bleedEmptied :=
  ⟨frame_forEach (fun k u => emptyMask_frame _ u k) _ s, bare_forEach (fun k u n => bare_emptyMask (s := u) _ k n) _ s⟩

theorem sameBut_bleedDecided (s : State) (c : CloseRecord) : s.SameBut (s.bleedDecided c) := by
  have emptied := sameBut_bleedEmptied s
  unfold State.bleedDecided
  split
  · exact ⟨State.changesOnly_trans emptied.frame
      (State.changesOnly_mono (frame_forEach (fun k u => balanceString_frame u c k) _ _) (by decide)),
      fun k => (bare_forEach (fun j u n => bare_balanceString u c j n) _ _ k).trans (emptied.cells k)⟩
  · exact emptied

theorem length_bleedDecided (s : State) (c : CloseRecord) : (s.bleedDecided c).modules.length = s.modules.length := by
  unfold State.bleedDecided
  split
  · exact (length_forEach (fun k u => length_balanceString u c k) _ _).trans (length_bleedEmptied s)
  · exact length_bleedEmptied s

/-- Whether the decision of a close covers module `m` (R39). -/
def State.decides (s : State) (c : CloseRecord) (m : Nat) : Prop :=
  c.quiet = true ∧ c.quietUsable = true ∧ s.moduleInUse m = true ∧ c.scope.covers m = true

theorem mem_decided (s : State) (c : CloseRecord) (hm : m < 48) :
    (m / 12 ∈ s.stringsInUse ∧ m ∈ s.inScope c (m / 12)) ↔ s.moduleInUse m = true ∧ c.scope.covers m = true := by
  rw [mem_stringsInUse, mem_inScope]
  constructor
  · exact fun h => h.2.2
  · intro h
    have used : (s.stringEntry (m / 12)).inUse = true := (Bool.and_eq_true_iff.mp h.1).1
    exact ⟨⟨by omega, used⟩, rfl, h⟩

theorem newMask_bleedEmptied {c : CloseRecord} (hm : m < 48) (there : m < s.modules.length) :
    s.bleedEmptied.newMask c (m / 12) m = s.newMask c (m / 12) m := by
  refine newMask_of_same (sameBut_bleedEmptied s) c _ fun eligible => ?_
  have free : ¬s.clearedAtClose.contains m = true := by
    rw [mem_clearedAtClose s hm]
    obtain ⟨-, -, -, fresh, -, cool⟩ := (mem_eligibleOf s c _ m).mp (List.contains_iff_mem.mp eligible)
    rintro (stale | warm)
    · exact nomatch fresh.symm.trans stale
    · exact warm cool
  rw [mask_bleedEmptied hm there, clearedMask, if_neg free]

theorem mask_bleedDecided {c : CloseRecord} (quiet : c.quiet = true) (hm : m < 48) (there : m < s.modules.length) :
    (s.decides c m → ((s.bleedDecided c).moduleAt m).mask = s.newMask c (m / 12) m) ∧
    (¬s.decides c m → ((s.bleedDecided c).moduleAt m).mask = clearedMask s.clearedAtClose m (s.moduleAt m).mask) := by
  have config : s.bleedEmptied.config = s.config := (sameBut_bleedEmptied s).frame .config (by decide)
  have used : s.bleedEmptied.moduleInUse m = s.moduleInUse m := by
    rw [State.moduleInUse, stringEntry_of_config config, State.moduleInUse]
  have decided := mem_decided s.bleedEmptied c hm
  rw [used] at decided
  have nodup : s.bleedEmptied.stringsInUse.Nodup := nodup_filter_range _ _
  have masks := mask_balanceStrings (s := s.bleedEmptied) (c := c) ((length_bleedEmptied s).symm ▸ there) nodup
  unfold State.bleedDecided
  constructor
  · rintro ⟨-, usable, member⟩
    rw [if_pos usable, masks, if_pos (decided.mpr member), newMask_bleedEmptied hm there]
  · intro free
    split
    case isTrue usable =>
      rw [masks, if_neg fun h => free ⟨quiet, usable, decided.mp h⟩, mask_bleedEmptied hm there]
    case isFalse => exact mask_bleedEmptied hm there

theorem mask_bleedClose {c : CloseRecord} (hm : m < 48) (there : m < s.modules.length) :
    (s.decides c m → ((s.bleedClose c).moduleAt m).mask = s.newMask c (m / 12) m) ∧
    (¬s.decides c m → ((s.bleedClose c).moduleAt m).mask = clearedMask s.clearedAtClose m (s.moduleAt m).mask) := by
  cases quiet : c.quiet with
  | true =>
    have placed : ((s.bleedClose c).moduleAt m).mask = ((s.bleedDecided c).moduleAt m).mask := by
      rw [bleedClose_of_quiet quiet]
      exact keeps_foldl (P := fun u : State => (u.moduleAt m).mask = ((s.bleedDecided c).moduleAt m).mask)
        (fun u k h => (mask_placeBleedSet k m).trans h) rfl
    rw [placed]
    exact mask_bleedDecided quiet hm there
  | false =>
    refine ⟨fun h => (nomatch quiet.symm.trans h.1), fun _ => ?_⟩
    rw [bleedClose_of_plain quiet]
    exact mask_forEach hm there (fun u k => length_clearMask _ u k) (fun _ h => mask_clearMask_same h)
      fun _ _ other => mask_clearMask_other other

theorem bare_bleedClose (s : State) (c : CloseRecord) (k : Nat) : ((s.bleedClose c).moduleAt k).bare = (s.moduleAt k).bare := by
  cases quiet : c.quiet with
  | true =>
    rw [bleedClose_of_quiet quiet]
    exact (bare_forEach (fun j u n => bare_placeBleedSet (s := u) j n) _ _ k).trans ((sameBut_bleedDecided s c).cells k)
  | false =>
    rw [bleedClose_of_plain quiet]
    exact bare_forEach (fun j u n => bare_clearMask (s := u) _ j n) _ s k

theorem growsTo_bleedClose (s : State) (c : CloseRecord) : s.growsTo (s.bleedClose c) := by
  cases quiet : c.quiet with
  | true =>
    have emptied : s.growsTo s.bleedEmptied := growsTo_forEach (fun k u => growsTo_emptyMask _ u k) _ s
    have decided : s.growsTo (s.bleedDecided c) := by
      unfold State.bleedDecided
      split
      · exact growsTo_trans emptied (growsTo_of_port
          (frame_forEach (fun k u => balanceString_frame u c k) _ _ .fieldPort (by decide)))
      · exact emptied
    rw [bleedClose_of_quiet quiet]
    exact growsTo_trans decided (growsTo_forEach (fun k u => growsTo_placeBleedSet u k) _ _)
  | false =>
    rw [bleedClose_of_plain quiet]
    exact growsTo_forEach (fun k u => growsTo_clearMask _ u k) _ s

/-! ### BLEED SETs (R40) -/

/-- What keeps a module served through a run of placements. -/
def State.serving (s : State) (m a : Nat) : Prop := s.ownAddress m a ∧ m < s.modules.length ∧ s.served m a

theorem serving_placeBleedSet {a k : Nat} (h : s.serving m a) : (s.placeBleedSet k).serving m a :=
  ⟨ownAddress_of_config (placeBleedSet_frame s k .config (by decide)) h.1, (length_placeBleedSet s k).symm ▸ h.2.1,
    served_placeBleedSet h.1 h.2.1 h.2.2⟩

theorem serving_emptyMask {cleared : List Nat} {a k : Nat} (h : s.serving m a) : (s.emptyMask cleared k).serving m a :=
  ⟨ownAddress_of_config (emptyMask_frame cleared s k .config (by decide)) h.1, (length_emptyMask cleared s k).symm ▸ h.2.1,
    served_emptyMask h.1 h.2.1 h.2.2⟩

theorem serving_clearMask {cleared : List Nat} {a k : Nat} (h : s.serving m a) : (s.clearMask cleared k).serving m a := by
  rcases clearMask_cases cleared s k with ⟨eq, -⟩ | ⟨eq, -⟩
  · rw [eq]; exact serving_emptyMask h
  · rw [eq]; exact serving_placeBleedSet h

theorem serving_forEach {a : Nat} {f : Nat → State → State} (h : ∀ k (u : State), u.serving m a → (f k u).serving m a)
    (l : List Nat) (hs : s.serving m a) : (s.forEach l f).serving m a :=
  keeps_foldl (P := fun u => u.serving m a) (fun u k hu => h k u hu) hs

/-- A module not in use takes no decision. -/
theorem serving_bleedDecided {c : CloseRecord} {a : Nat} (idle : ¬s.moduleInUse m = true) (h : s.serving m a) :
    (s.bleedDecided c).serving m a := by
  have emptied : s.bleedEmptied.serving m a := serving_forEach (fun _ _ => serving_emptyMask) _ h
  have config : s.bleedEmptied.config = s.config := (sameBut_bleedEmptied s).frame .config (by decide)
  unfold State.bleedDecided
  split
  · refine (keeps_foldl (P := fun u : State => u.config = s.config ∧ u.serving m a) (fun u k hu => ?_) ⟨config, emptied⟩ :
      _ ∧ (s.bleedEmptied.forEach s.bleedEmptied.stringsInUse (State.balanceString c)).serving m a).2
    have frame := balanceString_frame u c k
    have outside : m ∉ u.inScope c k := fun mem => idle (by
      have used := ((mem_inScope u c k m).mp mem).2.1
      rwa [State.moduleInUse, stringEntry_of_config hu.1, ← State.moduleInUse] at used)
    refine ⟨(frame .config (by decide)).trans hu.1, ownAddress_of_config (frame .config (by decide)) hu.2.1,
      (length_balanceString u c k).symm ▸ hu.2.2.1, served_of ?_ (frame .sys (by decide)) (fun mem => ?_) hu.2.2.2⟩
    · rw [moduleAt_balanceString u c k hu.2.2.1, if_neg outside]
    · rw [show (u.balanceString c k).fieldPort = u.fieldPort from frame .fieldPort (by decide)]
      exact mem
  · exact emptied

theorem served_bleedClose {c : CloseRecord} {a : Nat} (own : s.ownAddress m a) (hm : m < 48) (there : m < s.modules.length)
    (need : if c.quiet = true then s.moduleInUse m = true ∨ (s.moduleAt m).resend = true
      else (s.clearedAtClose.contains m = true ∧ (s.moduleAt m).mask ≠ []) ∨ (s.moduleAt m).resend = true) :
    (s.bleedClose c).served m a := by
  have waits (resend : (s.moduleAt m).resend = true) : s.serving m a :=
    ⟨own, there, fun sent => nomatch resend.symm.trans sent⟩
  cases quiet : c.quiet with
  | true =>
    rw [if_pos quiet] at need
    rw [bleedClose_of_quiet quiet]
    have frame := (sameBut_bleedDecided s c).frame
    by_cases used : s.moduleInUse m = true
    · have target : m ∈ (s.bleedDecided c).bleedTargets := by
        have used' : (s.bleedDecided c).moduleInUse m = true := by
          rwa [State.moduleInUse, stringEntry_of_config (frame .config (by decide)), ← State.moduleInUse]
        rw [State.bleedTargets, List.mem_filter, List.mem_range, used']
        exact ⟨hm, rfl⟩
      refine (forEach_reaches (R := fun u => u.ownAddress m a ∧ m < u.modules.length) (Q := fun u => u.serving m a)
        (fun u h => ?_) (fun k u _ h => ?_) (fun k u h => serving_placeBleedSet h) target ?_).2.2
      · exact ⟨ownAddress_of_config (placeBleedSet_frame u m .config (by decide)) h.1,
          (length_placeBleedSet u m).symm ▸ h.2, served_placeBleedSet_same h.1.1 h.2⟩
      · exact ⟨ownAddress_of_config (placeBleedSet_frame u k .config (by decide)) h.1, (length_placeBleedSet u k).symm ▸ h.2⟩
      · exact ⟨ownAddress_of_config (frame .config (by decide)) own, (length_bleedDecided s c).symm ▸ there⟩
    · have start := serving_bleedDecided (c := c) used (waits (need.resolve_left used))
      exact (serving_forEach (fun _ _ => serving_placeBleedSet) _ start).2.2
  | false =>
    rw [if_neg (by rw [quiet]; decide)] at need
    rw [bleedClose_of_plain quiet]
    rcases need with named | resend
    · refine (forEach_reaches (i := m) (f := State.clearMask s.clearedAtClose)
        (R := fun u => u.ownAddress m a ∧ m < u.modules.length ∧ (u.moduleAt m).mask = (s.moduleAt m).mask)
        (Q := fun u => u.serving m a) (fun u h => ?_) (fun k u other h => ?_) (fun k u h => serving_clearMask h)
        (List.mem_range.mpr hm) ⟨own, there, rfl⟩).2.2
      · have here : s.clearedAtClose.contains m = true ∧ (u.moduleAt m).mask ≠ [] := ⟨named.1, h.2.2 ▸ named.2⟩
        have eq : u.clearMask s.clearedAtClose m = (u.modModule m fun r => { r with mask := [] }).placeBleedSet m := by
          rcases clearMask_cases s.clearedAtClose u m with ⟨eq, -⟩ | ⟨-, no⟩
          · rw [eq, emptyMask_of_named here]
          · exact absurd here no
        have thereU : m < (u.modModule m fun r => { r with mask := [] }).modules.length :=
          lt_of_lt_of_eq h.2.1 (List.length_modify ..).symm
        refine ⟨?_, (length_clearMask _ u m).symm ▸ h.2.1, ?_⟩
        · rw [eq]
          exact ownAddress_of_config (placeBleedSet_frame _ m .config (by decide)) (h.1 : (u.modModule m _).ownAddress m a)
        · rw [eq]
          exact served_placeBleedSet_same h.1.1 thereU
      · refine ⟨?_, (length_clearMask _ u k).symm ▸ h.2.1, (mask_clearMask_other other).trans h.2.2⟩
        rcases clearMask_cases s.clearedAtClose u k with ⟨eq, -⟩ | ⟨eq, -⟩
        · rw [eq]; exact ownAddress_of_config (emptyMask_frame _ u k .config (by decide)) h.1
        · rw [eq]; exact ownAddress_of_config (placeBleedSet_frame u k .config (by decide)) h.1
    · exact (serving_forEach (fun _ _ => serving_clearMask) _ (waits resend)).2.2

/-! ### The obligation -/

/-- What follows the first element of one property has the other where one of the first property stands ahead of one of
the other. -/
theorem any_dropWhile_of_before {α : Type} {p q : α → Bool} {x y : α} {after : List α} (hx : p x = true) (hy : q y = true)
    (mem : y ∈ after) (before : List α) : ((before ++ x :: after).dropWhile fun z => !p z).any q = true := by
  induction before with
  | nil =>
    rw [List.nil_append, List.dropWhile_cons_of_neg (by simp [hx])]
    exact List.any_eq_true.mpr ⟨y, List.mem_cons_of_mem _ mem, hy⟩
  | cons b before ih =>
    rw [List.cons_append]
    by_cases hb : p b = true
    · rw [List.dropWhile_cons_of_neg (by simp [hb])]
      exact List.any_eq_true.mpr ⟨y, by simp [mem], hy⟩
    · rw [List.dropWhile_cons_of_pos (by simp [hb])]
      exact ih

/-- Whether a BLEED SET waits ahead of a BLEED HOLD is seen of the kinds and destinations alone. -/
theorem setAheadOfHold_eq (port : FieldPort) (a : Nat) : port.setAheadOfHold a =
    ((port.normal.map Placed.place).dropWhile fun x => !(x.1 == kindBleedSet && x.2 == a)).any (·.1 == kindBleedHold) := by
  rw [List.dropWhile_map, List.any_map]
  exact rfl

/-- A BLEED SET ahead of a BLEED HOLD after a close stood ahead of it before. -/
theorem setAheadOfHold_of_grown {a : Nat} (grown : s.growsTo t) (none_ : s.fieldPort.setAheadOfHold a = false)
    {before after : List Placed} {w : Placed} (split : t.fieldPort.normal = before ++ w :: after)
    (kind : w.frame.kind = kindBleedSet) (dest : w.frame.dest = a) {h : Placed} (mem : h ∈ after) :
    h.frame.kind ≠ kindBleedHold := by
  intro hold
  obtain ⟨added, eq, sets⟩ := grown
  obtain ⟨mid, rest, rfl⟩ := List.append_of_mem mem
  have notAdded : h.place ∉ added := fun yes => absurd ((sets _ yes).symm.trans hold) (by decide)
  have whole : (before ++ w :: mid).map Placed.place ++ h.place :: rest.map Placed.place =
      s.fieldPort.normal.map Placed.place ++ added := by
    rw [← eq, split]
    simp
  obtain ⟨l, old, there⟩ | ⟨l, _, there⟩ := List.append_eq_append_iff.mp whole
  · have first : h.place ∈ l := by
      rcases List.mem_append.mp (there ▸ List.mem_cons_self) with yes | yes
      · exact yes
      · exact absurd yes notAdded
    have found : s.fieldPort.setAheadOfHold a = true := by
      rw [setAheadOfHold_eq, old, List.map_append, List.map_cons, List.append_assoc, List.cons_append]
      exact any_dropWhile_of_before (p := fun x : Nat × Nat => x.1 == kindBleedSet && x.2 == a)
        (by simp [Placed.place, kind, dest]) (q := fun x => x.1 == kindBleedHold)
        (beq_iff_eq.mpr hold) (List.mem_append_right _ first) _
    exact Bool.false_ne_true (none_.symm.trans found)
  · exact notAdded (there ▸ List.mem_append_right _ List.mem_cons_self)

/-- Settles O47: bleeding at a close, and the calibrations. -/
theorem closeBalancesAndCalibrates : Obligations.CloseBalancesAndCalibrates := by
  unfold Obligations.CloseBalancesAndCalibrates
  refine ⟨fun s c m hm there => ?_, calibrationClauses⟩
  intro t p r string cool cleared fit eligible quiet place decides
  have masks := mask_bleedClose (s := s) (c := c) hm there
  have named : s.clearedAtClose.contains m = true ↔ cleared := mem_clearedAtClose s hm
  have eligibleIff (k : Nat) : k ∈ s.eligibleOf c (m / 12) ↔ eligible k := mem_eligibleOf s c (m / 12) k
  refine ⟨mem_quietVoltages s m, fun free h => ?_, fun free h => ?_, fun decided none_ => ?_,
    fun reference k decided mine other mem least => ?_, fun a address own need => ?_, growsTo_bleedClose s c,
    fun a none_ before after w split kind dest h mem => ?_, ?_, bleedClose_frame s c⟩
  · exact (masks.2 free).trans (if_pos (named.mpr h))
  · exact (masks.2 free).trans (if_neg fun yes => h (named.mp yes))
  · refine (masks.1 decided).trans (newMask_of_none (none_.imp (fun h yes => h ((eligibleIff m).mp yes)) fun h => ?_))
    refine List.eq_nil_iff_forall_not_mem.mpr fun v hv => ?_
    obtain ⟨k, hk, q, hq⟩ := (mem_referenceVoltages s c _ v).mp hv
    exact h k v ((eligibleIff k).mp hk) ⟨q, hq⟩
  · intro wanted
    refine (masks.1 decided).trans ((newMask_of_reference ((eligibleIff m).mpr mine) ?_ fun v hv => ?_).trans
      (decidedMask_eq s reference m))
    · exact (mem_referenceVoltages s c _ _).mpr ⟨k, (eligibleIff k).mpr other, mem⟩
    · obtain ⟨k', hk, hv⟩ := (mem_referenceVoltages s c _ v).mp hv
      exact least k' v ((eligibleIff k').mp hk) hv
  · intro sent
    have served : t.served m a := by
      refine served_bleedClose ⟨address, own⟩ hm there ?_
      split at need
      · rw [if_pos ‹_›]
        exact need
      · rw [if_neg ‹_›]
        exact need.imp_left fun h => ⟨named.mpr h.1, h.2⟩
    have frame := served sent
    rw [State.bleedFrame, ownFrame_of_sys (bleedClose_frame s c .sys (by decide))] at frame
    exact frame
  · exact setAheadOfHold_of_grown (growsTo_bleedClose s c) none_ split kind dest mem
  · exact (congrArg (fun x : ModuleRec => { x with mask := (t.moduleAt m).mask, resend := (t.moduleAt m).resend })
      (bare_bleedClose s c m) :)

end Sys2Proof.Machine
end

section
/-! SUPPORT for O5 and O6: what a run of notices leaves in the Notice Queue, and what the first evaluations of UNWATCHED
make (R145, R172, R179). -/

namespace Sys2Proof.Machine

variable {s t u : State} {now : PartTime} {f : Nat → State → State} {Inv : State → Prop}

/-! ### A run of notices (R172) -/

/-- A notice by its identity: kind and subject. -/
abbrev NoticeName := NoticeKind × Option Nat

/-- The notice of this name, raised at `now`. -/
def NoticeName.at (now : PartTime) (n : NoticeName) : Notice := ⟨n.1, n.2, 1, now⟩

/-- What raising a notice makes of the Notice Queue and the counters. -/
def announce (now : PartTime) (x : List Notice × Counters) (n : NoticeName) : List Notice × Counters :=
  (enterNotice x.1 (n.at now), if losesNotice x.1 (n.at now) then { x.2 with noticesLost := inc16 x.2.noticesLost } else x.2)

/-- From `s` to `t` the notices of these names are raised, in order, and nothing else is counted. -/
def State.announces (s t : State) (raised : List NoticeName) : Prop :=
  t.time = s.time ∧ (t.notices, t.counters) = raised.foldl (announce s.time) (s.notices, s.counters)

theorem announces_of_changesOnly {L : List Part} (h : s.changesOnly t L)
    (apart : Part.time ∉ L ∧ Part.notices ∉ L ∧ Part.counters ∉ L) : s.announces t [] :=
  ⟨h .time apart.1, Prod.ext (h .notices apart.2.1) (h .counters apart.2.2)⟩

theorem announces_raise (s : State) (k : NoticeKind) (x : Option Nat) : s.announces (s.raise k x) [(k, x)] :=
  ⟨raise_frame s k x .time (by decide), Prod.ext (raise_notices s k x) (raise_counters s k x)⟩

theorem announces_trans {a b : List NoticeName} (h : s.announces t a) (k : t.announces u b) : s.announces u (a ++ b) := by
  obtain ⟨time, eq⟩ := h
  obtain ⟨time', eq'⟩ := k
  refine ⟨time'.trans time, ?_⟩
  rw [List.foldl_append, ← eq, eq', time]

theorem announces_quiet {L : List Part} {a : List NoticeName} (h : s.announces t a) (k : t.changesOnly u L)
    (apart : Part.time ∉ L ∧ Part.notices ∉ L ∧ Part.counters ∉ L) : s.announces u a :=
  List.append_nil a ▸ announces_trans h (announces_of_changesOnly k apart)

theorem announces_forEach {g : Nat → List NoticeName} (step : ∀ i s, Inv s → Inv (f i s) ∧ s.announces (f i s) (g i)) :
    ∀ (l : List Nat) {s : State}, Inv s → s.announces (s.forEach l f) (l.flatMap g) := by
  intro l
  induction l with
  | nil => exact fun _ => ⟨rfl, rfl⟩
  | cons i l ih =>
    intro s inv
    obtain ⟨inv', raised⟩ := step i s inv
    exact announces_trans raised (ih inv')

theorem flatMap_if {α β : Type} (p : α → Bool) (g : α → β) (l : List α) :
    (l.flatMap fun i => if p i then [g i] else []) = (l.filter p).map g := by
  induction l with
  | nil => rfl
  | cons i l ih =>
    rw [List.flatMap_cons, ih, List.filter_cons]
    cases p i <;> rfl

theorem announces_if {c : Bool} {n : NoticeName} {L : List Part} (yes : c = true → s.announces t [n])
    (no : c = false → s.changesOnly t L) (apart : Part.time ∉ L ∧ Part.notices ∉ L ∧ Part.counters ∉ L) :
    s.announces t (if c then [n] else []) := by
  cases c with
  | true => exact yes rfl
  | false => exact announces_of_changesOnly (no rfl) apart

/-- What notices of distinct names leave of an empty queue: at most 24 of them, one lost for each beyond (R172). -/
structure Entered (now : PartTime) (raised : List NoticeName) (c : Counters) (x : List Notice × Counters) : Prop where
  queue : x.1 = raised.foldl (fun q n => enterNotice q (n.at now)) []
  length : x.1.length = min 24 raised.length
  names : ∀ w ∈ x.1, (w.kind, w.subject) ∈ raised
  counters : x.2 = { c with noticesLost := raised.length - 24 }

theorem not_waiting {q : List Notice} {raised : List NoticeName} (names : ∀ w ∈ q, (w.kind, w.subject) ∈ raised)
    {n : NoticeName} (fresh : n ∉ raised) : q.any (Notice.isOf n.1 n.2) = false := by
  rw [List.any_eq_false]
  intro w hw same
  obtain ⟨kind, subject⟩ := Bool.and_eq_true_iff.mp same
  refine fresh ?_
  have name := names w hw
  rwa [beq_iff_eq.mp kind, beq_iff_eq.mp subject] at name

theorem length_enterNotice {q : List Notice} {n : Notice} (fresh : q.any (Notice.isOf n.kind n.subject) = false)
    (few : q.length ≤ 24) : (enterNotice q n).length = min 24 (q.length + 1) := by
  unfold enterNotice
  rw [if_neg (by simp [fresh])]
  by_cases free : q.length < 24
  · rw [if_pos free, List.length_append, List.length_singleton]
    omega
  · rw [if_neg free]
    split
    · obtain ⟨w, hw, rank⟩ := exists_lowest (q := q) fun none => free (by simp [none])
      have gone := List.length_eraseP_of_mem (p := fun w => w.rank == lowestRank q) hw rank
      rw [List.length_append, List.length_singleton]
      omega
    · omega

theorem mem_enterNotice {q : List Notice} {n w : Notice} (fresh : q.any (Notice.isOf n.kind n.subject) = false)
    (h : w ∈ enterNotice q n) : w ∈ q ∨ w = n := by
  unfold enterNotice at h
  rw [if_neg (by simp [fresh])] at h
  split at h
  · simpa using h
  · split at h
    · exact (List.mem_append.mp h).imp List.mem_of_mem_eraseP List.mem_singleton.mp
    · exact .inl h

/-- One more notice of a name not raised before. -/
theorem Entered.snoc {raised : List NoticeName} {c : Counters} {x : List Notice × Counters} (h : Entered now raised c x)
    {n : NoticeName} (fresh : n ∉ raised) (few : raised.length < 65536) :
    Entered now (raised ++ [n]) c (announce now x n) := by
  have absent : x.1.any (Notice.isOf n.1 n.2) = false := not_waiting h.names fresh
  refine ⟨?_, ?_, fun w hw => ?_, ?_⟩
  · rw [List.foldl_append, ← h.queue]
    exact rfl
  · refine (length_enterNotice absent (h.length ▸ Nat.min_le_left ..)).trans ?_
    rw [h.length, List.length_append, List.length_singleton]
    omega
  · rcases mem_enterNotice (n := n.at now) absent hw with old | rfl
    · exact List.mem_append_left _ (h.names w old)
    · exact List.mem_append_right _ List.mem_cons_self
  · have loses : losesNotice x.1 (n.at now) = decide (24 ≤ raised.length) := by
      show (!(x.1.any (Notice.isOf n.1 n.2)) && decide (24 ≤ x.1.length)) = _
      rw [absent, h.length, Bool.not_false, Bool.true_and]
      exact decide_eq_decide.mpr (by omega)
    show (if losesNotice x.1 (n.at now) then { x.2 with noticesLost := inc16 x.2.noticesLost } else x.2) = _
    rw [loses, h.counters, List.length_append, List.length_singleton]
    by_cases full : 24 ≤ raised.length
    · have more : inc16 (raised.length - 24) = raised.length + 1 - 24 := by
        unfold inc16 capNat
        split <;> omega
      rw [if_pos (decide_eq_true full)]
      exact congrArg (fun k => { c with noticesLost := k }) more
    · have none_ : raised.length - 24 = raised.length + 1 - 24 := by omega
      rw [if_neg (by simpa using full), none_]

theorem entered_snocs {c : Counters} {before : List NoticeName} {x : List Notice × Counters} (h : Entered now before c x) :
    ∀ {raised : List NoticeName}, (before ++ raised).Nodup → (before ++ raised).length < 65536 →
      Entered now (before ++ raised) c (raised.foldl (announce now) x) := by
  intro raised
  induction raised generalizing before x with
  | nil => exact fun _ _ => (List.append_nil before).symm ▸ h
  | cons n raised ih =>
    rw [List.append_cons, List.foldl_cons]
    intro nodup few
    have fresh : n ∉ before := fun old =>
      (List.nodup_append.mp (List.nodup_append.mp nodup).1).2.2 n old n List.mem_cons_self rfl
    have room : before.length < 65536 := by
      rw [List.length_append, List.length_append] at few
      omega
    exact ih (h.snoc fresh room) nodup few

theorem entered_of_distinct {c : Counters} (hc : c.noticesLost = 0) {raised : List NoticeName} (nodup : raised.Nodup)
    (few : raised.length < 65536) : Entered now raised c (raised.foldl (announce now) ([], c)) := by
  have none_ : Entered now [] c ([], c) :=
    ⟨rfl, rfl, fun _ h => (nomatch h), by rw [List.length_nil, Nat.zero_sub, ← hc]⟩
  exact entered_snocs none_ nodup few

/-! ### Flags -/

theorem isLatched_forEach {g : Flag} {c : Nat → Prop}
    (step : ∀ i s, Inv s → Inv (f i s) ∧ ((f i s).isLatched g = true ↔ s.isLatched g = true ∨ c i)) :
    ∀ (l : List Nat) {s : State}, Inv s → ((s.forEach l f).isLatched g = true ↔ s.isLatched g = true ∨ ∃ i ∈ l, c i) := by
  intro l
  induction l with
  | nil =>
    intro s _
    show s.isLatched g = true ↔ _
    simp
  | cons i l ih =>
    intro s inv
    obtain ⟨inv', latched⟩ := step i s inv
    refine (ih inv').trans ?_
    rw [latched, or_assoc, exists_mem_cons_or]

theorem isLatched_latchIf (c : Bool) (g f : Flag) (s : State) :
    (if c then s.latch g else s).isLatched f = true ↔ s.isLatched f = true ∨ (f = g ∧ c = true) := by
  cases c with
  | true =>
    refine (isLatched_latch_iff s g f).trans ?_
    simp
  | false =>
    show s.isLatched f = true ↔ _
    simp

/-! ### UNWATCHED found for the first time (R79, R145) -/

/-- Nothing is ordered of the PCS. -/
def State.ordersNothing (s : State) : Prop := s.gate.pPrev = 0 ∧ s.gate.qPrev = 0

/-- Where nothing is ordered of the PCS, no corrective frame follows an evaluation (R96). -/
theorem changeEval_of_ordersNothing (h : s.ordersNothing) : s.changeEval = s.evaluate := by
  obtain ⟨p, q⟩ := h
  refine if_neg fun due => ?_
  rcases (correctiveDue_evaluate_iff s).mp due with over_ | under | reactive
  · rw [p] at over_
    omega
  · rw [p] at under
    omega
  · exact reactive.1 q

/-- A zone that nothing watches is noted as such. -/
def State.unwatchedNoted (s : State) (z : Nat) : State :=
  ((s.modFireZone z fun r => { r with unwatched := true }).raise .zoneUnwatched (some z)).evaluate

theorem setUnwatched_of_unwatched {z : Nat} (quiet : s.ordersNothing) (fresh : (s.fireZone z).unwatched = false)
    (h : s.zoneUnwatched z = true) : s.setUnwatched z = s.unwatchedNoted z := by
  have quiet' : ((s.modFireZone z fun r => { r with unwatched := true }).raise .zoneUnwatched (some z)).ordersNothing := by
    unfold State.ordersNothing
    rw [raise_gate]
    exact quiet
  unfold State.setUnwatched
  dsimp only
  rw [h, fresh, if_neg (by decide)]
  exact changeEval_of_ordersNothing quiet'

theorem setUnwatched_of_watched {z : Nat} (fresh : (s.fireZone z).unwatched = false) (h : s.zoneUnwatched z = false) :
    s.setUnwatched z = s := by
  unfold State.setUnwatched
  dsimp only
  rw [h, fresh]
  exact if_pos rfl

end Sys2Proof.Machine
end

section
/-! SUPPORT for O5 and O6: the pass over the zones, the first dispatch frame and the first coolant command (R78, R83,
R133, R145). -/

namespace Sys2Proof.Machine

variable {s t u : State} {z : Nat}

/-! ### The fire unit less what watches its zones -/

/-- A zone less its UNWATCHED. -/
def FireZone.unseen (r : FireZone) : FireZone := { r with unwatched := false }

/-- The fire unit less UNWATCHED. -/
def FireUnit.unseen (f : FireUnit) : FireUnit := { f with zones := f.zones.map FireZone.unseen }

theorem unseen_withZone (f : FireUnit) (z : Nat) (b : Bool) :
    (f.withZone z fun r => { r with unwatched := b }).unseen = f.unseen := by
  have zones : (f.zones.modify z fun r => { r with unwatched := b }).map FireZone.unseen = f.zones.map FireZone.unseen := by
    apply List.ext_getElem?
    intro j
    rw [List.getElem?_map, List.getElem?_map, List.getElem?_modify]
    split
    · cases f.zones[j]? <;> rfl
    · cases f.zones[j]? <;> rfl
  exact congrArg (fun x => { f with zones := x }) zones

theorem setUnwatched_unseen (s : State) (z : Nat) : (s.setUnwatched z).fire.unseen = s.fire.unseen := by
  rw [setUnwatched_fire, unseen_withZone]

theorem length_of_unseen (h : t.fire.unseen = s.fire.unseen) : t.fire.zones.length = s.fire.zones.length := by
  have lengths := congrArg (fun f : FireUnit => f.zones.length) h
  simpa only [FireUnit.unseen, List.length_map] using lengths

theorem detectors_of_unseen (h : t.fire.unseen = s.fire.unseen) : t.fire.detectors = s.fire.detectors :=
  (congrArg FireUnit.detectors h :)

theorem fireZone_unseen (h : t.fire.unseen = s.fire.unseen) (z : Nat) : (t.fireZone z).unseen = (s.fireZone z).unseen := by
  have zone (x : State) : (x.fireZone z).unseen = x.fire.unseen.zones.getD z FireZone.atReset := by
    show (x.fire.zones.getD z .atReset).unseen = (x.fire.zones.map FireZone.unseen).getD z FireZone.atReset
    rw [List.getD_eq_getElem?_getD, List.getD_eq_getElem?_getD, List.getElem?_map]
    cases x.fire.zones[z]? <;> rfl
  rw [zone t, zone s, h]

/-- What is said of a zone's stage alone. -/
theorem any_stage_of_unseen (h : t.fire.unseen = s.fire.unseen) (p : FireStage → Bool) :
    t.fire.zones.any (fun r => p r.stage) = s.fire.zones.any fun r => p r.stage := by
  have zones := congrArg (fun f : FireUnit => f.zones.any fun r => p r.stage) h
  simpa only [FireUnit.unseen, List.any_map, Function.comp_def, FireZone.unseen] using zones

theorem stage_of_unseen (h : t.fire.unseen = s.fire.unseen) (z : Nat) : (t.fireZone z).stage = (s.fireZone z).stage :=
  (congrArg FireZone.stage (fireZone_unseen h z) :)

/-! ### The pass over the zones -/

/-- What the first finding of UNWATCHED of the zones `l` leaves. -/
structure WatchPass (s t : State) (l : List Nat) : Prop where
  frame : s.changesOnly t [.fire, .envelope, .notices, .counters]
  names : s.announces t ((l.filter s.zoneUnwatched).map fun z => (.zoneUnwatched, some z))
  timer : t.envelope.timerEnd = s.envelope.timerEnd
  number : t.envelope.record.number = (s.envelope.record.number + (l.filter s.zoneUnwatched).length) % 65536
  unseen : t.fire.unseen = s.fire.unseen

theorem unwatchedNoted_frame (s : State) (z : Nat) :
    s.changesOnly (s.unwatchedNoted z) [.fire, .envelope, .notices, .counters] :=
  State.changesOnly_trans (State.changesOnly_mono (setFire_frame s _) (by decide))
    (State.changesOnly_trans (State.changesOnly_mono (raise_frame _ _ _) (by decide))
      (State.changesOnly_mono (setEnvelope_frame _ _) (by decide)))

theorem unwatchedNoted_announces (s : State) (z : Nat) : s.announces (s.unwatchedNoted z) [(.zoneUnwatched, some z)] := by
  have marked : s.announces (s.modFireZone z fun r => { r with unwatched := true }) [] :=
    announces_of_changesOnly (L := [.fire]) (setFire_frame s _) (by decide)
  exact announces_quiet (L := [.envelope]) (announces_trans marked (announces_raise _ _ _)) (setEnvelope_frame _ _)
    (by decide)

theorem unwatchedNoted_envelope (s : State) (z : Nat) : (s.unwatchedNoted z).envelope.timerEnd = s.envelope.timerEnd ∧
    (s.unwatchedNoted z).envelope.record.number = (s.envelope.record.number + 1) % 65536 := by
  have raised : ((s.modFireZone z fun r => { r with unwatched := true }).raise .zoneUnwatched (some z)).envelope =
      s.envelope := raise_frame _ _ _ .envelope (by decide)
  exact ⟨congrArg (·.timerEnd) raised, congrArg (fun e : EnvelopeUnit => (e.record.number + 1) % 65536) raised⟩

theorem watchPass_one (quiet : s.ordersNothing) (fresh : (s.fireZone z).unwatched = false)
    (low : s.envelope.record.number < 65536) : WatchPass s (s.setUnwatched z) [z] := by
  by_cases h : s.zoneUnwatched z = true
  · rw [setUnwatched_of_unwatched quiet fresh h]
    refine ⟨unwatchedNoted_frame s z, ?_, (unwatchedNoted_envelope s z).1, ?_, ?_⟩
    · rw [filter_one, h]
      exact unwatchedNoted_announces s z
    · rw [filter_one, h]
      exact (unwatchedNoted_envelope s z).2
    · rw [← setUnwatched_of_unwatched quiet fresh h]
      exact setUnwatched_unseen s z
  · have watched := Bool.eq_false_iff.mpr h
    rw [setUnwatched_of_watched fresh watched]
    refine ⟨State.changesOnly_refl s _, ?_, rfl, ?_, rfl⟩
    · rw [filter_one, watched]
      exact ⟨rfl, rfl⟩
    · rw [filter_one, watched]
      exact (Nat.mod_eq_of_lt low).symm

theorem WatchPass.zoneUnwatched {l : List Nat} (h : WatchPass s t l) : t.zoneUnwatched = s.zoneUnwatched :=
  funext fun z => zoneUnwatched_of (h.frame .config (by decide)) (detectors_of_unseen h.unseen) z

theorem WatchPass.trans {a b : List Nat} (h : WatchPass s t a) (k : WatchPass t u b) : WatchPass s u (a ++ b) := by
  have same := h.zoneUnwatched
  refine ⟨State.changesOnly_trans h.frame k.frame, ?_, k.timer.trans h.timer, ?_, k.unseen.trans h.unseen⟩
  · rw [List.filter_append, List.map_append]
    exact announces_trans h.names (same ▸ k.names)
  · rw [k.number, h.number, same, List.filter_append, List.length_append]
    omega

theorem setUnwatched_other {k : Nat} (other : k ≠ z) : (s.setUnwatched z).fireZone k = s.fireZone k :=
  fireZone_withZone_other (congrArg FireUnit.zones (setUnwatched_fire s z)) other

/-- The pass over zones of which none is known to be unwatched. -/
theorem watchPass : ∀ {l : List Nat} {s : State}, l.Nodup → s.ordersNothing → (∀ z ∈ l, (s.fireZone z).unwatched = false) →
    s.envelope.record.number < 65536 → WatchPass s (s.forEach l fun z s => s.setUnwatched z) l := by
  intro l
  induction l with
  | nil => exact fun _ _ _ low => ⟨State.changesOnly_refl _ _, ⟨rfl, rfl⟩, rfl, (Nat.mod_eq_of_lt low).symm, rfl⟩
  | cons z l ih =>
    intro s nodup quiet fresh low
    obtain ⟨apart, nodup⟩ := List.nodup_cons.mp nodup
    have one := watchPass_one quiet (fresh z List.mem_cons_self) low
    have gate : (s.setUnwatched z).gate = s.gate := one.frame .gate (by decide)
    refine one.trans (ih nodup ?_ (fun k hk => ?_) ?_)
    · unfold State.ordersNothing
      rw [gate]
      exact quiet
    · have other : k ≠ z := fun same => apart (same ▸ hk)
      rw [setUnwatched_other other]
      exact fresh k (List.mem_cons_of_mem _ hk)
    · rw [one.number]
      exact Nat.mod_lt _ (by decide)

/-- Each zone of the pass takes UNWATCHED as it is found. -/
theorem fireZone_watchPass {l : List Nat} (nodup : l.Nodup) (mem : z ∈ l) (inRange : z < s.fire.zones.length) :
    (s.forEach l fun z s => s.setUnwatched z).fireZone z = { s.fireZone z with unwatched := s.zoneUnwatched z } := by
  have once := forEach_once (Inv := fun t => t.config = s.config ∧ t.fire.unseen = s.fire.unseen)
    (view := fun t => t.fireZone z) (want := fun r => { r with unwatched := s.zoneUnwatched z })
    (f := fun z s => s.setUnwatched z) (m := z)
    (fun i t ⟨config, unseen⟩ => ⟨(setUnwatched_frame t i .config (by decide)).trans config,
      (setUnwatched_unseen t i).trans unseen⟩)
    (fun t ⟨config, unseen⟩ => by
      refine (fireZone_withZone (congrArg FireUnit.zones (setUnwatched_fire t z)) ?_).trans ?_
      · rwa [length_of_unseen unseen]
      · rw [zoneUnwatched_of config (detectors_of_unseen unseen)])
    (fun i t other _ => setUnwatched_other other.symm) nodup ⟨rfl, rfl⟩
  rw [if_pos mem] at once
  exact once

end Sys2Proof.Machine
end

section
/-! SUPPORT for O5 and O6, continued: the first dispatch frame, the first coolant command and the first evaluation of a
part that starts (R77, R83, R92, R126, R133). -/

namespace Sys2Proof.Machine

variable {s t u : State} {z a : Nat}

/-! ### Placing where nothing is replaced (R160) -/

/-- No frame was superseded. -/
def Counters.supersededNone (c : Counters) : Prop := c.fieldSuperseded = 0 ∧ c.dispatchSuperseded = 0

theorem countSuperseded_none (h : s.counters.supersededNone) (kind : Nat) : s.countSuperseded kind 0 = s := by
  have same : ∀ c : Counters, c.supersededNone → { c with
      fieldSuperseded := add16 c.fieldSuperseded 0
      dispatchSuperseded := if kind == kindDispatch then add16 c.dispatchSuperseded 0 else c.dispatchSuperseded } = c := by
    rintro c ⟨field, dispatch⟩
    obtain ⟨⟩ := c
    subst field dispatch
    cases kind == kindDispatch <;> rfl
  exact congrArg s.setCounters (same _ h)

theorem placeUrgent_of_new {p : Placed} (fresh : s.fieldPort.urgent.any p.matches = false)
    (empty : s.fieldPort.normal = []) (h : s.counters.supersededNone) :
    s.placeUrgent p = s.setFieldPort { s.fieldPort with urgent := s.fieldPort.urgent ++ [p], normal := [] } := by
  unfold State.placeUrgent
  dsimp only
  rw [fresh, empty]
  exact countSuperseded_none
    (s := s.setFieldPort { s.fieldPort with urgent := s.fieldPort.urgent ++ [p], normal := [] }) h _

theorem placeNormal_of_empty {p : Placed} (empty : s.fieldPort.normal = []) (idle : s.fieldPort.sending = none) :
    s.placeNormal p = s.setFieldPort { s.fieldPort with normal := [p] } := by
  unfold State.placeNormal FieldPort.normalUsed
  rw [empty, idle, List.any_nil, Bool.and_false]
  exact rfl

theorem admits_of_empty {p : Placed} (empty : s.fieldPort.normal = []) (idle : s.fieldPort.sending = none) :
    s.fieldPort.admits p = true := by
  unfold FieldPort.admits FieldPort.normalUsed
  rw [empty, idle, List.any_nil, Bool.and_false]
  exact rfl

/-! ### The initial zero frame (R83, R92) -/

/-- The initial zero frame to the PCS at `a`. -/
def State.zeroFrame (s : State) (a : Nat) : Placed :=
  s.ownFrame kindDispatch a (dispatchPayload s.gate.number 0 0 false { held := true, corrective := true })

theorem makeFrame_of_unaddressed {type : FrameType} (none_ : s.pcsAddress = none) :
    s.makeFrame type = s.evaluate.setCounters
      { s.counters with dispatchUnaddressed := inc16 s.counters.dispatchUnaddressed } := by
  have none' : s.evaluate.pcsAddress = none := none_
  unfold State.makeFrame
  dsimp only
  rw [none']
  exact rfl

theorem makeFrame_initialZero (pcs : s.pcsAddress = some a) (held : s.gate.state = .held) (empty : s.fieldPort = .atReset)
    (h : s.counters.supersededNone) : s.makeFrame .initialZero =
      (s.evaluate.setFieldPort { s.fieldPort with urgent := [s.zeroFrame a] }).setGate
        { s.gate with pPrev := 0, qPrev := 0, pFrApplied := 0, lastFrame := some s.time } := by
  have pcs' : s.evaluate.pcsAddress = some a := pcs
  have zero : s.evaluate.frTerm = 0 := by
    have applies : s.evaluate.frApplies = false := by
      show s.frApplies = false
      unfold State.frApplies
      rw [held]
    rw [frTerm_eq, if_neg fun h => Bool.false_ne_true (applies.symm.trans h.1)]
  have making : s.evaluate.making .initialZero s.evaluate.gate.pReqLast s.evaluate.gate.qReqLast =
      ⟨0, 0, 0, { held := true, corrective := true }⟩ := by
    rw [making_of_held (s := s.evaluate) _ _ _ held, zero]
    exact rfl
  have port : s.evaluate.fieldPort = .atReset := empty
  have placed := placeUrgent_of_new (s := s.evaluate) (p := s.zeroFrame a) (by rw [port]; exact rfl) (by rw [port]; exact rfl) h
  unfold State.makeFrame
  dsimp only
  rw [pcs']
  dsimp only
  rw [making]
  show (s.evaluate.placeUrgent (s.zeroFrame a)).setGate _ = _
  rw [placed, port, empty]
  exact rfl

/-- A part at rest, before its first frame. -/
structure State.AtRest (s : State) : Prop where
  time : s.time = 0
  held : s.gate.state = .held
  unmade : s.gate.unmade = s.gate
  port : s.fieldPort = .atReset
  counters : ∃ n, s.counters = { noticesLost := n }

/-- What the initial zero frame leaves. -/
structure ZeroFramePlaced (s t : State) : Prop where
  frame : s.changesOnly t [.envelope, .gate, .fieldPort, .counters]
  envelope : t.envelope = { s.envelope with record := s.evaluation }
  gate : t.gate = { s.gate with lastFrame := s.pcsAddress.map fun _ => 0 }
  port : t.fieldPort = ⟨none, (s.pcsAddress.map s.zeroFrame).toList, [], none⟩
  counters : t.counters = { s.counters with dispatchUnaddressed := if s.pcsAddress.isSome then 0 else 1 }

theorem makeFrame_of_atRest (h : s.AtRest) : ZeroFramePlaced s (s.makeFrame .initialZero) := by
  obtain ⟨n, counters⟩ := h.counters
  have none_ : s.counters.supersededNone := by
    rw [counters]
    exact ⟨rfl, rfl⟩
  have frame : s.changesOnly (s.makeFrame .initialZero) [.envelope, .gate, .fieldPort, .counters] :=
    frame_of fun h => h.makeFrame (List.Subset.refl _)
  cases pcs : s.pcsAddress with
  | none =>
    have made := makeFrame_of_unaddressed (type := .initialZero) pcs
    refine ⟨frame, ?_, ?_, ?_, ?_⟩ <;> rw [made]
    · exact rfl
    · rw [pcs]
      exact h.unmade.symm.trans (congrArg (fun g : GateRec => { g with lastFrame := none }) h.unmade)
    · rw [pcs]
      exact h.port
    · rw [pcs, counters]
      exact rfl
  | some a =>
    have made := makeFrame_initialZero pcs h.held h.port none_
    refine ⟨frame, ?_, ?_, ?_, ?_⟩ <;> rw [made]
    · exact rfl
    · rw [pcs, h.time]
      exact (congrArg (fun g : GateRec => { g with lastFrame := some 0 }) h.unmade :)
    · rw [pcs, h.port]
      exact rfl
    · show s.counters = _
      rw [pcs, counters]
      exact rfl

/-! ### The first coolant command (R126, R133) -/

/-- A making reads the demands, the zones' stages, the supply and T11. -/
theorem coolantMaking_of_same (demands : t.thermal.zones.map (·.demand) = s.thermal.zones.map (·.demand))
    (fire : t.fire = s.fire) (supply : t.supply = s.supply) (config : t.config = s.config) :
    t.coolantMaking = s.coolantMaking := by
  unfold State.coolantMaking State.fireZone State.anyConfirmed State.tables
  rw [demands, fire, supply, config]

theorem demands_recorded (x : Thermal) (m : CoolantMaking) (now : PartTime) (o : CommandOutcome) :
    (x.recorded m now o).zones.map (·.demand) = x.zones.map (·.demand) := by
  apply List.ext_getElem (by simp [Thermal.recorded])
  intro z h1 h2
  simp [Thermal.recorded, ZoneRec.withValve]

/-- What the first coolant command leaves. -/
structure CommandPlaced (s t : State) : Prop where
  frame : s.changesOnly t [.thermal, .fieldPort, .counters]
  thermal : t.thermal = s.thermal.recorded s.coolantMaking s.time
    (if (s.addressOf .chiller 0).isSome then .queued else .unaddressed)
  port : t.fieldPort = { s.fieldPort with
    urgent := s.fieldPort.urgent ++ (if s.anyConfirmed then ((s.addressOf .chiller 0).map s.coolantFrame).toList else [])
    normal := if s.anyConfirmed then [] else ((s.addressOf .chiller 0).map s.coolantFrame).toList }
  counters : t.counters = { s.counters with coolantUnaddressed := if (s.addressOf .chiller 0).isSome then 0 else 1 }

theorem makeCoolant_of_started (apart : ∀ w ∈ s.fieldPort.urgent, w.frame.kind ≠ kindCoolantCommand)
    (empty : s.fieldPort.normal = []) (idle : s.fieldPort.sending = none) (none_ : s.counters.supersededNone)
    (reached : s.counters.coolantUnaddressed = 0) : CommandPlaced s (s.makeCoolant s.anyConfirmed) := by
  have frame : s.changesOnly (s.makeCoolant s.anyConfirmed) [.thermal, .fieldPort, .counters] :=
    frame_of fun h => h.makeCoolant (List.Subset.refl _)
  have same : { s.counters with coolantUnaddressed := 0 } = s.counters := by rw [← reached]
  cases chiller : s.addressOf .chiller 0 with
  | none =>
    have made := makeCoolant_of_unaddressed (urgent := s.anyConfirmed) chiller
    refine ⟨frame, ?_, ?_, ?_⟩ <;> rw [made, chiller]
    · exact rfl
    · show s.fieldPort = _
      rw [Option.map_none, Option.toList_none, ite_self, List.append_nil, ← empty]
    · rw [reached]
      exact rfl
  | some a =>
    cases confirmed : s.anyConfirmed with
    | true =>
      have fresh : s.fieldPort.urgent.any (s.coolantFrame a).matches = false := by
        rw [List.any_eq_false]
        intro w hw same
        exact apart w hw (beq_iff_eq.mp (Bool.and_eq_true_iff.mp same).1)
      have made := makeCoolant_urgent chiller
      rw [placeUrgent_of_new fresh empty none_] at made
      rw [confirmed] at frame
      refine ⟨frame, ?_, ?_, ?_⟩ <;> rw [made, chiller]
      · exact rfl
      · rw [confirmed]
        exact rfl
      · exact same.symm
    | false =>
      have made := makeCoolant_normal chiller
      rw [admits_of_empty empty idle, placeNormal_of_empty empty idle] at made
      rw [confirmed] at frame
      refine ⟨frame, ?_, ?_, ?_⟩ <;> rw [made, chiller]
      · exact rfl
      · rw [confirmed, if_neg Bool.false_ne_true, List.append_nil]
        exact rfl
      · exact same.symm

/-! ### The first evaluation (R64 to R77) -/

/-- An evaluation while no string counts and the breaker is open. -/
theorem evaluation_of_open (idle : ∀ i < 4, s.stringCounts i = false) (opened : s.conn.state.gridFactor = 0) :
    s.evaluation = { EnvelopeRec.atReset with
      fFire := s.fireFactor, fCoolant := s.coolantFactor, fCells := factorUnless s.cellsHold
      fConfig := factorUnless s.anyFault, fEstop := factorUnless (s.lineIsActive .eStop)
      number := (s.envelope.record.number + 1) % 65536, time := s.time } := by
  have strings : (List.range 4).map s.stringEnvelope = List.replicate 4 .zero := by
    refine List.eq_replicate_iff.mpr ⟨by simp, fun x hx => ?_⟩
    obtain ⟨i, hi, rfl⟩ := List.mem_map.mp hx
    exact stringEnvelope_of_idle (idle i (List.mem_range.mp hi))
  unfold State.evaluation
  dsimp only
  rw [strings, opened, Nat.zero_min]
  have none_ (cap : Nat) : min (0 * 0 / 1024) cap = 0 := Nat.zero_min cap
  have chg : sumOf (List.replicate 4 StringEnvelope.zero) (·.pChg) = 0 := rfl
  have dis : sumOf (List.replicate 4 StringEnvelope.zero) (·.pDis) = 0 := rfl
  rw [chg, dis, none_, none_]
  exact rfl

end Sys2Proof.Machine
end

section
/-! SUPPORT for O5 and O6, concluded: what the start of a part goes through (R119, R133, R145, R151, R179). -/

namespace Sys2Proof.Machine

variable {s t u old : State} {z : Nat}

/-! ### What is announced before the zones are looked at (R57, R58, R119, R151, R179) -/

/-- The part once what its start keeps is latched and noticed again. -/
def State.relatched (s old : State) : State :=
  (s.noteFailures.noteUncalibrated old).relatchLockout.forEach allZones State.relatchZone

/-- The part once what stands at its start is latched and noticed. -/
def State.announced (s old : State) : State :=
  if (s.relatched old).supply.holdupLow then (s.relatched old).latch .holdupLow else s.relatched old

/-- A string whose start raises SOC_UNCALIBRATED (R57, R58). -/
def State.startsUncalibrated (s old : State) (i : Nat) : Bool :=
  match s.sys.cause with
  | .powerOn => (s.stringEntry i).inUse
  | .resetLine | .restart => (s.stringAt i).charge.uncalibrated && !(old.stringAt i).charge.uncalibrated

/-- The image records that fail their check. -/
def State.failedRecords (s : State) : List Nat := ((List.range 18).map (· + 1)).filter fun n => !s.image.passes n

/-- The pieces that the announcements change. -/
abbrev announcedParts : List Part := [.notices, .flags, .counters]

theorem noteFailures_frame (s : State) : s.changesOnly s.noteFailures announcedParts :=
  frame_of fun h => h.noteFailures (List.Subset.refl _)

theorem noteUncalibrated_frame (s old : State) : s.changesOnly (s.noteUncalibrated old) [.notices, .counters] :=
  frame_of fun h => h.noteUncalibrated (List.Subset.refl _)

theorem relatchLockout_frame (s : State) : s.changesOnly s.relatchLockout [.flags] :=
  frame_of fun h => h.relatchLockout (List.Subset.refl _)

theorem relatchZone_frame (s : State) (z : Nat) : s.changesOnly (s.relatchZone z) announcedParts :=
  frame_of fun h => h.relatchZone (List.Subset.refl _)

theorem relatchZones_frame (s : State) : s.changesOnly (s.forEach allZones State.relatchZone) announcedParts :=
  frame_of fun h => h.forEach fun _ _ k => h.relatchZone (List.Subset.refl _) k

theorem latchHoldup_frame (s : State) : s.changesOnly (if s.supply.holdupLow then s.latch .holdupLow else s) [.flags] :=
  frame_of fun h hs => keeps_ite (h.latch (List.Subset.refl _) hs) hs

theorem noteFailures_announces (s : State) :
    s.announces s.noteFailures (s.failedRecords.map fun n => (.configFault, some n)) := by
  have run := announces_forEach (Inv := fun _ => True) (g := fun n => [(.configFault, some n)])
    (f := fun n s => (s.latch .configFault).raise .configFault (some n)) (fun n t _ => ⟨trivial,
      announces_trans (announces_of_changesOnly (latch_frame t _) (by decide)) (announces_raise ..)⟩)
    s.failedRecords (s := s) trivial
  rw [← List.map_eq_flatMap] at run
  exact run

/-- A string is noticed as uncalibrated where its start raises that. -/
def State.noteString (old : State) (i : Nat) (t : State) : State :=
  if t.startsUncalibrated old i then t.raise .socUncalibrated (some i) else t

theorem noteUncalibrated_eq (s old : State) : s.noteUncalibrated old = s.forEach (List.range 4) (State.noteString old) := rfl

theorem startsUncalibrated_of {L : List Part} (h : s.changesOnly t L)
    (apart : Part.sys ∉ L ∧ Part.config ∉ L ∧ Part.strings ∉ L) (old : State) (i : Nat) :
    t.startsUncalibrated old i = s.startsUncalibrated old i := by
  unfold State.startsUncalibrated State.stringEntry State.stringAt State.tables
  rw [h .sys apart.1, h .config apart.2.1, h .strings apart.2.2]

theorem noteString_frame (old : State) (i : Nat) (s : State) : s.changesOnly (State.noteString old i s) [.notices, .counters] :=
  frame_of fun h hs => keeps_ite (h.raise (List.Subset.refl _) hs) hs

theorem noteUncalibrated_announces (s old : State) :
    s.announces (s.noteUncalibrated old) (((List.range 4).filter (s.startsUncalibrated old)).map fun i =>
      (.socUncalibrated, some i)) := by
  rw [← flatMap_if, noteUncalibrated_eq]
  refine announces_forEach (Inv := fun t => s.changesOnly t [.notices, .counters]) (fun i t same =>
    ⟨State.changesOnly_trans same (noteString_frame old i t), ?_⟩) _ (State.changesOnly_refl s _)
  rw [← startsUncalibrated_of same (by decide) old i]
  refine announces_if (L := []) (fun yes => ?_) (fun no => ?_) (by decide)
  · rw [State.noteString, if_pos yes]
    exact announces_raise ..
  · rw [State.noteString, no]
    exact State.changesOnly_refl t _

theorem relatchZones_announces (s : State) : s.announces (s.forEach allZones State.relatchZone)
    ((allZones.filter fun z => (s.fireZone z).stage.confirmed).map fun z => (.fire, some z)) := by
  rw [← flatMap_if]
  refine announces_forEach (Inv := fun t => s.changesOnly t announcedParts) (fun z t same =>
    ⟨State.changesOnly_trans same (relatchZone_frame t z), ?_⟩) _ (State.changesOnly_refl s _)
  rw [← fireZone_of_fire (same .fire (by decide)) z]
  refine announces_if (L := []) (fun yes => ?_) (fun no => ?_) (by decide)
  · rw [State.relatchZone, if_pos yes]
    exact announces_trans (announces_of_changesOnly (L := [.flags]) (frame_of fun h => h.latchStage (by decide)) (by decide))
      (announces_raise ..)
  · rw [State.relatchZone, no]
    exact State.changesOnly_refl t _

/-- The names of the notices raised before the zones are looked at. -/
def State.startNames (s old : State) : List NoticeName :=
  s.failedRecords.map (fun n => (.configFault, some n)) ++
    ((List.range 4).filter (s.startsUncalibrated old)).map (fun i => (.socUncalibrated, some i)) ++
      (allZones.filter fun z => (s.fireZone z).stage.confirmed).map fun z => (.fire, some z)

theorem lockoutRelatched_frame (s old : State) :
    s.changesOnly (s.noteFailures.noteUncalibrated old).relatchLockout announcedParts :=
  State.changesOnly_trans (noteFailures_frame s)
    (State.changesOnly_trans (State.changesOnly_mono (noteUncalibrated_frame _ _) (by decide))
      (State.changesOnly_mono (relatchLockout_frame _) (by decide)))

theorem relatched_frame (s old : State) : s.changesOnly (s.relatched old) announcedParts :=
  State.changesOnly_trans (lockoutRelatched_frame s old) (relatchZones_frame _)

theorem announced_frame (s old : State) : s.changesOnly (s.announced old) announcedParts :=
  State.changesOnly_trans (relatched_frame s old) (State.changesOnly_mono (latchHoldup_frame _) (by decide))

theorem noteStrings_announces (s old : State) : s.announces (s.noteFailures.noteUncalibrated old)
    (s.failedRecords.map (fun n => (.configFault, some n)) ++
      ((List.range 4).filter (s.startsUncalibrated old)).map fun i => (.socUncalibrated, some i)) := by
  have same : s.noteFailures.startsUncalibrated old = s.startsUncalibrated old :=
    funext fun i => startsUncalibrated_of (noteFailures_frame s) (by decide) old i
  have strings := noteUncalibrated_announces s.noteFailures old
  rw [same] at strings
  exact announces_trans (noteFailures_announces s) strings

theorem relatched_announces (s old : State) : s.announces (s.relatched old) (s.startNames old) := by
  have zones := relatchZones_announces (s.noteFailures.noteUncalibrated old).relatchLockout
  have fire := lockoutRelatched_frame s old .fire (by decide)
  have same : (fun z => ((s.noteFailures.noteUncalibrated old).relatchLockout.fireZone z).stage.confirmed) =
      fun z => (s.fireZone z).stage.confirmed := funext fun z => by rw [fireZone_of_fire fire]
  rw [same] at zones
  exact announces_trans (announces_quiet (noteStrings_announces s old) (relatchLockout_frame _) (by decide)) zones

/-- What is announced before the zones are looked at. -/
theorem announced_announces (s old : State) : s.announces (s.announced old) (s.startNames old) :=
  announces_quiet (relatched_announces s old) (latchHoldup_frame _) (by decide)

/-! ### The flags (R119, R151, R171) -/

theorem isLatched_of_quiet {L : List Part} {g : Flag} (h : s.changesOnly t L) (apart : Part.flags ∉ L) :
    t.isLatched g = s.isLatched g :=
  congrArg (fun f : FlagRec => f.latched.getLsbD g.bit) (h .flags apart)

theorem noteFailures_latches (s : State) (g : Flag) :
    s.noteFailures.isLatched g = true ↔ s.isLatched g = true ∨ (g = .configFault ∧ s.failedRecords ≠ []) := by
  have each := isLatched_forEach (g := g) (Inv := fun _ => True) (c := fun _ => g = .configFault)
    (f := fun n s => (s.latch .configFault).raise .configFault (some n)) (fun n t _ => ⟨trivial, by
      rw [isLatched_of_quiet (raise_frame _ _ _) (by decide), isLatched_latch_iff]⟩) s.failedRecords (s := s) trivial
  refine each.trans (or_congr Iff.rfl ⟨fun ⟨n, mem, is⟩ => ⟨is, List.ne_nil_of_mem mem⟩, fun ⟨is, some_⟩ => ?_⟩)
  obtain ⟨n, mem⟩ := List.exists_mem_of_ne_nil _ some_
  exact ⟨n, mem, is⟩

theorem relatchLockout_latches (s : State) (g : Flag) : s.relatchLockout.isLatched g = true ↔
    s.isLatched g = true ∨ (g = .lockout ∧ s.conn.lockout ≠ .none) ∨ (g = .breakerFail ∧ s.conn.lockout = .breakerFail) := by
  have first : (if s.conn.lockout == .none then s else s.latch .lockout) =
      if s.conn.lockout != .none then s.latch .lockout else s := by
    show _ = if (!(s.conn.lockout == .none)) = true then _ else _
    cases s.conn.lockout == .none <;> rfl
  have conn : (if s.conn.lockout != .none then s.latch .lockout else s).conn = s.conn := by split <;> rfl
  unfold State.relatchLockout
  dsimp only
  rw [first, conn, isLatched_latchIf, isLatched_latchIf, bne_iff_ne, beq_iff_eq, or_assoc]

theorem relatchZone_latches (s : State) (z : Nat) (g : Flag) : (s.relatchZone z).isLatched g = true ↔
    s.isLatched g = true ∨ (g = .fire ∧ (s.fireZone z).stage.confirmed = true) ∨
      (g = .release ∧ (s.fireZone z).stage = .released) := by
  unfold State.relatchZone State.latchStage
  cases stage : (s.fireZone z).stage <;>
    simp [FireStage.confirmed, isLatched_of_quiet (raise_frame _ _ _) (L := [.notices, .counters]), isLatched_latch_iff, or_assoc]

theorem relatchZones_latches (s : State) (g : Flag) : (s.forEach allZones State.relatchZone).isLatched g = true ↔
    s.isLatched g = true ∨ (g = .fire ∧ ∃ z < 8, (s.fireZone z).stage.confirmed = true) ∨
      (g = .release ∧ ∃ z < 8, (s.fireZone z).stage = .released) := by
  have each := isLatched_forEach (g := g) (Inv := fun t => t.fire = s.fire)
    (c := fun z => (g = .fire ∧ (s.fireZone z).stage.confirmed = true) ∨ (g = .release ∧ (s.fireZone z).stage = .released))
    (f := State.relatchZone) (fun z t same => ⟨(relatchZone_frame t z .fire (by decide)).trans same, by
      rw [relatchZone_latches, fireZone_of_fire same]⟩) allZones (s := s) rfl
  refine each.trans (or_congr Iff.rfl ?_)
  simp only [allZones, List.mem_range, and_or_left, exists_or, ← and_assoc, and_comm (b := g = _)]
  simp only [and_assoc, exists_and_left]

/-- The flags that the announcements leave latched. -/
theorem announced_latches (s old : State) (g : Flag) : (s.announced old).isLatched g = true ↔ s.isLatched g = true ∨
    (g = .configFault ∧ s.failedRecords ≠ []) ∨ (g = .lockout ∧ s.conn.lockout ≠ .none) ∨
      (g = .breakerFail ∧ s.conn.lockout = .breakerFail) ∨ (g = .fire ∧ ∃ z < 8, (s.fireZone z).stage.confirmed = true) ∨
        (g = .release ∧ ∃ z < 8, (s.fireZone z).stage = .released) ∨ (g = .holdupLow ∧ s.supply.holdupLow = true) := by
  have strings : (s.noteFailures.noteUncalibrated old).isLatched g = s.noteFailures.isLatched g :=
    isLatched_of_quiet (noteUncalibrated_frame _ _) (by decide)
  have conn : (s.noteFailures.noteUncalibrated old).conn = s.conn :=
    (noteUncalibrated_frame _ old .conn (by decide)).trans (noteFailures_frame s .conn (by decide))
  have fire := lockoutRelatched_frame s old .fire (by decide)
  have supply := relatched_frame s old .supply (by decide)
  rw [State.announced, isLatched_latchIf, supply, State.relatched, relatchZones_latches, relatchLockout_latches, conn, strings,
    noteFailures_latches]
  simp only [fireZone_of_fire fire, or_assoc]

end Sys2Proof.Machine
end

section
/-! SUPPORT for O5 and O6: the whole start of a part at rest (R179). -/

namespace Sys2Proof.Machine

variable {s t u old : State} {z : Nat}

/-- The zones looked at for UNWATCHED. -/
def State.watchZones (s : State) : State := s.forEach allZones fun z s => s.setUnwatched z

/-- The part once the zones are looked at for the first time. -/
def State.lookedAt (s old : State) : State := (s.announced old).watchZones

/-- The part once the initial frame and the initial command are placed. -/
def State.firstOrders (s : State) : State := (s.makeFrame .initialZero).makeCoolant s.anyConfirmed

theorem start_eq (s old : State) :
    s.start old = (s.lookedAt old).firstOrders.raise .started (some (s.lookedAt old).firstOrders.startedSubject) := by
  unfold State.start State.lookedAt State.announced State.relatched State.watchZones State.firstOrders
  dsimp only

/-! ### The names of a start -/

/-- The names of all notices of a start. -/
def State.allNames (s old : State) : List NoticeName :=
  s.startNames old ++ (allZones.filter s.zoneUnwatched).map (fun z => (.zoneUnwatched, some z))

theorem mem_names {raised : List Nat} {k : NoticeKind} {n : NoticeName}
    (h : n ∈ raised.map fun i => ((k, some i) : NoticeName)) : n.1 = k := by
  obtain ⟨i, -, rfl⟩ := List.mem_map.mp h
  rfl

theorem nodup_names {raised : List Nat} (h : raised.Nodup) (k : NoticeKind) :
    (raised.map fun i => ((k, some i) : NoticeName)).Nodup :=
  nodup_map_of_injective (fun _ _ same => Option.some.inj (congrArg Prod.snd same)) h

/-- Names of one more kind, which none before is of. -/
theorem nodup_append_names {a : List NoticeName} {raised : List Nat} {k : NoticeKind} (ha : a.Nodup)
    (other : ∀ n ∈ a, n.1 ≠ k) (h : raised.Nodup) : (a ++ raised.map fun i => ((k, some i) : NoticeName)).Nodup :=
  List.nodup_append.mpr ⟨ha, nodup_names h k, fun n hn m hm same => other n hn (same ▸ mem_names hm)⟩

theorem failedRecords_nodup (s : State) : s.failedRecords.Nodup :=
  nodup_filter _ (nodup_map_of_injective (fun _ _ => Nat.succ.inj) List.nodup_range)

theorem kind_of_startNames {n : NoticeName} (h : n ∈ s.startNames old) :
    n.1 = .configFault ∨ n.1 = .socUncalibrated ∨ n.1 = .fire := by
  rcases List.mem_append.mp h with h | h
  · exact (List.mem_append.mp h).imp mem_names fun h => .inl (mem_names h)
  · exact .inr (.inr (mem_names h))

theorem kind_of_allNames {n : NoticeName} (h : n ∈ s.allNames old) : n.1 ≠ .started := by
  rcases List.mem_append.mp h with h | h
  · rcases kind_of_startNames h with k | k | k <;> rw [k] <;> decide
  · rw [mem_names h]
    decide

theorem nodup_allNames (s old : State) : (s.allNames old).Nodup := by
  refine nodup_append_names (nodup_append_names (nodup_append_names (nodup_names (failedRecords_nodup s) _) (fun n h => ?_)
    (nodup_filter _ List.nodup_range)) (fun n h => ?_) (nodup_filter _ List.nodup_range)) (fun n h => ?_) (nodup_filter _ List.nodup_range)
  · rw [mem_names h]
    decide
  · rcases List.mem_append.mp h with h | h <;> rw [mem_names h] <;> decide
  · rcases kind_of_startNames h with k | k | k <;> rw [k] <;> decide

theorem length_allNames (s old : State) : (s.allNames old).length < 65535 := by
  have few (l : List Nat) (p : Nat → Bool) : (l.filter p).length ≤ l.length := List.length_filter_le p l
  have a : s.failedRecords.length ≤ 18 := few _ _
  have b := few (List.range 4) (s.startsUncalibrated old)
  have c := few allZones fun z => (s.fireZone z).stage.confirmed
  have d := few allZones s.zoneUnwatched
  have eight : allZones.length = 8 := rfl
  simp only [State.allNames, State.startNames, List.length_append, List.length_map, List.length_range] at *
  omega

/-! ### The zones looked at -/

/-- A part whose blocks have their reset values, before its start. -/
structure State.AtStart (s : State) : Prop where
  time : s.time = 0
  held : s.gate.state = .held
  unmade : s.gate.unmade = s.gate
  port : s.fieldPort = .atReset
  counters : s.counters = {}
  notices : s.notices = []
  number : s.envelope.record.number = 0
  fresh : ∀ z, (s.fireZone z).unwatched = false

theorem ordersNothing_of_unmade (h : s.gate.unmade = s.gate) : s.ordersNothing := by
  unfold State.ordersNothing
  rw [← h]
  exact ⟨rfl, rfl⟩

theorem nodup_allZones : allZones.Nodup := List.nodup_range

theorem watchZones_pass (quiet : s.ordersNothing) (fresh : ∀ z, (s.fireZone z).unwatched = false)
    (low : s.envelope.record.number < 65536) : WatchPass s s.watchZones allZones := by
  unfold State.watchZones
  have nodup := nodup_allZones
  revert nodup
  generalize allZones = l
  exact fun nodup => watchPass nodup quiet (fun z _ => fresh z) low

theorem fireZone_watchZones (eight : z < 8) (inRange : z < s.fire.zones.length) :
    s.watchZones.fireZone z = { s.fireZone z with unwatched := s.zoneUnwatched z } := by
  have mem : z ∈ allZones := List.mem_range.mpr eight
  unfold State.watchZones
  have nodup := nodup_allZones
  revert nodup mem
  generalize allZones = l
  exact fun mem nodup => fireZone_watchPass nodup mem inRange

theorem State.AtStart.pass (h : s.AtStart) (frame : s.changesOnly u announcedParts) : WatchPass u u.watchZones allZones := by
  have gate : u.gate = s.gate := frame .gate (by decide)
  have envelope : u.envelope = s.envelope := frame .envelope (by decide)
  have fire : u.fire = s.fire := frame .fire (by decide)
  refine watchZones_pass (ordersNothing_of_unmade ?_) (fun z => ?_) ?_
  · rw [gate]
    exact h.unmade
  · rw [fireZone_of_fire fire]
    exact h.fresh z
  · rw [envelope, h.number]
    decide

/-- What a part `u` that has announced what stands at its start has come to once its zones are looked at. -/
structure LookedAt (s old u t : State) : Prop where
  frame : s.changesOnly t [.fire, .envelope, .notices, .flags, .counters]
  flags : t.flags = u.flags
  unseen : t.fire.unseen = s.fire.unseen
  zones : ∀ z < 8, z < s.fire.zones.length → t.fireZone z = { s.fireZone z with unwatched := s.zoneUnwatched z }
  timer : t.envelope.timerEnd = s.envelope.timerEnd
  number : t.envelope.record.number = (allZones.filter s.zoneUnwatched).length
  entered : Entered 0 (s.allNames old) {} (t.notices, t.counters)

theorem lookedAt_of_announced (h : s.AtStart) (frame : s.changesOnly u announcedParts)
    (announced : s.announces u (s.startNames old)) : LookedAt s old u u.watchZones := by
  have pass : WatchPass u u.watchZones allZones := h.pass frame
  have fire : u.fire = s.fire := frame .fire (by decide)
  have watched : u.zoneUnwatched = s.zoneUnwatched :=
    funext fun z => zoneUnwatched_of (frame .config (by decide)) (by rw [fire]) z
  have few : (allZones.filter s.zoneUnwatched).length ≤ 8 := List.length_filter_le _ allZones
  have envelope : u.envelope = s.envelope := frame .envelope (by decide)
  have names := pass.names
  rw [watched] at names
  obtain ⟨-, raised⟩ := announces_trans announced names
  refine ⟨State.changesOnly_trans (State.changesOnly_mono frame (by decide)) (State.changesOnly_mono pass.frame (by decide)),
    pass.frame .flags (by decide), pass.unseen.trans (congrArg FireUnit.unseen fire), fun z eight inRange => ?_,
    pass.timer.trans (congrArg (·.timerEnd) envelope), ?_, ?_⟩
  · rw [fireZone_watchZones eight (fire ▸ inRange), fireZone_of_fire fire, watched]
  · rw [pass.number, envelope, h.number, watched]
    omega
  · rw [raised, h.time, h.notices, h.counters]
    exact entered_of_distinct rfl (nodup_allNames s old) (Nat.lt_succ_of_lt (length_allNames s old))

theorem lookedAt_of_atStart (h : s.AtStart) : LookedAt s old (s.announced old) (s.lookedAt old) :=
  lookedAt_of_announced h (announced_frame s old) (announced_announces s old)

/-! ### The first orders and STARTED -/

theorem coolantFrame_of_same (making : t.coolantMaking = s.coolantMaking) (sys : t.sys = s.sys) : t.coolantFrame = s.coolantFrame := by
  funext a
  unfold State.coolantFrame
  dsimp only
  rw [making, ownFrame_of_sys sys]

theorem LookedAt.atRest (h : s.AtStart) (looked : LookedAt s old u t) : t.AtRest := by
  have gate : t.gate = s.gate := looked.frame .gate (by decide)
  refine ⟨(looked.frame .time (by decide)).trans h.time, ?_, ?_, (looked.frame .fieldPort (by decide)).trans h.port,
    _, looked.entered.counters⟩
  · rw [gate, h.held]
  · rw [gate, h.unmade]

/-- What a part has come to once its first frame and its first command are placed. -/
structure FirstOrders (s t : State) : Prop where
  frame : s.changesOnly t [.envelope, .gate, .thermal, .fieldPort, .counters]
  envelope : t.envelope = { s.envelope with record := s.evaluation }
  gate : t.gate = { s.gate with lastFrame := t.pcsAddress.map fun _ => 0 }
  thermal : t.thermal = s.thermal.recorded t.coolantMaking 0
    (if (t.addressOf .chiller 0).isSome then .queued else .unaddressed)
  port : t.fieldPort = ⟨none, (t.pcsAddress.map s.zeroFrame).toList ++
      (if t.anyConfirmed then ((t.addressOf .chiller 0).map t.coolantFrame).toList else []),
    if t.anyConfirmed then [] else ((t.addressOf .chiller 0).map t.coolantFrame).toList, none⟩
  counters : t.counters = { s.counters with
    dispatchUnaddressed := if t.pcsAddress.isSome then 0 else 1
    coolantUnaddressed := if (t.addressOf .chiller 0).isSome then 0 else 1 }

/-- The first coolant command after the initial zero frame. -/
theorem commandPlaced_of_zeroFrame (h : s.AtRest) (zero : ZeroFramePlaced s u) : CommandPlaced u (u.makeCoolant u.anyConfirmed) := by
  obtain ⟨n, counters⟩ := h.counters
  have counted := zero.counters
  rw [counters] at counted
  refine makeCoolant_of_started (fun w hw => ?_) ?_ ?_ ?_ ?_
  · rw [zero.port] at hw
    cases pcs : s.pcsAddress with
    | none => exact nomatch (pcs ▸ hw : w ∈ ((none : Option Nat).map s.zeroFrame).toList)
    | some a =>
      rw [pcs] at hw
      obtain rfl : w = s.zeroFrame a := by simpa using hw
      exact (by decide : kindDispatch ≠ kindCoolantCommand)
  · rw [zero.port]
  · rw [zero.port]
  · rw [counted]
    exact ⟨rfl, rfl⟩
  · rw [counted]

theorem firstOrders_of_atRest (h : s.AtRest) : FirstOrders s s.firstOrders := by
  have zero := makeFrame_of_atRest h
  have command := commandPlaced_of_zeroFrame h zero
  have confirmed : (s.makeFrame .initialZero).anyConfirmed = s.anyConfirmed := anyConfirmed_of_fire (zero.frame .fire (by decide))
  have def_ : s.firstOrders = (s.makeFrame .initialZero).makeCoolant (s.makeFrame .initialZero).anyConfirmed := by
    rw [confirmed, State.firstOrders]
  rw [def_]
  generalize s.makeFrame .initialZero = u at *
  generalize u.makeCoolant u.anyConfirmed = t at *
  have config : t.config = u.config := command.frame .config (by decide)
  have config' : t.config = s.config := config.trans (zero.frame .config (by decide))
  have fire : t.fire = u.fire := command.frame .fire (by decide)
  have chiller : t.addressOf .chiller 0 = u.addressOf .chiller 0 := addressOf_of_config config _ _
  have pcs : t.pcsAddress = s.pcsAddress := addressOf_of_config config' _ _
  have stands : t.anyConfirmed = u.anyConfirmed := anyConfirmed_of_fire fire
  have thermal : u.thermal = s.thermal := zero.frame .thermal (by decide)
  have making : t.coolantMaking = u.coolantMaking := by
    refine coolantMaking_of_same ?_ fire (command.frame .supply (by decide)) config
    rw [command.thermal, demands_recorded]
  have time : u.time = 0 := (zero.frame .time (by decide)).trans h.time
  refine ⟨State.changesOnly_trans (State.changesOnly_mono zero.frame (by decide)) (State.changesOnly_mono command.frame (by decide)),
    (command.frame .envelope (by decide)).trans zero.envelope, ?_, ?_, ?_, ?_⟩
  · rw [pcs, ← zero.gate]
    exact command.frame .gate (by decide)
  · rw [chiller, making, command.thermal, thermal, time]
  · rw [chiller, stands, pcs, coolantFrame_of_same making (command.frame .sys (by decide)), command.port, zero.port]
  · rw [chiller, pcs, command.counters, zero.counters]

/-- What a part that had its blocks at their reset values is when it has started. -/
structure Started (s old t : State) : Prop where
  frame : s.changesOnly t [.envelope, .gate, .thermal, .fire, .fieldPort, .notices, .flags, .counters]
  flags : t.flags = (s.announced old).flags
  unseen : t.fire.unseen = s.fire.unseen
  zones : ∀ z < 8, z < s.fire.zones.length → t.fireZone z = { s.fireZone z with unwatched := s.zoneUnwatched z }
  envelope : ∃ w, LookedAt s old (s.announced old) w ∧ w.fire = t.fire ∧ t.envelope = ⟨w.evaluation, s.envelope.timerEnd⟩
  gate : t.gate = { s.gate with lastFrame := t.pcsAddress.map fun _ => 0 }
  thermal : t.thermal = s.thermal.recorded t.coolantMaking 0
    (if (t.addressOf .chiller 0).isSome then .queued else .unaddressed)
  port : t.fieldPort = ⟨none, (t.pcsAddress.map s.zeroFrame).toList ++
      (if t.anyConfirmed then ((t.addressOf .chiller 0).map t.coolantFrame).toList else []),
    if t.anyConfirmed then [] else ((t.addressOf .chiller 0).map t.coolantFrame).toList, none⟩
  notices : t.notices = (s.allNames old ++ [((.started, some s.startedSubject) : NoticeName)]).foldl
    (fun q n => enterNotice q (NoticeName.at 0 n)) []
  counters : t.counters = {
    noticesLost := (s.allNames old).length + 1 - 24
    dispatchUnaddressed := if t.pcsAddress.isSome then 0 else 1
    coolantUnaddressed := if (t.addressOf .chiller 0).isSome then 0 else 1 }

theorem zeroFrame_of_same (gate : t.gate = s.gate) (sys : t.sys = s.sys) : t.zeroFrame = s.zeroFrame := by
  funext a
  unfold State.zeroFrame
  rw [gate, ownFrame_of_sys sys]

theorem started_of_lookedAt {w x : State} (h : s.AtStart) (looked : LookedAt s old (s.announced old) w)
    (orders : FirstOrders w x) : Started s old (x.raise .started (some x.startedSubject)) := by
  have whole : s.changesOnly x [.envelope, .gate, .thermal, .fire, .fieldPort, .notices, .flags, .counters] :=
    State.changesOnly_trans (State.changesOnly_mono looked.frame (by decide)) (State.changesOnly_mono orders.frame (by decide))
  have raised := raise_frame x .started (some x.startedSubject)
  have subject : x.startedSubject = s.startedSubject := by
    unfold State.startedSubject
    rw [whole .sys (by decide), whole .supply (by decide)]
  have time : x.time = 0 := (whole .time (by decide)).trans h.time
  have gate : w.gate = s.gate := looked.frame .gate (by decide)
  have thermal : w.thermal = s.thermal := looked.frame .thermal (by decide)
  have envelope : w.envelope.timerEnd = s.envelope.timerEnd := looked.timer
  have notices : x.notices = w.notices := orders.frame .notices (by decide)
  have zero := zeroFrame_of_same gate (looked.frame .sys (by decide))
  have entered : Entered 0 (s.allNames old) {
      dispatchUnaddressed := if x.pcsAddress.isSome then 0 else 1
      coolantUnaddressed := if (x.addressOf .chiller 0).isSome then 0 else 1 } (x.notices, x.counters) := by
    have counted := looked.entered.counters
    have old_ := looked.entered
    rw [notices]
    refine ⟨old_.queue, old_.length, old_.names, ?_⟩
    rw [orders.counters]
    dsimp only at counted
    rw [counted]
  have last := entered.snoc (n := (.started, some x.startedSubject)) (fun mem => kind_of_allNames mem rfl)
    (Nat.lt_succ_of_lt (length_allNames s old))
  have rung : ((x.raise .started (some x.startedSubject)).notices, (x.raise .started (some x.startedSubject)).counters) =
      announce 0 (x.notices, x.counters) (.started, some x.startedSubject) :=
    (announces_raise x .started (some x.startedSubject)).2.trans (congrArg (announce · _ _) time)
  rw [← rung] at last
  generalize x.raise .started (some x.startedSubject) = t at *
  rw [subject] at last
  have fire : t.fire = x.fire := raised .fire (by decide)
  have fire' : t.fire = w.fire := fire.trans (orders.frame .fire (by decide))
  have config : t.config = x.config := raised .config (by decide)
  have pcs : t.pcsAddress = x.pcsAddress := addressOf_of_config config _ _
  have chiller : t.addressOf .chiller 0 = x.addressOf .chiller 0 := addressOf_of_config config _ _
  have stands : t.anyConfirmed = x.anyConfirmed := anyConfirmed_of_fire fire
  have making : t.coolantMaking = x.coolantMaking :=
    coolantMaking_of_same (congrArg (fun y : Thermal => y.zones.map (·.demand)) (raised .thermal (by decide))) fire
      (raised .supply (by decide)) config
  refine ⟨State.changesOnly_trans whole (State.changesOnly_mono raised (by decide)), ?_, ?_, fun z eight inRange => ?_,
    ⟨w, looked, fire'.symm, ?_⟩, ?_, ?_, ?_, last.queue, ?_⟩
  · exact ((raised .flags (by decide)).trans (orders.frame .flags (by decide))).trans looked.flags
  · rw [fire']
    exact looked.unseen
  · rw [fireZone_of_fire fire']
    exact looked.zones z eight inRange
  · rw [← envelope]
    exact (raised .envelope (by decide)).trans orders.envelope
  · rw [pcs, ← gate, ← orders.gate]
    exact raised .gate (by decide)
  · rw [chiller, making, ← thermal, ← orders.thermal]
    exact raised .thermal (by decide)
  · rw [chiller, pcs, stands, coolantFrame_of_same making (raised .sys (by decide)), ← zero, ← orders.port]
    exact raised .fieldPort (by decide)
  · have counted := last.counters
    rw [List.length_append, List.length_singleton] at counted
    rw [pcs, chiller]
    exact counted

theorem started_of_atStart (h : s.AtStart) (old : State) : Started s old (s.start old) := by
  have looked : LookedAt s old (s.announced old) (s.lookedAt old) := lookedAt_of_atStart h
  rw [start_eq]
  generalize s.lookedAt old = w at *
  exact started_of_lookedAt h looked (firstOrders_of_atRest (looked.atRest h))

/-! ### The blocks at their reset values (R83, R151) -/

theorem fireZoneAfterReset_unwatched (s : State) (cause : ResetCause) (u : Tables) (r : FireZone) :
    (s.fireZoneAfterReset cause u r).unwatched = false := by
  unfold State.fireZoneAfterReset
  split <;> exact rfl

theorem fireZone_blocksAfterReset (s : State) (cause : ResetCause) (found : ResetEnd) (z : Nat) :
    (s.blocksAfterReset cause found).fireZone z =
      if z < s.fire.zones.length then s.fireZoneAfterReset cause s.image.loaded.tables (s.fireZone z) else .atReset := by
  show (s.fire.zones.map (s.fireZoneAfterReset cause s.image.loaded.tables)).getD z .atReset = _
  rw [List.getD_eq_getElem?_getD, List.getElem?_map]
  split
  · rename_i inRange
    rw [List.getElem?_eq_getElem inRange]
    exact congrArg (s.fireZoneAfterReset cause s.image.loaded.tables) (fireZone_of_getElem? (List.getElem?_eq_getElem inRange)).symm
  · rename_i outside
    rw [List.getElem?_eq_none (Nat.le_of_not_lt outside)]
    exact rfl

theorem blocksAfterReset_atStart (s : State) (cause : ResetCause) (found : ResetEnd) :
    (s.blocksAfterReset cause found).AtStart := by
  refine ⟨rfl, rfl, rfl, rfl, rfl, rfl, rfl, fun z => ?_⟩
  rw [fireZone_blocksAfterReset]
  split
  · exact fireZoneAfterReset_unwatched ..
  · exact rfl

/-- A part that a reset held, once it has started. -/
theorem started_of_reset (s : State) (cause : ResetCause) (found : ResetEnd) :
    Started (s.blocksAfterReset cause found) s ((s.blocksAfterReset cause found).start s) :=
  started_of_atStart (blocksAfterReset_atStart s cause found) s

end Sys2Proof.Machine
end

section
/-! PROOF of O5: RESET COMPLETE starts the part (R42, R81, R100, R119, R133, R151, R164, R170, R175, R177 to R179). -/

namespace Sys2Proof.Machine

variable {s t u : State} {z : Nat}

/-! ### The tables of an image (R179) -/

theorem Tables.number_of_get {t : Tables} {n : Nat} {c : TableContents} (h : t.get n = some c) : c.number = n := by
  unfold Tables.get at h
  split at h <;> cases h <;> rfl

theorem Tables.exists_get (t : Tables) {n : Nat} (h : 1 ≤ n ∧ n ≤ 16) : ∃ c, t.get n = some c := by
  have named : n = 1 ∨ n = 2 ∨ n = 3 ∨ n = 4 ∨ n = 5 ∨ n = 6 ∨ n = 7 ∨ n = 8 ∨ n = 9 ∨ n = 10 ∨ n = 11 ∨ n = 12 ∨ n = 13 ∨
      n = 14 ∨ n = 15 ∨ n = 16 := by omega
  rcases named with rfl | rfl | rfl | rfl | rfl | rfl | rfl | rfl | rfl | rfl | rfl | rfl | rfl | rfl | rfl | rfl <;>
    exact ⟨_, rfl⟩

theorem Tables.get_put_same (t : Tables) (c : TableContents) : (t.put c).get c.number = some c := by
  cases c <;> rfl

theorem Tables.get_put_other (t : Tables) (c : TableContents) {n : Nat} (other : n ≠ c.number) : (t.put c).get n = t.get n := by
  unfold Tables.get
  cases c <;> split
  any_goals exact rfl
  all_goals exact absurd rfl other

/-- The tables with table `n` taken from others. -/
theorem Tables.get_copy (t u : Tables) {n : Nat} (h : 1 ≤ n ∧ n ≤ 16) (k : Nat) :
    (t.copy u n).get k = if k = n then u.get k else t.get k := by
  obtain ⟨c, hc⟩ := u.exists_get h
  have number := Tables.number_of_get hc
  have copy : t.copy u n = t.put c := by rw [Tables.copy, hc]
  rw [copy]
  split
  · rename_i same
    rw [same, hc, ← number]
    exact t.get_put_same c
  · rename_i other
    exact t.get_put_other c (number ▸ other)

theorem get_foldl_copy (m : Image) (k : Nat) : ∀ {l : List Nat} {t : Tables}, (∀ n ∈ l, 1 ≤ n ∧ n ≤ 16) →
    (l.foldl (fun t n => if m.passes n then t.copy m.tables n else t) t).get k =
      if k ∈ l ∧ m.passes k = true then m.tables.get k else t.get k := by
  intro l
  induction l with
  | nil => exact fun _ => (if_neg fun h => nomatch h.1).symm
  | cons n l ih =>
    intro t range
    obtain ⟨here, later⟩ := List.forall_mem_cons.mp range
    rw [List.foldl_cons, ih later]
    have copied : (if m.passes n then t.copy m.tables n else t).get k =
        if k = n ∧ m.passes n = true then m.tables.get k else t.get k := by
      split
      · rename_i passes
        simp only [Tables.get_copy _ _ here, passes, and_true]
      · rename_i fails
        simp only [fails, Bool.false_eq_true, and_false, if_false]
    rw [copied]
    by_cases same : k = n
    · subst same
      by_cases passes : m.passes k = true <;> simp [passes]
    · simp only [same, false_and, if_false, List.mem_cons, false_or]

/-- Each table after an image load is the stored one, or the built-in default where its record fails. -/
theorem get_loadedTables (m : Image) {n : Nat} (low : 1 ≤ n) (high : n ≤ 16) :
    m.loadedTables.get n = if m.passes n then m.tables.get n else Tables.builtIn.get n := by
  have mem : n ∈ (List.range 16).map (· + 1) := List.mem_map.mpr ⟨n - 1, List.mem_range.mpr (by omega), by omega⟩
  refine (get_foldl_copy m n fun k hk => ?_).trans (by simp only [mem, true_and])
  obtain ⟨i, hi, rfl⟩ := List.mem_map.mp hk
  have := List.mem_range.mp hi
  omega

theorem faulted_loaded (m : Image) {n : Nat} (low : 1 ≤ n) (high : n ≤ 16) : m.loaded.faulted.getD (n - 1) false = !m.passes n := by
  have inRange : n - 1 < 16 := by omega
  show (((List.range 16).map (· + 1)).map fun n => !m.passes n).getD (n - 1) false = _
  rw [List.map_map, List.getD_eq_getElem?_getD, List.getElem?_map, List.getElem?_range inRange]
  exact congrArg (fun k => !m.passes k) (Nat.sub_add_cancel low)

/-! ### The records after reset (R21, R42, R81, R133) -/

theorem strings_blocksAfterReset (s : State) (cause : ResetCause) (found : ResetEnd) {r : StringRec}
    (h : r ∈ (s.blocksAfterReset cause found).strings) : ∃ charge retained, r = { StringRec.atReset charge with retained } := by
  obtain ⟨i, hi, rfl⟩ := List.mem_mapIdx.mp h
  exact ⟨_, _, rfl⟩

theorem stringAt_blocksAfterReset (s : State) (cause : ResetCause) (found : ResetEnd) (i : Nat) :
    ((s.blocksAfterReset cause found).stringAt i).state = .awaiting := by
  unfold State.stringAt
  rw [List.getD_eq_getElem?_getD]
  cases h : (s.blocksAfterReset cause found).strings[i]? with
  | none => exact rfl
  | some r =>
    obtain ⟨charge, retained, rfl⟩ := strings_blocksAfterReset s cause found (List.mem_of_getElem? h)
    exact rfl

theorem gridFactor_blocksAfterReset (s : State) (cause : ResetCause) (found : ResetEnd) :
    (s.blocksAfterReset cause found).conn.state.gridFactor = 0 := by
  show (if (s.connAfterReset cause s.image.loaded.tables).lockout == .none then ConnState.openWait else
    ConnState.openLocked).gridFactor = 0
  split <;> exact rfl

theorem lineIsActive_blocksAfterReset (s : State) (cause : ResetCause) (found : ResetEnd) (f : LineFunction) :
    (s.blocksAfterReset cause found).lineIsActive f = false := by
  have unknown (i : Nat) : ((s.blocksAfterReset cause found).lineAt i).state = .unknown := by
    show ((s.lines.inputs.map fun r => (⟨r.high, 0, .unknown⟩ : LineRec)).getD i ⟨false, 0, .unknown⟩).state = _
    rw [List.getD_eq_getElem?_getD, List.getElem?_map]
    cases s.lines.inputs[i]? <;> exact rfl
  rw [State.lineIsActive, List.any_eq_false]
  intro i _
  rw [unknown]
  simp

/-- The first evaluation of a part. -/
theorem evaluation_started {w : State} {cause : ResetCause} {found : ResetEnd} {a b : State}
    (looked : LookedAt (s.blocksAfterReset cause found) a b w) :
    w.evaluation = { EnvelopeRec.atReset with
      fFire := w.fireFactor, fCoolant := 1024, fCells := 1024
      fConfig := if w.config.faulted.any id then 0 else 1024
      fEstop := 1024, number := (allZones.filter (s.blocksAfterReset cause found).zoneUnwatched).length + 1 } := by
  have strings : w.strings = (s.blocksAfterReset cause found).strings := looked.frame .strings (by decide)
  have conn : w.conn = (s.blocksAfterReset cause found).conn := looked.frame .conn (by decide)
  have thermal : w.thermal = (s.blocksAfterReset cause found).thermal := looked.frame .thermal (by decide)
  have cells : w.cellsHold = (s.blocksAfterReset cause found).cellsHold := looked.frame .cellsHold (by decide)
  have time : w.time = (s.blocksAfterReset cause found).time := looked.frame .time (by decide)
  have lines : w.lines = (s.blocksAfterReset cause found).lines := looked.frame .lines (by decide)
  have config : w.config = (s.blocksAfterReset cause found).config := looked.frame .config (by decide)
  have few : (allZones.filter (s.blocksAfterReset cause found).zoneUnwatched).length ≤ 8 := List.length_filter_le _ allZones
  have idle (i : Nat) (_ : i < 4) : w.stringCounts i = false := by
    have awaiting : (w.stringAt i).state = .awaiting := by
      rw [State.stringAt, strings]
      exact stringAt_blocksAfterReset s cause found i
    rw [State.stringCounts, awaiting]
    exact Bool.and_false _
  have stop : w.lineIsActive .eStop = false :=
    (lineIsActive_of config lines .eStop).trans (lineIsActive_blocksAfterReset s cause found .eStop)
  have coolant : w.coolantFactor = 1024 := by
    rw [State.coolantFactor, thermal]
    exact rfl
  rw [evaluation_of_open idle (by rw [conn]; exact gridFactor_blocksAfterReset s cause found), coolant, stop, cells, time,
    looked.number, Nat.mod_eq_of_lt (by omega)]
  exact rfl

/-- The zone of a slot at the end of a reset. -/
theorem zoneInUse_of_atReset {tables : Tables} (modules : t.modules = tables.t16.map ModuleRec.atReset)
    (config : t.tables = tables) (z : Nat) : t.zoneInUse z =
      (List.range 48).any fun m => tables.t16.getD m 0 == z && slotInUse tables m := by
  have zone (m : Nat) : (t.moduleAt m).zone = tables.t16.getD m 0 := by
    rw [State.moduleAt, modules, List.getD_eq_getElem?_getD, List.getElem?_map, List.getD_eq_getElem?_getD]
    cases tables.t16[m]? <;> exact rfl
  have used (m : Nat) : t.moduleInUse m = slotInUse tables m := by
    rw [State.moduleInUse, State.stringEntry, config]
    exact rfl
  rw [State.zoneInUse, State.modulesInUse, List.any_filter]
  simp only [zone, used, Bool.and_comm]

theorem zones_recorded {tables : Tables} (x : Thermal) (zones : x.zones = (List.range 8).map (zoneAfterReset tables))
    (m : CoolantMaking) (o : CommandOutcome) : (x.recorded m 0 o).zones = (List.range 8).map fun z =>
      { zoneAfterReset tables z with valveCode := m.valves.getD z 0, valveDuty := dutyOf (m.valves.getD z 0) } := by
  show x.zones.mapIdx _ = _
  rw [zones]
  apply List.ext_getElem (by simp)
  intro z h1 h2
  rw [List.getElem_mapIdx, List.getElem_map, List.getElem_map, List.getElem_range]
  exact rfl

/-- The interval of the rounds begins anew, longer in HOLDUP. -/
theorem rounds_blocksAfterReset (s : State) (cause : ResetCause) (found : ResetEnd) :
    (s.blocksAfterReset cause found).rounds = ⟨.idle, 0, true, 0, none, BitVec.ofNat 32 (if found.vauxAbove then
      s.image.loaded.params.roundInterval
    else max s.image.loaded.params.roundInterval (s.image.loaded.params.holdupInterval * 1000)), 0⟩ := by
  obtain ⟨pins, above, low⟩ := found
  cases above <;> exact rfl

theorem gate_blocksAfterReset (s : State) (cause : ResetCause) (found : ResetEnd) :
    (s.blocksAfterReset cause found).gate = ⟨.held, some (if cause = .powerOn then .start else .restart), 0, 0, false, 0, 0,
      0, 0, none, some (BitVec.ofNat 32 (s.image.loaded.params.stationTimeout * 1000)), none, none, true⟩ := by
  cases cause <;> exact rfl

/-! ### The obligation -/

/-- Settles O5: the blocks at their reset values, and what the start makes of them. -/
theorem resetCompleteStartsThePart : Obligations.ResetCompleteStartsThePart := by
  intro s h found held
  have st := started_of_reset s h.cause found
  refine ⟨_, (exec_resetComplete found s).trans (congrArg _ (completeReset_of_held held found)), ?_⟩
  generalize (s.blocksAfterReset h.cause found).start s = t at st
  have config : t.config = s.image.loaded := st.frame .config (by decide)
  have tables : t.tables = s.image.loadedTables := congrArg ConfigStore.tables config
  have params : t.params = if s.image.passes 17 then s.image.params else .builtIn := congrArg ConfigStore.params config
  have modules : t.modules = t.tables.t16.map .atReset := by
    rw [tables]
    exact st.frame .modules (by decide)
  have conn : t.conn = s.connAfterReset h.cause t.tables := by
    rw [tables]
    exact st.frame .conn (by decide)
  intro p m noLine fails
  refine ⟨st.frame .time (by decide), st.frame .sys (by decide), rfl, st.frame .image (by decide), fun n low high => ⟨?_, ?_⟩,
    ?_, ?_, ?_, st.frame .engine (by decide), st.frame .supply (by decide), st.frame .lines (by decide), ?_, modules,
    st.frame .cellsHold (by decide), ?_, fun r hr => ?_, ?_, ?_, st.frame .grid (by decide), st.frame .nodes (by decide),
    (congrArg ConnRec.feedback conn :), (congrArg ConnRec.startAdopted conn :), (congrArg ConnRec.request conn :),
    (congrArg ConnRec.tripCause conn :), (congrArg ConnRec.target conn :), (congrArg ConnRec.reconnectEnd conn :),
    (congrArg ConnRec.breakerEnd conn :), (congrArg ConnRec.historyEnd conn :), (congrArg ConnRec.tripOut conn :),
    (congrArg ConnRec.closeOut conn :), ?_, detectors_of_unseen st.unseen, (congrArg FireUnit.timerEnd st.unseen :),
    st.frame .stationPort (by decide), fun p hp => ?_⟩
  · show t.tables.get n = if !s.image.passes n then _ else _
    rw [tables, get_loadedTables _ low high]
    cases s.image.passes n <;> exact rfl
  · rw [State.isFaulted, config]
    exact faulted_loaded _ low high
  · show t.params = if !s.image.passes 17 then _ else _
    rw [params]
    cases s.image.passes 17 <;> exact rfl
  · rw [tables, config]
    exact rfl
  · show t.config.scrubEnd = BitVec.ofNat 32 (t.config.params.scrubPeriod * 1000)
    rw [config]
    exact rfl
  · show t.rounds = ⟨.idle, 0, true, 0, none, BitVec.ofNat 32 (if found.vauxAbove then t.config.params.roundInterval
      else max t.config.params.roundInterval (t.config.params.holdupInterval * 1000)), 0⟩
    rw [config, ← rounds_blocksAfterReset s h.cause found]
    exact st.frame .rounds (by decide)
  · rw [tables]
    exact st.frame .limits (by decide)
  · rw [show t.strings = _ from st.frame .strings (by decide)] at hr
    obtain ⟨charge, retained, rfl⟩ := strings_blocksAfterReset s h.cause found hr
    exact ⟨rfl, rfl, rfl, rfl, rfl, rfl, rfl, rfl⟩
  · obtain ⟨w, looked, fire, envelope⟩ := st.envelope
    have same : w.config = t.config := (looked.frame .config (by decide)).trans (st.frame .config (by decide)).symm
    have factor : w.fireFactor = t.fireFactor := by
      unfold State.fireFactor State.tables
      rw [fire, same]
    have watched : (s.blocksAfterReset h.cause found).zoneUnwatched = t.zoneUnwatched :=
      funext fun z => (zoneUnwatched_of (st.frame .config (by decide)) (detectors_of_unseen st.unseen) z).symm
    rw [envelope, evaluation_started looked, factor, same, watched]
    exact rfl
  · show t.gate = ⟨.held, some (if h.cause = .powerOn then .start else .restart), 0, 0, false, 0, 0, 0, 0,
      t.pcsAddress.map fun _ => 0, some (BitVec.ofNat 32 (t.config.params.stationTimeout * 1000)), none, none, true⟩
    rw [st.gate, gate_blocksAfterReset, config]
  · have zones := zones_recorded (s.blocksAfterReset h.cause found).thermal (tables := t.tables)
      (by rw [tables]; exact rfl) m (if (t.addressOf .chiller 0).isSome then .queued else .unaddressed)
    have used : (fun z => ({ zoneAfterReset t.tables z with
        valveCode := m.valves.getD z 0, valveDuty := dutyOf (m.valves.getD z 0) } : ZoneRec)) = fun z =>
        ⟨t.zoneInUse z, none, false, if t.zoneInUse z then t.tables.t11.fallbackCode else 0, m.valves.getD z 0,
          dutyOf (m.valves.getD z 0)⟩ := by
      funext z
      rw [zoneInUse_of_atReset modules rfl]
      exact rfl
    rw [used] at zones
    rw [st.thermal, ← zones]
    exact rfl
  · have kept : p = .pending ∨ p = .choices := by simpa using hp
    rcases kept with rfl | rfl
    · exact st.frame .pending (by decide)
    · exact st.frame .choices (by decide)

end Sys2Proof.Machine
end

section
/-! PROOF of O6: what a reset keeps, and what its end announces (R42, R57, R58, R83, R119, R133, R145, R151, R170,
R179). -/

namespace Sys2Proof.Machine

variable {s t u : State} {z : Nat}

/-! ### What is kept (R57, R58, R119, R151) -/

theorem loadedSoc_getD (m : Image) (i : Nat) : m.loadedSoc.getD i 512 = if m.passes 18 then m.soc.getD i 512 else 512 := by
  unfold Image.loadedSoc
  split
  · exact rfl
  · rcases i with _ | _ | _ | _ | i <;> exact rfl

theorem strings_blocksAfterReset_getElem? (s : State) (cause : ResetCause) (found : ResetEnd) (i : Nat) :
    (s.blocksAfterReset cause found).strings[i]? = s.strings[i]?.map fun r =>
      stringAfterReset cause r (s.image.loadedSoc.getD i 512) ((s.image.loadedTables.t10.entries.getD i .builtIn).capacityAh) := by
  show (s.strings.mapIdx _)[i]? = _
  rw [List.getElem?_mapIdx]
  exact rfl

theorem connAfterReset_powerOn (s : State) (u : Tables) : (s.connAfterReset .powerOn u).history = [] ∧
    (0 < u.t9.tripLimit → (s.connAfterReset .powerOn u).lockout = .none) := by
  constructor
  · show (if decide (u.t9.tripLimit ≤ 0) then lastEntries u.t9.tripLimit ([] : List Trip) else []) = []
    split
    · exact List.drop_nil
    · exact rfl
  · intro limit
    show (if decide (u.t9.tripLimit ≤ 0) && _ then Lockout.history else .none) = .none
    rw [decide_eq_false (Nat.not_le.mpr limit)]
    exact rfl

theorem connAfterReset_retaining (s : State) {cause : ResetCause} (kept : cause ≠ .powerOn) (u : Tables) :
    (s.connAfterReset cause u).history = (if u.t9.tripLimit ≤ s.conn.history.length then lastEntries u.t9.tripLimit s.keptHistory
      else s.keptHistory) ∧
    (s.connAfterReset cause u).lockout = (if u.t9.tripLimit ≤ s.conn.history.length ∧ s.conn.lockout = .none then .history
      else s.conn.lockout) := by
  have length : s.keptHistory.length = s.conn.history.length := List.length_map ..
  have retains : (cause != .powerOn) = true := bne_iff_ne.mpr kept
  unfold State.connAfterReset
  dsimp only
  rw [retains, ← length]
  refine ⟨?_, ?_⟩
  · simp only [if_true, decide_eq_true_eq]
  · simp only [if_true, Bool.and_eq_true, decide_eq_true_eq, beq_iff_eq]

theorem connAfterReset_state (s : State) (cause : ResetCause) (u : Tables) : (s.connAfterReset cause u).state =
    if (s.connAfterReset cause u).lockout = .none then .openWait else .openLocked := by
  show (if (s.connAfterReset cause u).lockout == .none then ConnState.openWait else .openLocked) = _
  simp only [beq_iff_eq]

theorem any_zones_iff (eight : s.fire.zones.length = 8) (p : FireZone → Bool) :
    s.fire.zones.any p = true ↔ ∃ z < 8, p (s.fireZone z) = true := by
  rw [List.any_eq_true]
  constructor
  · rintro ⟨r, mem, yes⟩
    obtain ⟨z, inRange, rfl⟩ := List.getElem_of_mem mem
    exact ⟨z, eight ▸ inRange, by rwa [fireZone_of_getElem? (List.getElem?_eq_getElem inRange)]⟩
  · rintro ⟨z, low, yes⟩
    have inRange : z < s.fire.zones.length := eight ▸ low
    rw [fireZone_of_getElem? (List.getElem?_eq_getElem inRange)] at yes
    exact ⟨_, List.getElem_mem inRange, yes⟩

theorem stringAfterReset_powerOn (r : StringRec) (stored capacity : Nat) :
    let u := stringAfterReset .powerOn r stored capacity
    u.charge = .atPowerOn stored capacity ∧ u.charge.q = stored * (capacity * 36000000) / 1024 ∧
      u.charge.qCap = capacity * 36000000 ∧ u.charge.uncalibrated = true ∧ u.retained = .none :=
  ⟨rfl, rfl, rfl, rfl, rfl⟩

theorem stringAfterReset_retaining {cause : ResetCause} (kept : cause ≠ .powerOn) (r : StringRec) (stored capacity : Nat) :
    stringAfterReset cause r stored capacity = { StringRec.atReset (r.charge.retained capacity) with retained := r.retained } := by
  cases cause with
  | powerOn => exact absurd rfl kept
  | resetLine | restart => exact rfl

/-! ### What is announced -/

theorem failedRecords_ne_nil (s : State) : s.failedRecords ≠ [] ↔ ∃ n, 1 ≤ n ∧ n ≤ 18 ∧ s.image.passes n = false := by
  have some_ : s.failedRecords ≠ [] ↔ ∃ n, n ∈ s.failedRecords :=
    ⟨List.exists_mem_of_ne_nil _, fun ⟨_, mem⟩ => List.ne_nil_of_mem mem⟩
  refine some_.trans (exists_congr fun n => ?_)
  rw [State.failedRecords, List.mem_filter, List.mem_map, Bool.not_eq_true', ← and_assoc]
  refine and_congr_left fun _ => ⟨?_, fun ⟨low, high⟩ => ⟨n - 1, List.mem_range.mpr (by omega), by omega⟩⟩
  rintro ⟨i, hi, rfl⟩
  have := List.mem_range.mp hi
  omega

theorem startsUncalibrated_eq (s old : State) (i : Nat) : s.startsUncalibrated old i =
    if (s.sys.cause == .powerOn) = true then (s.stringEntry i).inUse
    else (s.stringAt i).charge.uncalibrated && !(old.stringAt i).charge.uncalibrated := by
  unfold State.startsUncalibrated
  cases s.sys.cause <;> exact rfl

theorem startedSubject_blocksAfterReset (s : State) (cause : ResetCause) (found : ResetEnd) :
    (s.blocksAfterReset cause found).startedSubject = cause.code + (if found.vauxAbove then 0 else 4) := by
  obtain ⟨pins, above, low⟩ := found
  cases above <;> exact rfl

/-- What a zone is at the end of a reset (R151). -/
theorem fireZoneAfterReset_cases (s : State) (cause : ResetCause) (u : Tables) (r : FireZone) :
    (s.fireZoneAfterReset cause u r = .atReset ∧ (cause = .powerOn ∨ r.stage.confirmed = false)) ∨
      (s.fireZoneAfterReset cause u r = { FireZone.atReset with
        stage := r.stage, target := .fire, fireTime := some 0
        countdown := r.countdown.map fun c =>
          if u.t15.any (·.function == .releaseHold) then .paused (s.remaining c)
          else .running (BitVec.ofNat 32 (s.remaining c)) } ∧ cause ≠ .powerOn ∧ r.stage.confirmed = true) := by
  unfold State.fireZoneAfterReset
  split
  · rename_i kept
    obtain ⟨retains, confirmed⟩ := Bool.and_eq_true_iff.mp kept
    exact .inr ⟨rfl, bne_iff_ne.mp retains, confirmed⟩
  · rename_i not_
    refine .inl ⟨rfl, ?_⟩
    rcases Classical.em (cause = .powerOn) with powerOn | kept
    · exact .inl powerOn
    · exact .inr (Bool.eq_false_iff.mpr fun confirmed => not_ (Bool.and_eq_true_iff.mpr ⟨bne_iff_ne.mpr kept, confirmed⟩))

/-! ### The obligation -/

/-- Settles O6: what the reset values keep, and what the start of the part announces and places. -/
theorem resetKeepsAndAnnounces : Obligations.ResetKeepsAndAnnounces := by
  intro s h found held eight
  have st := started_of_reset s h.cause found
  refine ⟨_, (exec_resetComplete found s).trans (congrArg _ (completeReset_of_held held found)), ?_⟩
  generalize (s.blocksAfterReset h.cause found).start s = t at st
  have config : t.config = s.image.loaded := st.frame .config (by decide)
  have tables : t.tables = s.image.loadedTables := congrArg ConfigStore.tables config
  have strings : t.strings = (s.blocksAfterReset h.cause found).strings := st.frame .strings (by decide)
  have conn : t.conn = s.connAfterReset h.cause t.tables := by
    rw [tables]
    exact st.frame .conn (by decide)
  have zones : t.fire.zones.length = 8 := by
    rw [length_of_unseen st.unseen, ← eight]
    exact List.length_map ..
  have powerOnIff : (h.cause == .powerOn) = true ↔ h.cause = .powerOn := beq_iff_eq
  have keptIff : (h.cause == .powerOn) = false ↔ h.cause ≠ .powerOn := beq_eq_false_iff_ne
  intro powerOn t9
  refine ⟨fun i r u there here => ?_, ?_, ?_, ?_, fun z low => ?_, ?_, fun f => ?_, ?_, ?_⟩
  · rw [strings, strings_blocksAfterReset_getElem?, there, loadedSoc_getD, ← tables, Option.map_some,
      Option.some_inj] at here
    subst here
    refine ⟨fun yes => ?_, fun no => ?_⟩
    · rw [powerOnIff.mp yes]
      exact stringAfterReset_powerOn ..
    · rw [stringAfterReset_retaining (keptIff.mp no)]
      exact ⟨rfl, rfl⟩
  · rw [strings]
    exact List.length_mapIdx
  · rw [conn]
    refine ⟨fun yes => ?_, fun no => connAfterReset_retaining s (keptIff.mp no) t.tables⟩
    rw [powerOnIff.mp yes]
    exact connAfterReset_powerOn s t.tables
  · rw [conn]
    exact connAfterReset_state ..
  · have inRange : z < (s.blocksAfterReset h.cause found).fire.zones.length := by
      rw [← length_of_unseen st.unseen, zones]
      exact low
    have zone := st.zones z low inRange
    have watched : (s.blocksAfterReset h.cause found).zoneUnwatched z = t.zoneUnwatched z :=
      (zoneUnwatched_of (st.frame .config (by decide)) (detectors_of_unseen st.unseen) z).symm
    have here := fireZone_blocksAfterReset s h.cause found z
    rw [if_pos (eight ▸ low), show s.image.loaded.tables = t.tables from tables.symm] at here
    rw [here, watched] at zone
    rcases fireZoneAfterReset_cases s h.cause t.tables (s.fireZone z) with ⟨reset, why⟩ | ⟨kept, retains, confirmed⟩
    · rw [reset] at zone
      exact .inl ⟨zone, why.imp_left powerOnIff.mpr⟩
    · rw [kept] at zone
      exact .inr ⟨zone, keptIff.mpr retains, confirmed⟩
  · have released := any_stage_of_unseen st.unseen (· == .released)
    exact (congrArg FireUnit.releaseOut st.unseen :).trans released.symm
  · have latched : t.isLatched f = ((s.blocksAfterReset h.cause found).announced s).isLatched f :=
      congrArg (fun x : FlagRec => x.latched.getLsbD f.bit) st.flags
    have clear : ((s.blocksAfterReset h.cause found).isLatched f = true) ↔ False := by
      show (0 : BitVec 16).getLsbD f.bit = true ↔ False
      rw [show (0 : BitVec 16).getLsbD f.bit = false from BitVec.getLsbD_zero]
      exact iff_of_false Bool.false_ne_true id
    have lockout : (s.blocksAfterReset h.cause found).conn = t.conn := (st.frame .conn (by decide)).symm
    have stages (z : Nat) := stage_of_unseen st.unseen z
    have confirmed : (∃ z < 8, ((s.blocksAfterReset h.cause found).fireZone z).stage.confirmed = true) ↔ t.anyConfirmed = true := by
      simp only [State.anyConfirmed, any_zones_iff zones, stages]
    have released : (∃ z < 8, ((s.blocksAfterReset h.cause found).fireZone z).stage = .released) ↔
        t.fire.zones.any (·.stage == .released) = true := by
      simp only [any_zones_iff zones, stages, beq_iff_eq]
    rw [latched, announced_latches, clear, false_or, failedRecords_ne_nil, lockout, confirmed, released]
    exact Iff.rfl
  · intro fails uncalibrated raised
    have starts : (s.blocksAfterReset h.cause found).startsUncalibrated s = fun i =>
        if powerOn then (t.stringEntry i).inUse
        else (t.stringAt i).charge.uncalibrated && !(s.stringAt i).charge.uncalibrated := by
      funext i
      rw [startsUncalibrated_eq, State.stringEntry, State.stringAt, State.tables, ← strings,
        show (s.blocksAfterReset h.cause found).config = t.config from (st.frame .config (by decide)).symm]
      exact rfl
    have stages : (fun z => ((s.blocksAfterReset h.cause found).fireZone z).stage.confirmed) = fun z =>
        (t.fireZone z).stage.confirmed := funext fun z => by rw [stage_of_unseen st.unseen z]
    have watched : (s.blocksAfterReset h.cause found).zoneUnwatched = t.zoneUnwatched :=
      funext fun z => (zoneUnwatched_of (st.frame .config (by decide)) (detectors_of_unseen st.unseen) z).symm
    have names : (s.blocksAfterReset h.cause found).allNames s ++
        [((.started, some (s.blocksAfterReset h.cause found).startedSubject) : NoticeName)] = raised := by
      rw [State.allNames, State.startNames, starts, stages, watched, startedSubject_blocksAfterReset]
      exact rfl
    refine ⟨?_, ?_⟩
    · rw [← names]
      exact st.notices
    · rw [st.counters, ← names, List.length_append, List.length_singleton]
  · intro m zero command
    have frames : (s.blocksAfterReset h.cause found).zeroFrame = fun a =>
        t.ownFrame kindDispatch a (dispatchPayload 0 0 0 false { held := true, corrective := true }) := by
      funext a
      rw [State.zeroFrame, ownFrame_of_sys (st.frame .sys (by decide))]
      exact rfl
    rw [st.port, frames]
    exact rfl

end Sys2Proof.Machine
end
